-- ==== Sys2Proof/Word.lean ====
section
/-! DEFINITION. The units the part handles on its links and in its copy store: bytes, copy lines,
the 16-bit check register, and the packing of numbers into bytes. -/

namespace Sys2Proof

/-- One character or byte of a link, one text code, or one typesetter code (8 bits). -/
abbrev Byte := BitVec 8

/-- The 16-bit shift register of the host channel's cyclic check (R178). -/
abbrev CheckWord := BitVec 16

/-- One copy line: its characters in order (R4). -/
abbrev CopyLine := List Byte

/-- The byte whose value is `n` modulo 256. -/
def byte (n : Nat) : Byte := BitVec.ofNat 8 n

/-- The characters of an ASCII literal as bytes. -/
def ascii (t : String) : List Byte := t.toList.map fun c => byte c.toNat

end Sys2Proof
end

