-- ==== Sys2Proof/Config.lean ====
section
/-! DEFINITION. What the part was built with (the Capacities table of 00_scope.md, and the fixed times and
thresholds its rules name), and the values the reference leaves open, as constants with no body. -/

namespace Sys2Proof.Config

/-- Terminal lines, numbered 0 to 31. -/
def lines : Nat := 32
/-- Desks, numbered 0 to 15. -/
def desks : Nat := 16
/-- Story records, numbered 1 to 512 (R1). -/
def stories : Nat := 512
/-- Blocks of the copy store (R5). -/
def blocks : Nat := 8192
/-- Characters in one block of the copy store (R5). -/
def blockSize : Nat := 256
/-- Most copy lines in one story (R4). -/
def maxLines : Nat := 999
/-- Most characters in one copy line (R4). -/
def maxLineLength : Nat := 80
/-- Greatest stored length of one story (R4). -/
def maxStored : Nat := 32768
/-- Free blocks below which the store-low latch is set (R7). -/
def storeLow : Nat := 256
/-- Free blocks at which the store-low latch clears (R7). -/
def storeOk : Nat := 512
/-- Page records, ids 1 to 48 (R126). -/
def pages : Nat := 48
/-- Slots of one page, numbered 1 to 16 (R126). -/
def slots : Nat := 16
/-- Styles of the style table (R102). -/
def styles : Nat := 32
/-- Fonts, each with a width table (R103). -/
def fonts : Nat := 8
/-- Width entries of one font, for codes 33 to 126 (R103). -/
def widths : Nat := 94
/-- Places in the output queue (R149). -/
def queue : Nat := 16
/-- Codes a setter port's FIFO can hold (R151). -/
def fifo : Nat := 512
/-- The fill at which the builder stops placing codes (R155). -/
def fifoStop : Nat := 448
/-- Entries of the flash list (R95). -/
def flashes : Nat := 8
/-- Notices the notice queue can hold (R184). -/
def notices : Nat := 48
/-- Requests the intake can hold, and BUSY replies the reply path can hold (R180, R181). -/
def intake : Nat := 4
/-- Characters of one terminal frame, start character and check included (R69). -/
def receiveBuffer : Nat := 4096
/-- Greatest body length of a host channel frame (R178). -/
def hostBody : Nat := 4096
/-- Editions (R167). -/
def editions : Nat := 15
/-- Typeset lines one composition may emit (R114). -/
def maxTypeset : Nat := 4095
/-- Where a story's depth saturates (R117). -/
def maxDepth : Nat := 65535
/-- Where the forced-break count and a job's restarts saturate (R113, R147). -/
def maxByte : Nat := 255
/-- Seconds a sign-on waits for its verdict (R74, R78). -/
def signonWait : Nat := 30
/-- Entries one BASKET reply returns at most (R39). -/
def basketEntries : Nat := 120
/-- Stored characters one READ reply returns at most (R15). -/
def readChars : Nat := 4080
/-- The part code IDENT returns (R187). -/
def partCode : Nat := 3200
/-- The revision number IDENT returns (R187). -/
def revision : Nat := 1

/-- FREE VALUE (assumption 7). A RELEASE refused with HELD names a holder (R135, 11.1), and where several stories
of the page are held the reference does not say whose: which of them it is, applied to the running count of
such choices. Nothing constrains it. -/
opaque heldChoice : Nat → Nat

/-- FREE VALUE (assumption 8). The bytes of a notice that its detail gives no meaning (11.4): the fate of an OUTPUT
notice other than LOST, and the edition and seconds of a SET notice with no margin. Applied to the running count
of free choices and to the place of the byte; nothing constrains it. -/
opaque filler : Nat → Nat → Byte

end Sys2Proof.Config
end

