-- ==== Sys2Proof/Syntax.lean ====
section
/-! DEFINITION. The commands of the part: one constructor of `Instr` for each row of spec/opcode_table.json.

A host request carries the tag its reply returns (R178) and its fields in the order its rule names them; a terminal
frame carries the line it arrives on and its fields; an event carries the line, port or story it happens to. Fields
are the numbers the frame carries, before any range check: a choice among named values is its code (chapter 11). -/

namespace Sys2Proof

/-- One of the two setter ports (R151). -/
inductive Port where
  | a
  | b
  deriving DecidableEq, Repr

/-- Why a frame from the host is discarded (R179, R190). -/
inductive HostFrameFault where
  /-- its check does not agree with its contents -/
  | badCheck
  /-- its body length exceeds 4,096 or its end flag does not follow the body -/
  | badLength
  /-- a start flag arrives before its end flag -/
  | strayStart
  /-- an escape byte is followed by a byte other than 91, 92 and 93 -/
  | badEscape
  /-- its type is not REQUEST -/
  | wrongType
  deriving DecidableEq, Repr

/-- Why a terminal frame or character is discarded at the check gate (R69). -/
inductive LineFault where
  | framing
  | overrun
  | longFrame
  | check
  deriving DecidableEq, Repr

/-- The seven optional fields of STYLE (R102, R105). -/
structure StyleFields where
  font : Option Nat
  size : Option Nat
  leading : Option Nat
  indent : Option Nat
  wordSpace : Option Nat
  paraSpace : Option Nat
  measure : Option Nat
  deriving DecidableEq, Repr

/-- The commands: every row of spec/opcode_table.json. -/
inductive Instr where
  -- resets and the host channel
  | powerReset
  | hostFrameDiscarded (fault : HostFrameFault)
  | requestArrival (bytes : List Byte)
  | hostFrameSent
  | unknownRequest (tag : Byte) (kind : List Byte)
  -- copy directory and copy store
  | create (tag : Byte) (slug : List Byte) (desk style priority : Nat)
  | textAppend (tag : Byte) (story : Nat) (style : Option Nat) (new : List CopyLine)
  | textReplace (tag : Byte) (story : Nat) (style : Option Nat) (new : List CopyLine)
  | textReplaceRange (tag : Byte) (story : Nat) (style : Option Nat) (first count : Nat) (new : List CopyLine)
  | read (tag : Byte) (story first : Nat)
  | info (tag : Byte) (story : Nat)
  | purge (tag : Byte) (story : Nat)
  | new (line : Fin 32) (slug : List Byte) (style priority : Nat)
  -- desks
  | hostRoute (tag : Byte) (story desk : Nat)
  | terminalRoute (line : Fin 32) (story desk : Nat)
  | hostPriority (tag : Byte) (story priority : Nat)
  | terminalPriority (line : Fin 32) (priority : Nat)
  | hostSpike (tag : Byte) (story : Nat)
  | terminalSpike (line : Fin 32) (story : Nat)
  | unspike (tag : Byte) (story : Nat)
  | hostKill (tag : Byte) (story : Nat)
  | terminalKill (line : Fin 32) (story : Nat)
  | arm (line : Fin 32)
  | basket (tag : Byte) (desk list first : Nat)
  -- holds
  | terminalOpen (line : Fin 32) (story : Nat)
  | hostOpen (tag : Byte) (story : Nat)
  | terminalClose (line : Fin 32)
  | hostClose (tag : Byte) (story : Nat)
  | free (tag : Byte) (story : Nat)
  | holdtime (tag : Byte) (seconds : Nat)
  | orphanExpiry (story : Nat)
  -- lines
  | lineset (tag : Byte) (line : Nat) (speed model dimTime wakeFlash wakeUrgent : Option Nat)
  | lineon (tag : Byte) (line : Nat)
  | lineoff (tag : Byte) (line : Nat)
  | linestat (tag : Byte) (line : Nat)
  | carrierDrop (line : Fin 32)
  | carrierReturn (line : Fin 32)
  | terminalFrameReceived (line : Fin 32) (chars : List Byte)
  | terminalFrameDiscarded (line : Fin 32) (fault : LineFault)
  | lineFrameSent (line : Fin 32)
  | signon (line : Fin 32) (user : Nat)
  | verdictGrant (tag : Byte) (line desk role : Nat)
  | verdictDeny (tag : Byte) (line : Nat)
  | signonTimeout (line : Fin 32)
  | signoff (line : Fin 32)
  | dim (line : Fin 32)
  -- screens, flashes and lamps
  | window (line : Fin 32) (first : Option Nat)
  | ret (line : Fin 32) (range : Option (Nat × Nat)) (new : List CopyLine)
  | home (line : Fin 32) (desk first : Option Nat)
  | seen (line : Fin 32)
  | flash (tag : Byte) (text : List Byte) (mask : BitVec 16)
  | lamp (tag : Byte) (line source : Nat)
  -- copyfitting
  | style (tag : Byte) (number : Nat) (fields : StyleFields)
  | widths (tag : Byte) (font first : Nat) (values : List Nat)
  | fitTake
  | fitCompletion
  -- pages
  | pageopen (tag : Byte) (label : Nat) (edition tolerance : Option Nat)
  | slotDefine (tag : Byte) (page slot depth measure : Nat)
  | slotUndefine (tag : Byte) (page slot : Nat)
  | place (tag : Byte) (story page : Nat) (run : List Nat)
  | unplace (tag : Byte) (story : Nat)
  | release (tag : Byte) (page choice trim : Nat)
  | cancel (tag : Byte) (page : Nat)
  | reopen (tag : Byte) (page : Nat)
  | pageshut (tag : Byte) (page : Nat)
  | pageinfo (tag : Byte) (page : Nat)
  -- output
  | xlate (tag : Byte) (first : Nat) (entries : List (List Nat))
  | portset (tag : Byte) (port : Nat) (lossTime failover : Option Nat)
  | porton (tag : Byte) (port : Nat)
  | portoff (tag : Byte) (port : Nat)
  | resume (tag : Byte) (port : Nat)
  | portclr (tag : Byte) (port : Nat)
  | portstat (tag : Byte) (port : Nat)
  | queue (tag : Byte)
  | codeAccepted (port : Port)
  | abortCodeSent (port : Port)
  | readyLeadRise (port : Port)
  | readyLeadFall (port : Port)
  | resultDone (port : Port)
  | resultFault (port : Port)
  | resultCodeOther (port : Port) (value : Byte)
  | portLoss (port : Port)
  -- the clock
  | secondsTick
  | terminalCount
  | clkstart (tag : Byte) (edition countdown : Nat)
  | clknext (tag : Byte) (countdown : Nat)
  | clkstop (tag : Byte)
  | clkread (tag : Byte)
  | warn (tag : Byte) (seconds : Nat)
  -- the channel interface's own requests
  | sweep (tag : Byte)
  | ident (tag : Byte)
  | restart (tag : Byte)
  | restartTakesEffect
  deriving DecidableEq, Repr

end Sys2Proof
end

