-- ==== Sys2Proof/WellFormed.lean ====
section
/-! DEFINITION. Which commands a frame can carry: every field fits the bytes chapter 11 gives it, and the whole body
fits its frame. The range checks of the rules (BAD FIELD) are the meanings' own and are not made here. -/

namespace Sys2Proof

/-- A field of one byte (chapter 11). -/
def fits8 (n : Nat) : Bool := decide (n < 256)

/-- A field of two bytes (chapter 11). -/
def fits16 (n : Nat) : Bool := decide (n < 65536)

/-- An optional field (chapter 11). -/
def fitsOpt (p : Nat → Bool) : Option Nat → Bool
  | none => true
  | some n => p n

/-- A slug takes 12 bytes padded with spaces (chapter 11): at most 12 characters, the last one no space. -/
def fitsSlug (slug : List Byte) : Bool :=
  decide (slug.length ≤ 12) && slug.getLast? != some 32

/-- The bytes copy lines take in a body: for each line its length character and its characters (11.2). -/
def linesBytes (ls : List CopyLine) : Nat := (ls.map fun l => l.length + 1).sum

/-- Copy lines whose lengths each fit a length character. -/
def fitsLines (ls : List CopyLine) : Bool := ls.all fun l => fits8 l.length

/-- The bytes an optional one-byte field takes. -/
def optBytes : Option Nat → Nat
  | none => 1
  | some _ => 2

/-- TEXT: the story, form, optional base style, fields of the form, line count and lines fit one body of at most
4,096 bytes (R178, 11.2). -/
def fitsText (story : Nat) (style : Option Nat) (formBytes : Nat) (new : List CopyLine) : Bool :=
  fits16 story && fitsOpt fits8 style && fitsLines new
    && decide (3 + optBytes style + formBytes + 2 + linesBytes new ≤ Config.hostBody)

/-- The command fits the frame that carries it. Events that no frame carries are well formed, but for a result-input
value of RESULT_CODE_OTHER, which is neither DONE nor FAULT (R192). -/
def Instr.wellFormed : Instr → Bool
  | .powerReset => true
  | .hostFrameDiscarded _ => true
  | .requestArrival _ => true
  | .hostFrameSent => true
  | .unknownRequest _ kind => decide (kind.length = 8)
  | .create _ slug desk sty priority => fitsSlug slug && fits8 desk && fits8 sty && fits8 priority
  | .textAppend _ story sty ls => fitsText story sty 0 ls
  | .textReplace _ story sty ls => fitsText story sty 0 ls
  | .textReplaceRange _ story sty first count ls =>
      fitsText story sty 4 ls && fits16 first && fits16 count
  | .read _ story first => fits16 story && fits16 first
  | .info _ story => fits16 story
  | .purge _ story => fits16 story
  | .new _ slug sty priority => fitsSlug slug && fits8 sty && fits8 priority
  | .hostRoute _ story desk => fits16 story && fits8 desk
  | .terminalRoute _ story desk => fits16 story && fits8 desk
  | .hostPriority _ story priority => fits16 story && fits8 priority
  | .terminalPriority _ priority => fits8 priority
  | .hostSpike _ story => fits16 story
  | .terminalSpike _ story => fits16 story
  | .unspike _ story => fits16 story
  | .hostKill _ story => fits16 story
  | .terminalKill _ story => fits16 story
  | .arm _ => true
  | .basket _ desk list first => fits8 desk && fits8 list && fits16 first
  | .terminalOpen _ story => fits16 story
  | .hostOpen _ story => fits16 story
  | .terminalClose _ => true
  | .hostClose _ story => fits16 story
  | .free _ story => fits16 story
  | .holdtime _ seconds => fits16 seconds
  | .orphanExpiry story => fits16 story
  | .lineset _ line speed model dimTime wakeFlash wakeUrgent =>
      fits8 line && fitsOpt fits16 speed && fitsOpt fits8 model && fitsOpt fits16 dimTime
        && fitsOpt fits8 wakeFlash && fitsOpt fits8 wakeUrgent
  | .lineon _ line => fits8 line
  | .lineoff _ line => fits8 line
  | .linestat _ line => fits8 line
  | .carrierDrop _ => true
  | .carrierReturn _ => true
  | .terminalFrameReceived _ _ => true
  | .terminalFrameDiscarded _ _ => true
  | .lineFrameSent _ => true
  | .signon _ user => fits16 user
  | .verdictGrant _ line desk role => fits8 line && fits8 desk && fits8 role
  | .verdictDeny _ line => fits8 line
  | .signonTimeout _ => true
  | .signoff _ => true
  | .dim _ => true
  | .window _ first => fitsOpt fits16 first
  | .ret _ range ls =>
      (match range with
        | none => decide (3 + linesBytes ls ≤ 4084)
        | some (f, k) => fits16 f && fits8 k && decide (6 + linesBytes ls ≤ 4084))
        && fits8 ls.length && fitsLines ls
  | .home _ desk first => fitsOpt fits8 desk && fitsOpt fits16 first
  | .seen _ => true
  | .flash _ text _ => fits8 text.length
  | .lamp _ line source => fits8 line && fits8 source
  | .style _ number f =>
      fits8 number && fitsOpt fits8 f.font && fitsOpt fits8 f.size && fitsOpt fits16 f.leading
        && fitsOpt fits8 f.indent && fitsOpt fits8 f.wordSpace && fitsOpt fits8 f.paraSpace
        && fitsOpt fits16 f.measure
  | .widths _ font first values =>
      fits8 font && fits8 first && fits8 values.length && values.all fits8
  | .fitTake => true
  | .fitCompletion => true
  | .pageopen _ label edition tolerance => fits16 label && fitsOpt fits8 edition && fitsOpt fits8 tolerance
  | .slotDefine _ page slot depth measure => fits8 page && fits8 slot && fits16 depth && fits16 measure
  | .slotUndefine _ page slot => fits8 page && fits8 slot
  | .place _ story page run => fits16 story && fits8 page && fits8 run.length && run.all fits8
  | .unplace _ story => fits16 story
  | .release _ page choice trim => fits8 page && fits8 choice && fits8 trim
  | .cancel _ page => fits8 page
  | .reopen _ page => fits8 page
  | .pageshut _ page => fits8 page
  | .pageinfo _ page => fits8 page
  | .xlate _ first entries =>
      fits8 first && fits8 entries.length
        && entries.all (fun e => decide (e.length ≤ 2) && e.all fits8)
  | .portset _ port lossTime failover => fits8 port && fitsOpt fits16 lossTime && fitsOpt fits8 failover
  | .porton _ port => fits8 port
  | .portoff _ port => fits8 port
  | .resume _ port => fits8 port
  | .portclr _ port => fits8 port
  | .portstat _ port => fits8 port
  | .queue _ => true
  | .codeAccepted _ => true
  | .abortCodeSent _ => true
  | .readyLeadRise _ => true
  | .readyLeadFall _ => true
  | .resultDone _ => true
  | .resultFault _ => true
  | .resultCodeOther _ value => value != 1 && value != 2
  | .portLoss _ => true
  | .secondsTick => true
  | .terminalCount => true
  | .clkstart _ edition countdown => fits8 edition && fits16 countdown
  | .clknext _ countdown => fits16 countdown
  | .clkstop _ => true
  | .clkread _ => true
  | .warn _ seconds => fits16 seconds
  | .sweep _ => true
  | .ident _ => true
  | .restart _ => true
  | .restartTakesEffect => true

end Sys2Proof
end

