-- ==== Sys2Proof/Decode.lean ====
section
/-! DEFINITION. The frames that carry commands (chapter 11), read and written: the number and list fields of a body,
every host request and terminal frame, and the host channel's and the terminal lines' frame layouts.

No row of spec/opcode_table.json gives its command bits, so `decodeTableWord` reads none. -/

namespace Sys2Proof

/-- The command a table word spells: no row of the table gives bits, so no word spells one. -/
def decodeTableWord (_nbits _w : Nat) : Option Instr := none

/-! ### Fields of a body (chapter 11) -/

/-- A one-byte number. -/
def u8 (n : Nat) : List Byte := [byte n]

/-- A two-byte number, high byte first (chapter 11). -/
def u16 (n : Nat) : List Byte := [byte (n / 256), byte n]

/-- A four-byte number, high byte first (a job's code counts). -/
def u32 (n : Nat) : List Byte := u16 (n / 65536) ++ u16 n

/-- A signed four-byte number in two's complement (a margin's seconds). -/
def s32 (z : Int) : List Byte := u32 (BitVec.ofInt 32 z).toNat

/-- An optional field: one byte 0 when absent, 1 and the field when present (chapter 11). -/
def optional {α : Type} (f : α → List Byte) : Option α → List Byte
  | none => u8 0
  | some x => u8 1 ++ f x

/-- Characters padded with spaces to `n` bytes (kind words, slugs). -/
def padded (n : Nat) (cs : List Byte) : List Byte := cs ++ List.replicate (n - cs.length) 32

/-- A slug: 12 bytes padded with spaces. -/
def slugField (slug : List Byte) : List Byte := padded 12 slug

/-- Copy lines: each one length character and its characters, with no separator (11.2). -/
def linesField (ls : List CopyLine) : List Byte := ls.flatMap fun l => byte l.length :: l

/-- A field reader: the value read and the bytes left, or nothing when the body is too short or malformed. -/
abbrev Reader (α : Type) := List Byte → Option (α × List Byte)

/-- Reads a one-byte number. -/
def read8 : Reader Nat
  | b :: r => some (b.toNat, r)
  | [] => none

/-- Reads a two-byte number, high byte first. -/
def read16 : Reader Nat
  | hi :: lo :: r => some (hi.toNat * 256 + lo.toNat, r)
  | _ => none

/-- Reads an optional field; a presence byte other than 0 and 1 is malformed. -/
def readOpt {α : Type} (f : Reader α) : Reader (Option α) := fun bs =>
  match bs with
  | [] => none
  | p :: r =>
    if p = 0 then some (none, r)
    else if p = 1 then
      match f r with
      | some (x, r') => some (some x, r')
      | none => none
    else none

/-- Reads `n` fields one after another. -/
def readMany {α : Type} (f : Reader α) : Nat → Reader (List α)
  | 0, bs => some ([], bs)
  | n + 1, bs =>
    match f bs with
    | none => none
    | some (x, r) =>
      match readMany f n r with
      | none => none
      | some (xs, r') => some (x :: xs, r')

/-- Reads exactly `n` bytes. -/
def readBytes (n : Nat) : Reader (List Byte) := fun bs =>
  if n ≤ bs.length then some (bs.take n, bs.drop n) else none

/-- The characters before the padding spaces. -/
def unpadded (bs : List Byte) : List Byte := (bs.reverse.dropWhile fun b => b = 32).reverse

/-- Reads a slug. -/
def readSlug : Reader (List Byte) := fun bs =>
  match readBytes 12 bs with
  | none => none
  | some (cs, r) => some (unpadded cs, r)

/-- Reads one copy line. -/
def readLine : Reader CopyLine := fun bs =>
  match bs with
  | [] => none
  | n :: r => readBytes n.toNat r

/-- Reads a list preceded by a one-byte count. -/
def readList8 {α : Type} (f : Reader α) : Reader (List α) := fun bs =>
  match read8 bs with
  | none => none
  | some (n, r) => readMany f n r

/-- Reads a list preceded by a two-byte count. -/
def readList16 {α : Type} (f : Reader α) : Reader (List α) := fun bs =>
  match read16 bs with
  | none => none
  | some (n, r) => readMany f n r

/-- A body that carries no fields. -/
def readNone (i : Instr) (body : List Byte) : Option Instr := if body.isEmpty then some i else none

/-- A body of one field that `f` reads and nothing after it. -/
def read1 {α : Type} (f : Reader α) (k : α → Instr) (body : List Byte) : Option Instr :=
  match f body with
  | some (x, []) => some (k x)
  | _ => none

/-- A body of a one-byte field and what `k` reads after it. -/
def then8 (k : Nat → List Byte → Option Instr) (body : List Byte) : Option Instr :=
  match read8 body with
  | some (x, r) => k x r
  | none => none

/-- A body of a two-byte field and what `k` reads after it. -/
def then16 (k : Nat → List Byte → Option Instr) (body : List Byte) : Option Instr :=
  match read16 body with
  | some (x, r) => k x r
  | none => none

/-- A body of an optional field and what `k` reads after it. -/
def thenOpt (f : Reader Nat) (k : Option Nat → List Byte → Option Instr) (body : List Byte) : Option Instr :=
  match readOpt f body with
  | some (x, r) => k x r
  | none => none

/-- A body of a slug and what `k` reads after it. -/
def thenSlug (k : List Byte → List Byte → Option Instr) (body : List Byte) : Option Instr :=
  match readSlug body with
  | some (x, r) => k x r
  | none => none

/-! ### Host requests -/

/-- A host request kind word, padded to its eight bytes (11.1). -/
def kindWord (w : String) : List Byte := padded 8 (ascii w)

/-- TEXT after its story number: the form (0 APPEND, 1 REPLACE, 2 REPLACE RANGE), the optional base style, the fields
of the form, and the new lines preceded by their count in two bytes (R12, 11.2). -/
def readText (tag : Byte) (story : Nat) : List Byte → Option Instr :=
  then8 fun form => thenOpt read8 fun style =>
    match form with
    | 0 => read1 (readList16 readLine) (.textAppend tag story style)
    | 1 => read1 (readList16 readLine) (.textReplace tag story style)
    | 2 => then16 fun first => then16 fun count =>
        read1 (readList16 readLine) (.textReplaceRange tag story style first count)
    | _ => fun _ => none

/-- STYLE after its style number: the seven optional fields in the order of R102. -/
def readStyle (tag : Byte) (number : Nat) : List Byte → Option Instr :=
  thenOpt read8 fun font => thenOpt read8 fun size => thenOpt read16 fun leading =>
  thenOpt read8 fun indent => thenOpt read8 fun wordSpace => thenOpt read8 fun paraSpace =>
    read1 (readOpt read16) fun measure =>
      .style tag number
        { font := font, size := size, leading := leading, indent := indent, wordSpace := wordSpace,
          paraSpace := paraSpace, measure := measure }

/-- A flash text: one byte of length followed by its characters (chapter 11). -/
def readFlash (tag : Byte) (body : List Byte) : Option Instr :=
  match readLine body with
  | some (text, r) => read1 read16 (fun m => .flash tag text (BitVec.ofNat 16 m)) r
  | none => none

/-- SLOT after its slot number: 0 with a depth and a measure, or 1 for UNDEFINE (R130). -/
def readSlot (tag : Byte) (page slot : Nat) : List Byte → Option Instr :=
  then8 fun form =>
    match form with
    | 0 => then16 fun depth => read1 read16 (.slotDefine tag page slot depth)
    | 1 => readNone (.slotUndefine tag page slot)
    | _ => fun _ => none

/-- VERDICT after its line number: 0 GRANT with a desk and a role, or 1 DENY (R76). -/
def readVerdict (tag : Byte) (line : Nat) : List Byte → Option Instr :=
  then8 fun verdict =>
    match verdict with
    | 0 => then8 fun desk => read1 read8 (.verdictGrant tag line desk)
    | 1 => readNone (.verdictDeny tag line)
    | _ => fun _ => none

/-- The request words (table "Request words by owning block", chapter 10) and the reader of each one's body. -/
def hostWords (tag : Byte) : List (List Byte × (List Byte → Option Instr)) :=
  [ (kindWord "IDENT", readNone (.ident tag)),
    (kindWord "RESTART", readNone (.restart tag)),
    (kindWord "SWEEP", readNone (.sweep tag)),
    (kindWord "LINESET", then8 fun line => thenOpt read16 fun speed => thenOpt read8 fun model =>
      thenOpt read16 fun dim => thenOpt read8 fun wf => read1 (readOpt read8) (.lineset tag line speed model dim wf)),
    (kindWord "LINEON", read1 read8 (.lineon tag)),
    (kindWord "LINEOFF", read1 read8 (.lineoff tag)),
    (kindWord "LINESTAT", read1 read8 (.linestat tag)),
    (kindWord "VERDICT", then8 (readVerdict tag)),
    (kindWord "LAMP", then8 fun line => read1 read8 (.lamp tag line)),
    (kindWord "FLASH", readFlash tag),
    (kindWord "CREATE", thenSlug fun slug => then8 fun desk => then8 fun style =>
      read1 read8 (.create tag slug desk style)),
    (kindWord "TEXT", then16 (readText tag)),
    (kindWord "READ", then16 fun story => read1 read16 (.read tag story)),
    (kindWord "INFO", read1 read16 (.info tag)),
    (kindWord "PURGE", read1 read16 (.purge tag)),
    (kindWord "ROUTE", then16 fun story => read1 read8 (.hostRoute tag story)),
    (kindWord "PRIORITY", then16 fun story => read1 read8 (.hostPriority tag story)),
    (kindWord "SPIKE", read1 read16 (.hostSpike tag)),
    (kindWord "UNSPIKE", read1 read16 (.unspike tag)),
    (kindWord "KILL", read1 read16 (.hostKill tag)),
    (kindWord "BASKET", then8 fun desk => then8 fun list => read1 read16 (.basket tag desk list)),
    (kindWord "OPEN", read1 read16 (.hostOpen tag)),
    (kindWord "CLOSE", read1 read16 (.hostClose tag)),
    (kindWord "FREE", read1 read16 (.free tag)),
    (kindWord "HOLDTIME", read1 read16 (.holdtime tag)),
    (kindWord "STYLE", then8 (readStyle tag)),
    (kindWord "WIDTHS", then8 fun font => then8 fun first => read1 (readList8 read8) (.widths tag font first)),
    (kindWord "PAGEOPEN", then16 fun label => thenOpt read8 fun edition =>
      read1 (readOpt read8) (.pageopen tag label edition)),
    (kindWord "SLOT", then8 fun page => then8 (readSlot tag page)),
    (kindWord "PLACE", then16 fun story => then8 fun page => read1 (readList8 read8) (.place tag story page)),
    (kindWord "UNPLACE", read1 read16 (.unplace tag)),
    (kindWord "RELEASE", then8 fun page => then8 fun choice => read1 read8 (.release tag page choice)),
    (kindWord "CANCEL", read1 read8 (.cancel tag)),
    (kindWord "REOPEN", read1 read8 (.reopen tag)),
    (kindWord "PAGESHUT", read1 read8 (.pageshut tag)),
    (kindWord "PAGEINFO", read1 read8 (.pageinfo tag)),
    (kindWord "XLATE", then8 fun first => read1 (readList8 (readList8 read8)) (.xlate tag first)),
    (kindWord "PORTSET", then8 fun port => thenOpt read16 fun loss => read1 (readOpt read8) (.portset tag port loss)),
    (kindWord "PORTON", read1 read8 (.porton tag)),
    (kindWord "PORTOFF", read1 read8 (.portoff tag)),
    (kindWord "PORTCLR", read1 read8 (.portclr tag)),
    (kindWord "RESUME", read1 read8 (.resume tag)),
    (kindWord "PORTSTAT", read1 read8 (.portstat tag)),
    (kindWord "QUEUE", readNone (.queue tag)),
    (kindWord "CLKSTART", then8 fun edition => read1 read16 (.clkstart tag edition)),
    (kindWord "CLKNEXT", read1 read16 (.clknext tag)),
    (kindWord "CLKSTOP", readNone (.clkstop tag)),
    (kindWord "CLKREAD", readNone (.clkread tag)),
    (kindWord "WARN", read1 read16 (.warn tag)) ]

/-- The command that takes a valid request (R178). A kind word that names no request, and a body that its owning
block finds malformed, are both answered BAD FIELD under the request's own kind word and touch no record, so both
are the command UNKNOWN_REQUEST (assumption 3). -/
def hostRequest (tag : Byte) (kind body : List Byte) : Instr :=
  match (hostWords tag).find? (fun w => w.1 = kind) with
  | none => .unknownRequest tag kind
  | some w => (w.2 body).getD (.unknownRequest tag kind)

/-! ### Terminal frames -/

/-- What a valid terminal frame is: of a kind no terminal may send, of a known kind with a malformed body, or a
request (R69, R71). -/
inductive TerminalFrame where
  | unknown
  | malformed
  | request (i : Instr)
  deriving DecidableEq, Repr

/-- RETURN's f and k, which may be omitted together (R88): both present or both absent. -/
def readReturn (line : Fin 32) (body : List Byte) : Option Instr :=
  match readOpt read16 body with
  | none => none
  | some (f, r) =>
    match readOpt read8 r with
    | none => none
    | some (k, r') =>
      match f, k with
      | none, none => read1 (readList8 readLine) (.ret line none) r'
      | some f, some k => read1 (readList8 readLine) (.ret line (some (f, k))) r'
      | _, _ => none

/-- The frame kinds a terminal may send (chapter 4) and the reader of each one's body. -/
def terminalWords (line : Fin 32) : List (List Byte × (List Byte → Option Instr)) :=
  [ (kindWord "SIGNON", read1 read16 (.signon line)),
    (kindWord "SIGNOFF", readNone (.signoff line)),
    (kindWord "ARM", readNone (.arm line)),
    (kindWord "NEW", thenSlug fun slug => then8 fun style => read1 read8 (.new line slug style)),
    (kindWord "ROUTE", then16 fun story => read1 read8 (.terminalRoute line story)),
    (kindWord "PRIORITY", read1 read8 (.terminalPriority line)),
    (kindWord "SPIKE", read1 read16 (.terminalSpike line)),
    (kindWord "KILL", read1 read16 (.terminalKill line)),
    (kindWord "OPEN", read1 read16 (.terminalOpen line)),
    (kindWord "CLOSE", readNone (.terminalClose line)),
    (kindWord "WINDOW", read1 (readOpt read16) (.window line)),
    (kindWord "RETURN", readReturn line),
    (kindWord "HOME", thenOpt read8 fun desk => read1 (readOpt read16) (.home line desk)),
    (kindWord "SEEN", readNone (.seen line)) ]

/-- A valid terminal frame read by its kind word and body. -/
def terminalFrame (line : Fin 32) (kind body : List Byte) : TerminalFrame :=
  match (terminalWords line).find? (fun w => w.1 = kind) with
  | none => .unknown
  | some w =>
    match w.2 body with
    | none => .malformed
    | some i => .request i

/-! ### The encoder: kind word and body of every request -/

/-- The tag a host request carries (R178); 0 for every other command. -/
def Instr.tag : Instr → Byte
  | .unknownRequest t _ | .create t _ _ _ _ | .textAppend t _ _ _ | .textReplace t _ _ _
  | .textReplaceRange t _ _ _ _ _ | .read t _ _ | .info t _ | .purge t _ | .hostRoute t _ _
  | .hostPriority t _ _ | .hostSpike t _ | .unspike t _ | .hostKill t _ | .basket t _ _ _
  | .hostOpen t _ | .hostClose t _ | .free t _ | .holdtime t _ | .lineset t _ _ _ _ _ _
  | .lineon t _ | .lineoff t _ | .linestat t _ | .verdictGrant t _ _ _ | .verdictDeny t _
  | .flash t _ _ | .lamp t _ _ | .style t _ _ | .widths t _ _ _ | .pageopen t _ _ _
  | .slotDefine t _ _ _ _ | .slotUndefine t _ _ | .place t _ _ _ | .unplace t _ | .release t _ _ _
  | .cancel t _ | .reopen t _ | .pageshut t _ | .pageinfo t _ | .xlate t _ _ | .portset t _ _ _
  | .porton t _ | .portoff t _ | .resume t _ | .portclr t _ | .portstat t _ | .queue t
  | .clkstart t _ _ | .clknext t _ | .clkstop t | .clkread t | .warn t _ | .sweep t | .ident t
  | .restart t => t
  | _ => 0

/-- The kind word of the frame that carries a request; empty for an event, which no frame carries. -/
def Instr.kind : Instr → List Byte
  | .unknownRequest _ kind => kind
  | .create _ _ _ _ _ => kindWord "CREATE"
  | .textAppend _ _ _ _ => kindWord "TEXT"
  | .textReplace _ _ _ _ => kindWord "TEXT"
  | .textReplaceRange _ _ _ _ _ _ => kindWord "TEXT"
  | .read _ _ _ => kindWord "READ"
  | .info _ _ => kindWord "INFO"
  | .purge _ _ => kindWord "PURGE"
  | .new _ _ _ _ => kindWord "NEW"
  | .hostRoute _ _ _ => kindWord "ROUTE"
  | .terminalRoute _ _ _ => kindWord "ROUTE"
  | .hostPriority _ _ _ => kindWord "PRIORITY"
  | .terminalPriority _ _ => kindWord "PRIORITY"
  | .hostSpike _ _ => kindWord "SPIKE"
  | .terminalSpike _ _ => kindWord "SPIKE"
  | .unspike _ _ => kindWord "UNSPIKE"
  | .hostKill _ _ => kindWord "KILL"
  | .terminalKill _ _ => kindWord "KILL"
  | .arm _ => kindWord "ARM"
  | .basket _ _ _ _ => kindWord "BASKET"
  | .terminalOpen _ _ => kindWord "OPEN"
  | .hostOpen _ _ => kindWord "OPEN"
  | .terminalClose _ => kindWord "CLOSE"
  | .hostClose _ _ => kindWord "CLOSE"
  | .free _ _ => kindWord "FREE"
  | .holdtime _ _ => kindWord "HOLDTIME"
  | .lineset _ _ _ _ _ _ _ => kindWord "LINESET"
  | .lineon _ _ => kindWord "LINEON"
  | .lineoff _ _ => kindWord "LINEOFF"
  | .linestat _ _ => kindWord "LINESTAT"
  | .signon _ _ => kindWord "SIGNON"
  | .verdictGrant _ _ _ _ => kindWord "VERDICT"
  | .verdictDeny _ _ => kindWord "VERDICT"
  | .signoff _ => kindWord "SIGNOFF"
  | .window _ _ => kindWord "WINDOW"
  | .ret _ _ _ => kindWord "RETURN"
  | .home _ _ _ => kindWord "HOME"
  | .seen _ => kindWord "SEEN"
  | .flash _ _ _ => kindWord "FLASH"
  | .lamp _ _ _ => kindWord "LAMP"
  | .style _ _ _ => kindWord "STYLE"
  | .widths _ _ _ _ => kindWord "WIDTHS"
  | .pageopen _ _ _ _ => kindWord "PAGEOPEN"
  | .slotDefine _ _ _ _ _ => kindWord "SLOT"
  | .slotUndefine _ _ _ => kindWord "SLOT"
  | .place _ _ _ _ => kindWord "PLACE"
  | .unplace _ _ => kindWord "UNPLACE"
  | .release _ _ _ _ => kindWord "RELEASE"
  | .cancel _ _ => kindWord "CANCEL"
  | .reopen _ _ => kindWord "REOPEN"
  | .pageshut _ _ => kindWord "PAGESHUT"
  | .pageinfo _ _ => kindWord "PAGEINFO"
  | .xlate _ _ _ => kindWord "XLATE"
  | .portset _ _ _ _ => kindWord "PORTSET"
  | .porton _ _ => kindWord "PORTON"
  | .portoff _ _ => kindWord "PORTOFF"
  | .resume _ _ => kindWord "RESUME"
  | .portclr _ _ => kindWord "PORTCLR"
  | .portstat _ _ => kindWord "PORTSTAT"
  | .queue _ => kindWord "QUEUE"
  | .clkstart _ _ _ => kindWord "CLKSTART"
  | .clknext _ _ => kindWord "CLKNEXT"
  | .clkstop _ => kindWord "CLKSTOP"
  | .clkread _ => kindWord "CLKREAD"
  | .warn _ _ => kindWord "WARN"
  | .sweep _ => kindWord "SWEEP"
  | .ident _ => kindWord "IDENT"
  | .restart _ => kindWord "RESTART"
  | _ => []

/-- TEXT's body (R12, 11.2). -/
def textBody (story form : Nat) (style : Option Nat) (fields : List Byte) (new : List CopyLine) : List Byte :=
  u16 story ++ u8 form ++ optional u8 style ++ fields ++ u16 new.length ++ linesField new

/-- The body of the frame that carries a request: the fields its rule names, in the order it names them
(chapter 11). -/
def Instr.body : Instr → List Byte
  | .create _ slug desk sty priority => slugField slug ++ u8 desk ++ u8 sty ++ u8 priority
  | .textAppend _ story sty ls => textBody story 0 sty [] ls
  | .textReplace _ story sty ls => textBody story 1 sty [] ls
  | .textReplaceRange _ story sty first count ls => textBody story 2 sty (u16 first ++ u16 count) ls
  | .read _ story first => u16 story ++ u16 first
  | .info _ story | .purge _ story | .hostSpike _ story | .unspike _ story | .hostKill _ story
  | .hostOpen _ story | .hostClose _ story | .free _ story | .unplace _ story => u16 story
  | .terminalSpike _ story | .terminalKill _ story | .terminalOpen _ story => u16 story
  | .new _ slug sty priority => slugField slug ++ u8 sty ++ u8 priority
  | .hostRoute _ story desk => u16 story ++ u8 desk
  | .terminalRoute _ story desk => u16 story ++ u8 desk
  | .hostPriority _ story priority => u16 story ++ u8 priority
  | .terminalPriority _ priority => u8 priority
  | .basket _ desk list first => u8 desk ++ u8 list ++ u16 first
  | .holdtime _ seconds => u16 seconds
  | .lineset _ line speed model dimTime wakeFlash wakeUrgent =>
      u8 line ++ optional u16 speed ++ optional u8 model ++ optional u16 dimTime ++ optional u8 wakeFlash
        ++ optional u8 wakeUrgent
  | .lineon _ line | .lineoff _ line | .linestat _ line => u8 line
  | .signon _ user => u16 user
  | .verdictGrant _ line desk role => u8 line ++ u8 0 ++ u8 desk ++ u8 role
  | .verdictDeny _ line => u8 line ++ u8 1
  | .window _ first => optional u16 first
  | .ret _ range ls =>
      optional u16 (range.map Prod.fst) ++ optional u8 (range.map Prod.snd) ++ u8 ls.length ++ linesField ls
  | .home _ desk first => optional u8 desk ++ optional u16 first
  | .flash _ text mask => u8 text.length ++ text ++ u16 mask.toNat
  | .lamp _ line source => u8 line ++ u8 source
  | .style _ number f =>
      u8 number ++ optional u8 f.font ++ optional u8 f.size ++ optional u16 f.leading ++ optional u8 f.indent
        ++ optional u8 f.wordSpace ++ optional u8 f.paraSpace ++ optional u16 f.measure
  | .widths _ font first values => u8 font ++ u8 first ++ u8 values.length ++ values.flatMap u8
  | .pageopen _ label edition tolerance => u16 label ++ optional u8 edition ++ optional u8 tolerance
  | .slotDefine _ page slot depth measure => u8 page ++ u8 slot ++ u8 0 ++ u16 depth ++ u16 measure
  | .slotUndefine _ page slot => u8 page ++ u8 slot ++ u8 1
  | .place _ story page run => u16 story ++ u8 page ++ u8 run.length ++ run.flatMap u8
  | .release _ page choice trim => u8 page ++ u8 choice ++ u8 trim
  | .cancel _ page | .reopen _ page | .pageshut _ page | .pageinfo _ page => u8 page
  | .xlate _ first entries =>
      u8 first ++ u8 entries.length ++ entries.flatMap fun e => u8 e.length ++ e.flatMap u8
  | .portset _ port lossTime failover => u8 port ++ optional u16 lossTime ++ optional u8 failover
  | .porton _ port | .portoff _ port | .resume _ port | .portclr _ port | .portstat _ port => u8 port
  | .clkstart _ edition countdown => u8 edition ++ u16 countdown
  | .clknext _ countdown => u16 countdown
  | .warn _ seconds => u16 seconds
  | _ => []

/-! ### Host channel frames (11.1, R178, R190) -/

/-- One shift of the check register: generator x^16 + x^12 + x^5 + 1 (R178). -/
def checkShift (c : CheckWord) : CheckWord :=
  if c.msb then (c <<< 1) ^^^ 0x1021#16 else c <<< 1

/-- One byte into the check register, highest bit first (R190). -/
def checkByte (c : CheckWord) (b : Byte) : CheckWord :=
  let c0 := c ^^^ (b.setWidth 16 <<< 8)
  checkShift (checkShift (checkShift (checkShift (checkShift (checkShift (checkShift (checkShift c0)))))))

/-- The 16-bit check over the bytes from the frame type to the last byte of the body, from all ones, with no final
inversion (R178, R190). -/
def cyclicCheck (bs : List Byte) : CheckWord := bs.foldl checkByte 0xFFFF#16

/-- One byte as it goes between the flags: 123, 124 and 125 escaped (R190). -/
def escapeByte (b : Byte) : List Byte :=
  if b = 123 ∨ b = 124 ∨ b = 125 then [125, b - 32] else [b]

/-- The part of a frame the check covers: type, tag, kind word, body length and body (11.1). -/
def frameContent (type tag : Byte) (kind body : List Byte) : List Byte :=
  type :: tag :: (kind ++ u16 body.length ++ body)

/-- A host channel frame, byte for byte: start flag, escaped content and check, end flag (11.1, R190). -/
def hostFrame (type tag : Byte) (kind body : List Byte) : List Byte :=
  let content := frameContent type tag kind body
  123 :: ((content ++ u16 (cyclicCheck content).toNat).flatMap escapeByte ++ [124])

/-- What a completed frame between its flags holds once restored (R178, R179): a valid request's tag, kind word and
body, or nothing when the frame is to be discarded. -/
def hostFrameRequest (bs : List Byte) : Option (Byte × List Byte × List Byte) :=
  match bs with
  | type :: tag :: rest =>
    let kind := rest.take 8
    match read16 (rest.drop 8) with
    | none => none
    | some (len, tail) =>
      let body := tail.take len
      if len ≤ Config.hostBody ∧ tail.length = len + 2
          ∧ tail.drop len = u16 (cyclicCheck (frameContent type tag kind body)).toNat ∧ type = 1 then
        some (tag, kind, body)
      else none
  | _ => none

/-! ### Terminal frames (11.2, R191) -/

/-- The 8-bit sum of a frame's characters (R191). -/
def frameSum (bs : List Byte) : Byte := bs.foldl (· + ·) 0

/-- A terminal frame, character for character: start character, kind word, body length, body and check (11.2). -/
def lineFrame (kind body : List Byte) : List Byte :=
  let chars := 255 :: (kind ++ u16 body.length ++ body)
  chars ++ [0 - frameSum chars]

/-- The whole length of the frame whose first characters are given, once its body length has arrived (11.2). -/
def lineFrameLength (bs : List Byte) : Option Nat :=
  match read16 (bs.drop 9) with
  | some (n, _) => some (n + 12)
  | none => none

end Sys2Proof
end

