-- ==== Sys2Proof/Machine/State.lean ====
section
/-! DEFINITION. The records of the part, block by block (the nine blocks of 00_scope.md), the queue of commands
that wait, the reasons a step can stop, and the state right after power reset. Data only. -/

namespace Sys2Proof.Machine

/-! ### The copy directory and copy store (chapters 1 to 3) -/

/-- A story's urgency class (R1). -/
inductive Priority where
  | routine
  | urgent
  | flash
  deriving DecidableEq, Repr

/-- Where a story stands in its life (R1). -/
inductive Stage where
  | free
  | basket
  | placed
  | setting
  | set
  | spiked
  deriving DecidableEq, Repr

/-- Where a story's fit results stand (R119). -/
inductive FitState where
  | none
  | stale
  | computing
  | current
  deriving DecidableEq, Repr

/-- Who holds a story (R42). An orphaned hold carries the orphan user and the orphan timer. -/
inductive Holder where
  | absent
  | line (n : Nat)
  | orphan (n user seconds : Nat)
  | channel
  deriving DecidableEq, Repr

/-- The results of one completed fit (R118). -/
structure FitResults where
  lines : Nat
  linesSet : Nat
  overset : Nat
  perSlot : List Nat
  depth : Nat
  underset : Option Nat
  forcedBreaks : Nat
  limit : Bool
  deriving DecidableEq, Repr

/-- A page run: the page and the 1 to 4 slots a placed story fills, in order (R1). -/
structure Run where
  page : Nat
  slots : List Nat
  deriving DecidableEq, Repr

/-- A story record (R1). The stored length and the block count are views of `text` (R4, R5). -/
structure Story where
  slug : List Byte
  desk : Nat
  priority : Priority
  stage : Stage
  style : Nat
  holder : Holder
  editCount : Nat
  text : List CopyLine
  /-- the block chain: physical block numbers in text order (R5) -/
  chain : List Nat
  run : Option Run
  fit : FitState
  /-- the changed-during-fit mark -/
  changed : Bool
  results : Option FitResults
  deriving DecidableEq, Repr

/-- The values of a FREE record (R1). -/
def Story.freed : Story :=
  { slug := [], desk := 0, priority := .routine, stage := .free, style := 0, holder := .absent,
    editCount := 0, text := [], chain := [], run := none, fit := .none, changed := false, results := none }

/-- A desk record (R20). -/
structure Desk where
  basket : List Nat
  spikes : List Nat
  urgent : Nat
  deriving DecidableEq, Repr

/-- The copy store's pool of free blocks (R5): blocks `fresh` to 8191, on no chain since power reset, and those
returned since. The text itself is held once, in the story records. -/
structure Store where
  fresh : Nat
  returned : List Nat
  /-- the store-low latch (R7) -/
  low : Bool
  deriving DecidableEq, Repr

/-! ### The line controller and the screen server (chapters 4 and 5) -/

/-- The authority of a signed-on user (R26). -/
inductive Role where
  | reporter
  | editor
  | slot
  deriving DecidableEq, Repr

/-- The states of a line (R61). -/
inductive LineState where
  | disabled
  | idle
  | signing
  | ready
  | dim
  | lost
  deriving DecidableEq, Repr

/-- What a line's lamp shows (R98). -/
inductive LampSource where
  | off
  | on
  | basket
  | urgent
  | flash
  | deadline
  | overset
  | error
  deriving DecidableEq, Repr

/-- How a line's last sign-on stands (R60). -/
inductive SignonOutcome where
  | none
  | pending
  | granted
  | denied
  | timedOut
  | abandoned
  deriving DecidableEq, Repr

/-- The signed-on user, desk and role of a line (R60). -/
structure SignedOn where
  user : Nat
  desk : Nat
  role : Role
  deriving DecidableEq, Repr

/-- A window record: first line and lines shown (R86). -/
structure WindowRecord where
  first : Nat
  shown : Nat
  deriving DecidableEq, Repr

/-- How far the request a line serves has come: received, taken by its owner with its answer still to come
(a SIGNON that waits for its verdict, R74), or answered and waiting for its answer to begin to be sent (R72). -/
inductive ServiceStage where
  | waiting
  | taken
  | answered
  deriving DecidableEq, Repr

/-- The request in service of a line (R60, R71). `cmd` is absent for a frame that no block takes (a frame of
unknown kind, or one with a malformed body), which the line controller answers as it receives it. -/
structure Service where
  kind : List Byte
  cmd : Option Instr
  stage : ServiceStage
  deriving DecidableEq, Repr

/-- The status codes (R182, 11.1). -/
inductive Status where
  | done
  | badField
  | noSuch
  | stage
  | state
  | held
  | frozen
  | full
  | storeFull
  | tooLong
  | denied
  | empty
  | tooLate
  | limit
  | busy
  | noAnswer
  deriving DecidableEq, Repr

/-- An ANSWER in a line's answer slot (R72): a service answer or a passing answer, the kind word of the frame
it answers, its status and its details. -/
structure Answer where
  service : Bool
  kind : List Byte
  status : Status
  details : List Byte
  deriving DecidableEq, Repr

/-- A window of copy (R86). -/
structure WindowScreen where
  story : Nat
  slug : List Byte
  desk : Nat
  priority : Priority
  stage : Stage
  editCount : Nat
  lineCount : Nat
  first : Nat
  shown : Nat
  fit : FitState
  results : Option FitResults
  text : List CopyLine
  deriving DecidableEq, Repr

/-- One entry of a home screen (R91). -/
structure HomeEntry where
  position : Nat
  story : Nat
  slug : List Byte
  priority : Priority
  holder : Holder
  deriving DecidableEq, Repr

/-- A home screen: a desk's basket from a position (R91). -/
structure HomeScreen where
  desk : Nat
  length : Nat
  urgent : Nat
  first : Nat
  entries : List HomeEntry
  deriving DecidableEq, Repr

/-- A frame of the display slot (R82, R85). -/
inductive Display where
  | blank
  | window (w : WindowScreen)
  | home (h : HomeScreen)
  deriving DecidableEq, Repr

/-- The states of the edition clock (R167). -/
inductive ClockState where
  | stopped
  | running
  | overdue
  deriving DecidableEq, Repr

/-- A status line (R93). -/
structure StatusLine where
  user : Nat
  desk : Nat
  basketCount : Nat
  urgent : Nat
  edition : Nat
  clock : ClockState
  minutes : Option Nat
  flash : Option (Nat × List Byte)
  withdrawn : Option Nat
  deriving DecidableEq, Repr

/-- The five error latches of a line (R60, R69). -/
structure Latches where
  check : Bool
  framing : Bool
  overrun : Bool
  longFrame : Bool
  unknownFrame : Bool
  deriving DecidableEq, Repr

/-- A line context (R60), the line's withdrawn story (R93), its lamp lead and carrier-detect input, and the frame
its transmitter is sending (R82). -/
structure Line where
  state : LineState
  speed : Nat
  model : Nat
  lampSource : LampSource
  dimTime : Nat
  wakeFlash : Bool
  wakeUrgent : Bool
  user : Option SignedOn
  held : Option Nat
  window : Option WindowRecord
  service : Option Service
  rx : List Byte
  answer : Option Answer
  display : Option Display
  status : Option StatusLine
  latches : Latches
  override : Bool
  signonUser : Option Nat
  signonTimer : Option Nat
  outcome : SignonOutcome
  dimTimer : Option Nat
  withdrawn : Option Nat
  lamp : Bool
  carrier : Bool
  tx : Option (List Byte)
  deriving DecidableEq, Repr

/-- No error latch set. -/
def Latches.clear : Latches :=
  { check := false, framing := false, overrun := false, longFrame := false, unknownFrame := false }

/-- A line context at power reset (R60, R83). The carrier-detect level is an input; the reference gives it no
reset level (assumption 5). -/
def Line.reset : Line :=
  { state := .disabled, speed := 9600, model := 0, lampSource := .basket, dimTime := 900,
    wakeFlash := false, wakeUrgent := false, user := none, held := none, window := none,
    service := none, rx := [], answer := none, display := none, status := none,
    latches := .clear, override := false, signonUser := none, signonTimer := none,
    outcome := .none, dimTimer := none, withdrawn := none, lamp := false, carrier := false, tx := none }

/-- An entry of the flash list (R95). -/
structure FlashEntry where
  number : Nat
  text : List Byte
  mask : BitVec 16
  unseen : List Nat
  deriving DecidableEq, Repr

/-- The flash list, newest first, and the next flash number (R95). -/
structure Flashes where
  list : List FlashEntry
  next : Nat
  deriving DecidableEq, Repr

/-! ### The fit engine (chapter 6) -/

/-- One style of the style table (R102). -/
structure Style where
  font : Nat
  size : Nat
  leading : Nat
  indent : Nat
  wordSpace : Nat
  paraSpace : Nat
  measure : Nat
  deriving DecidableEq, Repr

/-- A style at power reset (R102). -/
def Style.reset : Style :=
  { font := 0, size := 20, leading := 24, indent := 36, wordSpace := 9, paraSpace := 0, measure := 144 }

/-- The in-flight record (R119): the story of the computation in flight and its discard mark. `results` is the
model's own field: what the computation composes from the records as they stood when it was taken (R121). -/
structure InFlight where
  story : Nat
  discard : Bool
  results : FitResults
  deriving DecidableEq, Repr

/-- The fit engine's records (R102, R103, R119). -/
structure FitEngine where
  styles : Vector Style 32
  widths : Vector (Vector Nat 94) 8
  queue : List Nat
  inFlight : Option InFlight
  deriving DecidableEq, Repr

/-! ### The makeup controller (chapter 7) -/

/-- The states of a page (R127). -/
inductive PageState where
  | closed
  | makeup
  | releasing
  | queued
  | setting
  | set
  deriving DecidableEq, Repr

/-- The page fit judgement (R133). -/
inductive PageFit where
  | pending
  | fits
  | short
  | over
  deriving DecidableEq, Repr

/-- The ports a page may be set on (R135). -/
inductive PortChoice where
  | a
  | b
  | either
  deriving DecidableEq, Repr

/-- A defined slot: hole depth, measure, and the occupant with the slot's position in its run (R128). -/
structure Slot where
  depth : Nat
  measure : Nat
  occupant : Option (Nat × Nat)
  deriving DecidableEq, Repr

/-- How a job ended (R126). -/
inductive JobOutcome where
  | none
  | done
  | cancelled
  | fault
  deriving DecidableEq, Repr

/-- A page's last job record (R126, R147). -/
structure JobRecord where
  total : Nat
  remaining : Nat
  outcome : JobOutcome
  restarts : Nat
  port : Option Port
  deriving DecidableEq, Repr

/-- A margin: the edition at completion and signed seconds (R126, R177). -/
structure Margin where
  edition : Nat
  seconds : Int
  deriving DecidableEq, Repr

/-- A page record (R126). An undefined slot is `none`. -/
structure Page where
  label : Nat
  edition : Nat
  state : PageState
  tolerance : Nat
  choice : PortChoice
  trim : Bool
  slots : Vector (Option Slot) 16
  fit : PageFit
  job : Option JobRecord
  margin : Option Margin
  deriving DecidableEq, Repr

/-- The values of a CLOSED page (R126). -/
def Page.shut : Page :=
  { label := 0, edition := 0, state := .closed, tolerance := 0, choice := .either, trim := false,
    slots := Vector.replicate 16 none, fit := .fits, job := none, margin := none }

/-! ### The output controller (chapter 8) -/

/-- A job in the output queue (R147). A queued job's remaining count is its total. -/
structure Job where
  page : Nat
  choice : PortChoice
  total : Nat
  restarts : Nat
  deriving DecidableEq, Repr

/-- The phases of a job at a port (R151). -/
inductive Phase where
  | sending
  | awaiting
  deriving DecidableEq, Repr

/-- The job a port holds (R147, R151). `unplaced` is the model's own field: the whole units of codes that the
builder has still to place into the FIFO (R155). -/
structure PortJob where
  job : Job
  remaining : Nat
  phase : Phase
  unplaced : List (List Byte)
  deriving DecidableEq, Repr

/-- The states of a port (R151). -/
inductive PortState where
  | offline
  | ready
  | setting
  | halted
  | lost
  | recovered
  deriving DecidableEq, Repr

/-- A setter port (R151), its ready-lead input, and the code that last left its code output. -/
structure SetterPort where
  state : PortState
  lossTime : Nat
  failover : Bool
  job : Option PortJob
  fifo : List Byte
  abort : Bool
  lossTimer : Option Nat
  lossLatch : Bool
  lead : Bool
  codeOut : Option Byte
  deriving DecidableEq, Repr

/-- A port at power reset (R151, R166). The ready-lead level is an input; the reference gives it no reset
level (assumption 5). -/
def SetterPort.reset : SetterPort :=
  { state := .offline, lossTime := 30, failover := false, job := none, fifo := [], abort := false,
    lossTimer := none, lossLatch := false, lead := false, codeOut := none }

/-- The output controller's records (R145, R149, R151). -/
structure Output where
  queue : List Job
  portA : SetterPort
  portB : SetterPort
  xlate : Vector (List Byte) 128
  deriving DecidableEq, Repr

/-! ### The edition clock (chapter 9) -/

/-- The edition clock (R167). Switch pending is set exactly while `next` holds the next deadline. -/
structure Clock where
  state : ClockState
  edition : Nat
  count : Nat
  next : Option Nat
  threshold : Nat
  /-- the near-warning latch: `true` is fired, `false` armed -/
  fired : Bool
  deriving DecidableEq, Repr

/-- The clock at power reset (R167). -/
def Clock.reset : Clock :=
  { state := .stopped, edition := 1, count := 0, next := none, threshold := 600, fired := false }

/-! ### The channel interface (chapter 10) -/

/-- A request in the intake, and whether it has been answered (R180). -/
structure Request where
  cmd : Instr
  answered : Bool
  deriving DecidableEq, Repr

/-- A reply on the reply path (R182). `overflow` marks a BUSY reply of R181, whose request took no place in the
intake; every other reply answers the intake's oldest request whose reply has not begun to be sent. -/
structure Reply where
  tag : Byte
  kind : List Byte
  status : Status
  details : List Byte
  overflow : Bool
  deriving DecidableEq, Repr

/-- The outcome a RELEASE notice reports (R184). -/
inductive ReleaseOutcome where
  | queued
  | overset
  | queueFull
  deriving DecidableEq, Repr

/-- What became of a lost port's job (R161). -/
inductive Fate where
  | failover
  | requeued
  | returned
  deriving DecidableEq, Repr

/-- The event an OUTPUT notice reports (R184). -/
inductive OutputEvent where
  | lost (page : Nat) (fate : Fate)
  | failover (page : Nat)
  | fault (page : Nat)
  | recovered
  deriving DecidableEq, Repr

/-- The event an EDITION notice reports (R171). -/
inductive EditionEvent where
  | near
  | switched
  | overdue
  deriving DecidableEq, Repr

/-- The notices: kind, object, then detail (R184). -/
inductive Notice where
  | signon (line user : Nat)
  | line (line : Nat) (entered : LineState) (orphan : Nat)
  | orphan (story user line : Nat)
  | arrival (desk story : Nat)
  | fit (page : Nat) (fit : PageFit)
  | release (page : Nat) (outcome : ReleaseOutcome)
  | set (page : Nat) (margin : Option Margin)
  | output (port : Port) (event : OutputEvent)
  | edition (event : EditionEvent) (edition count : Nat)
  | store (free : Nat)
  deriving DecidableEq, Repr

/-- The receiver's frame in progress: its restored bytes, and whether an escape byte was the last (R190). -/
structure HostRx where
  bytes : List Byte
  escape : Bool
  deriving DecidableEq, Repr

/-- The channel interface's records (R189). `restarting` holds from the taking of a RESTART until it takes
effect (R188); `tx` is the frame the transmitter is sending, byte for byte. -/
structure Channel where
  rx : Option HostRx
  intake : List Request
  replies : List Reply
  notices : List Notice
  linkError : Bool
  noticesLost : Bool
  restarting : Bool
  tx : Option (List Byte)
  deriving DecidableEq, Repr

/-- The channel interface at power reset (R189). -/
def Channel.reset : Channel :=
  { rx := none, intake := [], replies := [], notices := [], linkError := false, noticesLost := false,
    restarting := false, tx := none }

/-! ### The machine -/

/-- The part, and the commands that wait for it, first in, first out. `choices` is the MODEL's own field: how many
free choices have been made (assumption 7). -/
structure State where
  stories : Vector Story 512
  desks : Vector Desk 16
  store : Store
  orphanWindow : Nat
  lines : Vector Line 32
  flashes : Flashes
  fit : FitEngine
  pages : Vector Page 48
  output : Output
  clock : Clock
  channel : Channel
  choices : Nat
  pending : List Instr
  deriving DecidableEq, Repr

/-- The translation entry of a text code at power reset (R145): its own code for PARA, QUAD and the printing
characters, no code for the space and the stray codes. -/
def resetEntry (c : Nat) : List Byte :=
  if c = 1 ∨ c = 2 ∨ (33 ≤ c ∧ c ≤ 126) then [byte c] else []

/-- The part right after power reset (R18, R40, R59, R83, R101, R125, R144, R166, R167, R189). -/
def State.reset : State :=
  { stories := Vector.replicate 512 Story.freed
    desks := Vector.replicate 16 { basket := [], spikes := [], urgent := 0 }
    store := { fresh := 0, returned := [], low := false }
    orphanWindow := 120
    lines := Vector.replicate 32 Line.reset
    flashes := { list := [], next := 1 }
    fit := { styles := Vector.replicate 32 Style.reset
             widths := Vector.replicate 8 (Vector.replicate 94 18)
             queue := [], inFlight := none }
    pages := Vector.replicate 48 Page.shut
    output := { queue := [], portA := SetterPort.reset, portB := SetterPort.reset
                xlate := Vector.ofFn fun c => resetEntry c.val }
    clock := Clock.reset
    channel := Channel.reset
    choices := 0
    pending := [] }

/-- Why the machine stops. The reference gives every command an effect in every state of the part, so no meaning of
this model faults; the one constructor exists only so that the type is not empty. -/
inductive Fault where
  /-- raised by no meaning of this model; safe, since no run ends in it -/
  | never
  deriving DecidableEq, Repr

/-- Why a command is refused by the model. -/
inductive Refusal where
  /-- a command that has no meaning in this model yet, named by its mnemonic: raised by the arms of `exec` that
  reject by name (there is none); safe, since the run stops -/
  | notModelled (mnemonic : String)
  deriving DecidableEq, Repr

end Sys2Proof.Machine
end

