-- ==== Sys2Proof/Machine/Operands.lean ====
section
/-! DEFINITION. Operands: the codes of named values in the frames (chapter 11), the checks a field passes before a
rule takes it, and the clamped fields (Conventions of 00_scope.md). -/

namespace Sys2Proof.Machine

/-! ### Named values and their codes

"A choice among named values takes one byte, with the values numbered from 0 in the order in which the owning rule
lists them" (chapter 11). -/

/-- Priority codes: 0 ROUTINE, 1 URGENT, 2 FLASH (R9, 11.4). -/
def Priority.ofCode : Nat → Option Priority
  | 0 => some .routine
  | 1 => some .urgent
  | 2 => some .flash
  | _ => none

/-- The code of a priority (11.4). -/
def Priority.code : Priority → Nat
  | .routine => 0
  | .urgent => 1
  | .flash => 2

/-- The class order of baskets: a higher number stands first (R21). -/
def Priority.rank : Priority → Nat
  | .routine => 0
  | .urgent => 1
  | .flash => 2

/-- URGENT and FLASH, the classes the urgent count counts (R20). -/
def Priority.high : Priority → Bool
  | .routine => false
  | .urgent => true
  | .flash => true

/-- The code of a stage (11.4). -/
def Stage.code : Stage → Nat
  | .free => 0
  | .basket => 1
  | .placed => 2
  | .setting => 3
  | .set => 4
  | .spiked => 5

/-- The code of a fit state (11.4). -/
def FitState.code : FitState → Nat
  | .none => 0
  | .stale => 1
  | .computing => 2
  | .current => 3

/-- Role codes, in the order of R76. -/
def Role.ofCode : Nat → Option Role
  | 0 => some .reporter
  | 1 => some .editor
  | 2 => some .slot
  | _ => none

/-- The code of a role (R76). -/
def Role.code : Role → Nat
  | .reporter => 0
  | .editor => 1
  | .slot => 2

/-- Lamp source codes, in the order of R98. -/
def LampSource.ofCode : Nat → Option LampSource
  | 0 => some .off
  | 1 => some .on
  | 2 => some .basket
  | 3 => some .urgent
  | 4 => some .flash
  | 5 => some .deadline
  | 6 => some .overset
  | 7 => some .error
  | _ => none

/-- The code of a lamp source (R98). -/
def LampSource.code : LampSource → Nat
  | .off => 0
  | .on => 1
  | .basket => 2
  | .urgent => 3
  | .flash => 4
  | .deadline => 5
  | .overset => 6
  | .error => 7

/-- The code of a line state, in the order of R60; 0, 1 and 5 as the LINE notice has them (11.4). -/
def LineState.code : LineState → Nat
  | .disabled => 0
  | .idle => 1
  | .signing => 2
  | .ready => 3
  | .dim => 4
  | .lost => 5

/-- The code of a sign-on outcome, in the order of R60. -/
def SignonOutcome.code : SignonOutcome → Nat
  | .none => 0
  | .pending => 1
  | .granted => 2
  | .denied => 3
  | .timedOut => 4
  | .abandoned => 5

/-- The code of a page state (11.4). -/
def PageState.code : PageState → Nat
  | .closed => 0
  | .makeup => 1
  | .releasing => 2
  | .queued => 3
  | .setting => 4
  | .set => 5

/-- The code of a page fit state (11.4, FIT notice). -/
def PageFit.code : PageFit → Nat
  | .pending => 0
  | .fits => 1
  | .short => 2
  | .over => 3

/-- Port choice codes, in the order of R135. -/
def PortChoice.ofCode : Nat → Option PortChoice
  | 0 => some .a
  | 1 => some .b
  | 2 => some .either
  | _ => none

/-- The code of a port choice (11.4). -/
def PortChoice.code : PortChoice → Nat
  | .a => 0
  | .b => 1
  | .either => 2

/-- Port codes: 0 A, 1 B (11.4). -/
def portOfCode : Nat → Option Port
  | 0 => some .a
  | 1 => some .b
  | _ => none

/-- The code of a port (11.4). -/
def portCode : Port → Nat
  | .a => 0
  | .b => 1

/-- The code of a port state, in the order of R151. -/
def PortState.code : PortState → Nat
  | .offline => 0
  | .ready => 1
  | .setting => 2
  | .halted => 3
  | .lost => 4
  | .recovered => 5

/-- The code of a job's phase, in the order of R151. -/
def Phase.code : Phase → Nat
  | .sending => 0
  | .awaiting => 1

/-- The code of a job outcome (11.4). -/
def JobOutcome.code : JobOutcome → Nat
  | .none => 0
  | .done => 1
  | .cancelled => 2
  | .fault => 3

/-- The code of a clock state, in the order of R167. -/
def ClockState.code : ClockState → Nat
  | .stopped => 0
  | .running => 1
  | .overdue => 2

/-- The code of a status (11.1). -/
def Status.code : Status → Nat
  | .done => 0
  | .badField => 1
  | .noSuch => 2
  | .stage => 3
  | .state => 4
  | .held => 5
  | .frozen => 6
  | .full => 7
  | .storeFull => 8
  | .tooLong => 9
  | .denied => 10
  | .empty => 11
  | .tooLate => 12
  | .limit => 13
  | .busy => 14
  | .noAnswer => 15

/-- A flag named "on or off", "set or clear", "armed or clear" or "present or absent": 0 is the first value, 1 the
second (chapter 11; assumption 2). -/
def firstOfTwo : Nat → Option Bool
  | 0 => some true
  | 1 => some false
  | _ => none

/-- The code of a flag whose first named value is the true one (chapter 11; assumption 2). -/
def flagCode (b : Bool) : Nat := if b then 0 else 1

/-- A yes-or-no fact that a layout or a rule gives as 0 or 1, or names no values for. -/
def yesCode (b : Bool) : Nat := if b then 1 else 0

/-! ### Checks -/

/-- A character of a slug: A to Z, 0 to 9 and hyphen (R1). -/
def slugChar (c : Byte) : Bool :=
  (decide (65 ≤ c.toNat) && decide (c.toNat ≤ 90)) || (decide (48 ≤ c.toNat) && decide (c.toNat ≤ 57)) || c == 45

/-- A well-formed slug: 1 to 12 characters (R1, R9). -/
def slugOk (slug : List Byte) : Bool :=
  decide (1 ≤ slug.length) && decide (slug.length ≤ 12) && slug.all slugChar

/-- A well-formed copy line: at most 80 characters, each a 7-bit code (R4). -/
def lineOk (l : CopyLine) : Bool :=
  decide (l.length ≤ Config.maxLineLength) && l.all fun c => decide (c.toNat ≤ 127)

/-- Whether a number lies within a stated range. -/
def within (lo hi n : Nat) : Bool := decide (lo ≤ n) && decide (n ≤ hi)

/-- An optional number, when present, lies within a stated range. -/
def optWithin (lo hi : Nat) : Option Nat → Bool
  | none => true
  | some n => within lo hi n

/-- A story number that some story could have (R2). -/
def storyOk (n : Nat) : Bool := within 1 Config.stories n

/-- A page id (R126). -/
def pageOk (g : Nat) : Bool := within 1 Config.pages g

/-- A line number. -/
def lineNumberOk (n : Nat) : Bool := decide (n < Config.lines)

/-- A desk number. -/
def deskOk (d : Nat) : Bool := decide (d < Config.desks)

/-- A clamped field: the nearer end of its range (Conventions). -/
def clamp (lo hi n : Nat) : Nat := max lo (min hi n)

/-- A dim time as stored: 0 stays 0, and any other value is clamped to 60 to 3,600 (R62). -/
def clampDim (n : Nat) : Nat := if n = 0 then 0 else clamp 60 3600 n

/-- The five line speeds (R60). -/
def speedOk (n : Nat) : Bool := n == 1200 || n == 2400 || n == 4800 || n == 9600 || n == 19200

end Sys2Proof.Machine
end

