-- ==== Sys2Proof/Machine/Ops.lean ====
section
/-! DEFINITION. The records by number, the notice queue, the host's request and reply protocol, the copy store's
blocks, and the updates every chapter shares. -/

namespace Sys2Proof.Machine

/-! ### Records by number -/

/-- Story record `n`; a number no story could have reads as a FREE record. -/
def State.story (s : State) : Nat → Story
  | 0 => Story.freed
  | k + 1 => (s.stories[k]?).getD Story.freed

/-- Story record `n` replaced; a number no story could have changes nothing. -/
def State.setStory (s : State) (n : Nat) (r : Story) : State :=
  { s with stories := match n with
      | 0 => s.stories
      | k + 1 => s.stories.setIfInBounds k r }

/-- Story record `n` changed by `f`. -/
def State.updStory (s : State) (n : Nat) (f : Story → Story) : State := s.setStory n (f (s.story n))

/-- Desk record `d` (R20). -/
def State.desk (s : State) (d : Nat) : Desk := (s.desks[d]?).getD { basket := [], spikes := [], urgent := 0 }

/-- Desk record `d` changed by `f`. -/
def State.updDesk (s : State) (d : Nat) (f : Desk → Desk) : State :=
  { s with desks := s.desks.setIfInBounds d (f (s.desk d)) }

/-- Line context `n` (R60). -/
def State.line (s : State) (n : Nat) : Line := (s.lines[n]?).getD Line.reset

/-- Line context `n` changed by `f`. -/
def State.updLine (s : State) (n : Nat) (f : Line → Line) : State :=
  { s with lines := s.lines.setIfInBounds n (f (s.line n)) }

/-- Every line context changed by `f`, which is given the line's number. -/
def State.mapLines (s : State) (f : Nat → Line → Line) : State := { s with lines := s.lines.mapIdx f }

/-- Page record `g` (R126); an id no page has reads as a CLOSED page. -/
def State.page (s : State) : Nat → Page
  | 0 => Page.shut
  | k + 1 => (s.pages[k]?).getD Page.shut

/-- Page record `g` replaced. -/
def State.setPage (s : State) (g : Nat) (p : Page) : State :=
  { s with pages := match g with
      | 0 => s.pages
      | k + 1 => s.pages.setIfInBounds k p }

/-- Page record `g` changed by `f`. -/
def State.updPage (s : State) (g : Nat) (f : Page → Page) : State := s.setPage g (f (s.page g))

/-- Slot `k` of a page, 1 to 16; `none` is undefined (R128). -/
def Page.slot (p : Page) : Nat → Option Slot
  | 0 => none
  | k + 1 => (p.slots[k]?).getD none

/-- Slot `k` of a page replaced. -/
def Page.setSlot (p : Page) (k : Nat) (v : Option Slot) : Page :=
  { p with slots := match k with
      | 0 => p.slots
      | j + 1 => p.slots.setIfInBounds j v }

/-- Setter port `p` (R151). -/
def State.port (s : State) : Port → SetterPort
  | .a => s.output.portA
  | .b => s.output.portB

/-- Setter port `p` replaced. -/
def State.setPort (s : State) (p : Port) (v : SetterPort) : State :=
  { s with output :=
      { s.output with
        portA := match p with
          | .a => v
          | .b => s.output.portA
        portB := match p with
          | .a => s.output.portB
          | .b => v } }

/-- Setter port `p` changed by `f`. -/
def State.updPort (s : State) (p : Port) (f : SetterPort → SetterPort) : State := s.setPort p (f (s.port p))

/-- The other port. -/
def otherPort : Port → Port
  | .a => .b
  | .b => .a

/-- Style `n` of the style table (R102). -/
def State.style (s : State) (n : Nat) : Style := (s.fit.styles[n]?).getD Style.reset

/-- The output queue replaced. -/
def State.setQueue (s : State) (q : List Job) : State := { s with output := { s.output with queue := q } }

/-- The fit queue replaced. -/
def State.setFitQueue (s : State) (q : List Nat) : State := { s with fit := { s.fit with queue := q } }

/-! ### The notice queue (R184, R185) -/

/-- Two notices of the same kind and object (R184). -/
def Notice.same : Notice → Notice → Bool
  | .signon l _, .signon l' _ => l == l'
  | .line l _ _, .line l' _ _ => l == l'
  | .orphan n _ _, .orphan n' _ _ => n == n'
  | .arrival d _, .arrival d' _ => d == d'
  | .fit g _, .fit g' _ => g == g'
  | .release g _, .release g' _ => g == g'
  | .set g _, .set g' _ => g == g'
  | .output p _, .output p' _ => p == p'
  | .edition _ _ _, .edition _ _ _ => true
  | .store _, .store _ => true
  | _, _ => false

/-- A notice raised: it replaces the detail of a waiting entry of its kind and object, or joins the tail, or, with the
queue full, is dropped and sets the notices-lost flag (R184, R185). -/
def Channel.raise (c : Channel) (n : Notice) : Channel :=
  if c.notices.any (fun m => m.same n) then
    { c with notices := c.notices.map fun m => if m.same n then n else m }
  else if c.notices.length < Config.notices then
    { c with notices := c.notices ++ [n] }
  else
    { c with noticesLost := true }

/-- A notice raised anywhere in the part (R184). -/
def State.raise (s : State) (n : Notice) : State := { s with channel := s.channel.raise n }

/-! ### Host requests and replies (R180 to R182) -/

/-- The oldest unanswered request of the intake, the one that is dispatched (R180). -/
def Channel.oldest (c : Channel) : Option Instr := (c.intake.find? fun r => !r.answered).map fun r => r.cmd

/-- The BUSY replies of R181 that wait on the reply path. -/
def Channel.busyCount (c : Channel) : Nat := c.replies.countP fun r => r.overflow

/-- The reply path with one reply more at its tail (R182). -/
def Channel.pushReply (c : Channel) (r : Reply) : Channel := { c with replies := c.replies ++ [r] }

/-- A valid request completes at the receiver (R180, R181): it joins the intake's tail; or, with four requests there,
is answered BUSY; or, with four BUSY replies waiting too, is discarded and sets the link error latch. -/
def Channel.enqueue (c : Channel) (i : Instr) : Channel :=
  if c.intake.length < Config.intake then
    { c with intake := c.intake ++ [{ cmd := i, answered := false }] }
  else if c.busyCount < Config.intake then
    c.pushReply { tag := i.tag, kind := i.kind, status := .busy, details := [], overflow := true }
  else
    { c with linkError := true }

/-- The first unanswered request marked answered (R180). -/
def markAnswered : List Request → List Request
  | [] => []
  | r :: rs => if r.answered then r :: markAnswered rs else { r with answered := true } :: rs

/-- The oldest unanswered request answered: its reply joins the tail of the reply path (R180, R182). -/
def Channel.answer (c : Channel) (i : Instr) (status : Status) (details : List Byte) : Channel :=
  { c with
    intake := markAnswered c.intake
    replies := c.replies ++ [{ tag := i.tag, kind := i.kind, status := status, details := details, overflow := false }] }

/-- The intake as a host request finds it. From the taking of a RESTART until it takes effect every request is
discarded (R188). A request that is not the oldest unanswered one of the intake arrives (R180, R181; assumption 1). -/
def State.offer (s : State) (i : Instr) : State :=
  if s.channel.restarting then s
  else if s.channel.oldest = some i then s
  else { s with channel := s.channel.enqueue i }

/-- Whether the request is the one its owning block takes now: dispatched, and no RESTART before it (R180, R188). -/
def State.takes (s : State) (i : Instr) : Bool :=
  !s.channel.restarting && (s.offer i).channel.oldest == some i

/-- What a request comes to: its status, the details its rule names, and the records after it. -/
abbrev Verdict := Status × List Byte × State

/-- A refusal: a status and no details, and no effect (R182). -/
def refuse (s : State) (status : Status) : Verdict := (status, [], s)

/-- The request taken by its owning block, whose rule is `act`, and its reply put on the reply path (R180, R182). A
request that is not dispatched only waits in the intake, is answered BUSY, or is discarded. -/
def State.serveHost (s : State) (i : Instr) (act : State → Verdict) : State :=
  if s.takes i then
    let v := act (s.offer i)
    { v.2.2 with channel := v.2.2.channel.answer i v.1 v.2.1 }
  else s.offer i

/-- A host request as a step. -/
def hostStep (i : Instr) (act : State → Verdict) (s : State) : Host.Outcome State Fault Refusal :=
  .next (s.serveHost i act)

/-! ### Stored text and blocks (R4 to R7) -/

/-- The stored length of copy lines: each line's length plus 1 (R4). -/
def storedLength (ls : List CopyLine) : Nat := linesBytes ls

/-- The block count of a stored length: divided by 256 and rounded up (R5). -/
def blocksFor (stored : Nat) : Nat := (stored + (Config.blockSize - 1)) / Config.blockSize

/-- The free-block count (R5). -/
def Store.free (st : Store) : Nat := (Config.blocks - st.fresh) + st.returned.length

/-- `k` blocks taken from the pool: those returned before, then those never used (assumption 6). -/
def Store.take (st : Store) (k : Nat) : List Nat × Store :=
  let m := k - st.returned.length
  (st.returned.take k ++ (List.range m).map (st.fresh + ·),
    { st with fresh := st.fresh + m, returned := st.returned.drop k })

/-- Blocks returned to the pool. -/
def Store.giveBack (st : Store) (bs : List Nat) : Store := { st with returned := st.returned ++ bs }

/-- A chain brought to `need` blocks: blocks joined at its end, or taken off it (R5). -/
def Store.rechain (st : Store) (chain : List Nat) (need : Nat) : List Nat × Store :=
  if chain.length ≤ need then
    let t := st.take (need - chain.length)
    (chain ++ t.1, t.2)
  else
    (chain.take need, st.giveBack (chain.drop need))

/-- The store-low latch after a text change: below 256 free blocks with the latch clear it is set and the STORE notice
raised; at 512 or more it clears (R7). -/
def State.storeLatch (s : State) : State :=
  if s.store.free < Config.storeLow ∧ s.store.low = false then
    State.raise { s with store := { s.store with low := true } } (.store s.store.free)
  else if Config.storeOk ≤ s.store.free then { s with store := { s.store with low := false } }
  else s

/-- The store-low latch after a PURGE, which only clears it (R7). -/
def State.storeRelief (s : State) : State :=
  if Config.storeOk ≤ s.store.free then { s with store := { s.store with low := false } } else s

/-- Why a text change is refused: TOO LONG, then STORE FULL (R6). -/
def State.textRefusal (s : State) (n : Nat) (text : List CopyLine) : Option Status :=
  if Config.maxLines < text.length ∨ Config.maxStored < storedLength text then some .tooLong
  else if (s.story n).chain.length + s.store.free < blocksFor (storedLength text) then some .storeFull
  else none

/-- The lines replaced, the blocks moved, a new base style in force, and the edit count one higher, wrapping (R3, R6). -/
def State.writeText (s : State) (n : Nat) (text : List CopyLine) (style : Option Nat) : State :=
  let moved := s.store.rechain (s.story n).chain (blocksFor (storedLength text))
  State.updStory { s with store := moved.2 } n fun r =>
    { r with text := text, chain := moved.1, style := style.getD r.style, editCount := (r.editCount + 1) % 65536 }

/-! ### Pages and their stories -/

/-- The stories on a page in the order of their first slot, lowest slot first: the occupants in position 1 (R143,
R148). -/
def Page.stories (p : Page) : List Nat :=
  p.slots.toList.filterMap fun v =>
    match v with
    | some sl =>
      match sl.occupant with
      | some (n, 1) => some n
      | _ => none
    | none => none

/-- A page past MAKEUP is frozen (R127). -/
def PageState.frozen : PageState → Bool
  | .releasing => true
  | .queued => true
  | .setting => true
  | .set => true
  | .closed => false
  | .makeup => false

/-- The page a story's run names is frozen, whatever the story's own stage (R12, R45). -/
def State.onFrozenPage (s : State) (n : Nat) : Bool :=
  match (s.story n).run with
  | some r => (s.page r.page).state.frozen
  | none => false

/-- A page stands in RELEASING, QUEUED or SETTING, which freezes the style, width and translation tables (R104, R146). -/
def State.tablesFrozen (s : State) : Bool :=
  s.pages.toList.any fun p => p.state == .releasing || p.state == .queued || p.state == .setting

end Sys2Proof.Machine
end

