-- ==== Sys2Proof/Machine/Flags.lean ====
section
/-! DEFINITION. What a line shows of the records: its error latches, its lamp, its status line and its screens, and
the wake that puts them on a dark screen (R69, R81, R85 to R99). -/

namespace Sys2Proof.Machine

/-! ### Error latches (R69, R70) -/

/-- At least one of the five error latches is set (R98). -/
def Latches.any (l : Latches) : Bool := l.check || l.framing || l.overrun || l.longFrame || l.unknownFrame

/-- The latch of a fault at the check gate, set (R69). -/
def Latches.record (l : Latches) : LineFault → Latches
  | .framing => { l with framing := true }
  | .overrun => { l with overrun := true }
  | .longFrame => { l with longFrame := true }
  | .check => { l with check := true }

/-! ### Lines, desks and windows -/

/-- The line's signed-on desk is `d`. -/
def Line.onDesk (l : Line) (d : Nat) : Bool :=
  match l.user with
  | some u => u.desk == d
  | none => false

/-- The role of the user signed on at the line is `r` (R26). -/
def Line.hasRole (l : Line) (r : Role) : Bool :=
  match l.user with
  | some u => u.role == r
  | none => false

/-- The window size w of a line: 20 for model 0, 26 for model 1 (R86). -/
def Line.windowSize (l : Line) : Nat := if l.model = 0 then 20 else 26

/-- The dim timer set to the dim time; with a dim time of 0 it is stopped (R80). -/
def Line.armDim (l : Line) : Line := { l with dimTimer := if l.dimTime = 0 then none else some l.dimTime }

/-! ### Screens (R86, R91) -/

/-- A window of story `n` from line `f` at window size `w` (R86). -/
def State.windowScreen (s : State) (n f w : Nat) : WindowScreen :=
  let r := s.story n
  let shown := min w (r.text.length - f)
  { story := n, slug := r.slug, desk := r.desk, priority := r.priority, stage := r.stage,
    editCount := r.editCount, lineCount := r.text.length, first := f, shown := shown, fit := r.fit,
    results := r.results, text := (r.text.drop f).take shown }

/-- The entries of a home screen, the first of them at position `p`. -/
def State.homeEntries (s : State) : Nat → List Nat → List HomeEntry
  | _, [] => []
  | p, n :: ns =>
    let r := s.story n
    { position := p, story := n, slug := r.slug, priority := r.priority, holder := r.holder } ::
      s.homeEntries (p + 1) ns

/-- A home screen of desk `d` from position `p` at window size `w` (R91). -/
def State.homeScreen (s : State) (d p w : Nat) : HomeScreen :=
  let r := s.desk d
  { desk := d, length := r.basket.length, urgent := r.urgent, first := p,
    entries := s.homeEntries p ((r.basket.drop p).take w) }

/-- A window of story `n` from line `f` put into line `k`'s display slot, and its window record set (R86). -/
def State.putWindow (s : State) (k n f : Nat) : State :=
  let w := s.windowScreen n f (s.line k).windowSize
  s.updLine k fun l => { l with display := some (.window w), window := some { first := w.first, shown := w.shown } }

/-- A home screen put into line `k`'s display slot; the window record stands (R86, R91). -/
def State.putHome (s : State) (k d p : Nat) : State :=
  s.updLine k fun l => { l with display := some (.home (s.homeScreen d p l.windowSize)) }

/-- The home screen of line `k`'s own desk from position 0 (R91). -/
def State.putOwnHome (s : State) (k : Nat) : State :=
  match (s.line k).user with
  | some u => s.putHome k u.desk 0
  | none => s

/-! ### Status lines (R93, R94) -/

/-- The newest unseen flash of line `k`: the first entry whose unseen set holds it (R93). -/
def State.newestUnseen (s : State) (k : Nat) : Option FlashEntry := s.flashes.list.find? fun e => e.unseen.contains k

/-- The whole minutes of a status line (R93). -/
def Clock.minutes (c : Clock) : Option Nat :=
  match c.state with
  | .stopped => none
  | .running => some (c.count / 60)
  | .overdue => some (c.count / 60)

/-- The status line of line `k` for the user signed on there (R93). -/
def State.statusLine (s : State) (k : Nat) (u : SignedOn) (withdrawn : Option Nat) : StatusLine :=
  let d := s.desk u.desk
  { user := u.user, desk := u.desk, basketCount := d.basket.length, urgent := d.urgent,
    edition := s.clock.edition, clock := s.clock.state, minutes := s.clock.minutes,
    flash := (s.newestUnseen k).map fun e => (e.number, e.text), withdrawn := withdrawn }

/-- A status line put into a line's status slot, in place of any unsent one (R82, R94). -/
def State.withStatus (s : State) (k : Nat) (l : Line) : Line :=
  match l.user with
  | some u => { l with status := some (s.statusLine k u l.withdrawn) }
  | none => l

/-- A status line for every READY line that `p` names (R94). -/
def State.refresh (s : State) (p : Nat → Line → Bool) : State :=
  s.mapLines fun k l => if l.state == .ready && p k l then s.withStatus k l else l

/-- A status line for every READY line signed on to desk `d` (R23, R24). -/
def State.refreshDesk (s : State) (d : Nat) : State := s.refresh fun _ l => l.onDesk d

/-- A status line for line `k`, if it is READY. -/
def State.refreshLine (s : State) (k : Nat) : State := s.refresh fun m _ => m == k

/-! ### Lamps (R98, R99) -/

/-- Whether the lamp of line `k` is lit by its source (R98). -/
def State.lampLit (s : State) (k : Nat) (l : Line) : Bool :=
  match l.state with
  | .disabled => false
  | _ =>
    match l.lampSource with
    | .off => false
    | .on => true
    | .error => l.latches.any
    | .basket =>
      match l.user with
      | none => false
      | some u => !(s.desk u.desk).basket.isEmpty
    | .urgent =>
      match l.user with
      | none => false
      | some u => decide (0 < (s.desk u.desk).urgent)
    | .flash => l.user.isSome && s.flashes.list.any fun e => e.unseen.contains k
    | .deadline =>
      l.user.isSome &&
        match s.clock.state with
        | .stopped => false
        | .running => decide (s.clock.threshold ≠ 0) && decide (s.clock.count ≤ s.clock.threshold)
        | .overdue => true
    | .overset =>
      l.user.isSome &&
        match l.held with
        | none => false
        | some n =>
          let r := s.story n
          r.stage == .placed && r.fit == .current &&
            match r.results with
            | none => false
            | some f => decide (0 < f.overset)

/-- The lamps of the lines that `p` names set anew from their sources (R99). -/
def State.lamps (s : State) (p : Nat → Line → Bool) : State :=
  s.mapLines fun k l => if p k l then { l with lamp := s.lampLit k l } else l

/-- The lamp of line `k` set anew (R99, "all sources"). -/
def State.lampAnew (s : State) (k : Nat) : State := s.lamps fun m _ => m == k

/-- The lamp of line `k` set anew if its source is `src` (R99). -/
def State.lampIf (s : State) (k : Nat) (src : LampSource) : State := s.lamps fun m l => m == k && l.lampSource == src

/-- The BASKET and URGENT lamps of the lines signed on to desk `d` set anew (R23, R24). -/
def State.lampsDesk (s : State) (d : Nat) : State :=
  s.lamps fun _ l => l.onDesk d && (l.lampSource == .basket || l.lampSource == .urgent)

/-- Every DEADLINE lamp set anew (R99, R171). -/
def State.lampsDeadline (s : State) : State := s.lamps fun _ l => l.lampSource == .deadline

/-- The OVERSET lamp of the line that holds story `n` set anew (R99, R124). -/
def State.lampHolder (s : State) (n : Nat) : State :=
  match (s.story n).holder with
  | .line k => s.lampIf k .overset
  | _ => s

/-! ### Waking (R81) -/

/-- A DIM line as a wake leaves it: READY, the home screen of its own desk, a status line, and the dim timer set
(R81). -/
def State.awake (s : State) (k : Nat) (l : Line) : Line :=
  let l := Line.armDim { l with state := .ready }
  match l.user with
  | some u =>
    { l with
      display := some (.home (s.homeScreen u.desk 0 l.windowSize))
      status := some (s.statusLine k u l.withdrawn) }
  | none => l

/-- The DIM lines that `p` names wake (R81). -/
def State.wake (s : State) (p : Nat → Line → Bool) : State :=
  s.mapLines fun k l => if l.state == .dim && p k l then s.awake k l else l

/-! ### The flash list's unseen sets (R95) -/

/-- Line `k` removed from the unseen set of every flash entry (R64, R65, R79, R97). -/
def State.unseeLine (s : State) (k : Nat) : State :=
  { s with flashes := { s.flashes with
      list := s.flashes.list.map fun e => { e with unseen := e.unseen.filter fun m => m != k } } }

/-- A set of lines with line `k` in it, in line order. -/
def insertLine (k : Nat) (set : List Nat) : List Nat :=
  (List.range Config.lines).filter fun m => m == k || set.contains m

/-- Desk `d` is in a desk mask: the bit of value 2 to the power d (chapter 11). -/
def maskHas (mask : BitVec 16) (d : Nat) : Bool := mask.getLsbD d

end Sys2Proof.Machine
end

