-- ==== Sys2Proof/Machine/Layout.lean ====
section
/-! DEFINITION. The bytes of what the part sends: the records replies return (11.4), the bodies of notices, screens
and status lines, and the whole frames of the host channel and the terminal lines (11.1, 11.2). -/

namespace Sys2Proof.Machine

/-! ### Records returned (11.4) -/

/-- A holder: kind and line, and for an orphan its user and the seconds left (11.4). -/
def holderBytes : Holder → List Byte
  | .absent => u8 0 ++ u8 0
  | .line n => u8 1 ++ u8 n
  | .orphan n user seconds => u8 2 ++ u8 n ++ u16 user ++ u16 seconds
  | .channel => u8 3 ++ u8 0

/-- The fit result record (11.4). -/
def fitBytes (f : FitResults) : List Byte :=
  u16 f.lines ++ u16 f.linesSet ++ u16 f.overset ++ u8 f.perSlot.length ++ f.perSlot.flatMap u16 ++ u16 f.depth
    ++ optional u16 f.underset ++ u8 f.forcedBreaks ++ u8 (yesCode f.limit)

/-- A page run: page id and run length with the slot numbers, or 0 and 0 (11.4). -/
def runBytes : Option Run → List Byte
  | none => u8 0 ++ u8 0
  | some r => u8 r.page ++ u8 r.slots.length ++ r.slots.flatMap u8

/-- The INFO record of story `n` (11.4, R16). -/
def infoBytes (n : Nat) (r : Story) : List Byte :=
  u16 n ++ slugField r.slug ++ u8 r.desk ++ u8 r.priority.code ++ u8 r.stage.code ++ u8 r.style
    ++ holderBytes r.holder ++ u16 r.editCount ++ u16 r.text.length ++ u16 (storedLength r.text)
    ++ u8 r.chain.length ++ runBytes r.run ++ u8 r.fit.code ++ u8 (yesCode r.changed)
    ++ optional fitBytes r.results

/-- One entry of a BASKET reply (11.4, R39). -/
def basketEntryBytes (n : Nat) (r : Story) : List Byte :=
  u16 n ++ slugField r.slug ++ u8 r.priority.code ++ u16 r.editCount ++ holderBytes r.holder

/-- A slot as PAGEINFO returns it (11.4). That SLOT's reply carries the slot in the same form, with story 0 and position 0 for no
occupant, is read by inference (R130; assumption 37). -/
def slotBytes : Option Slot → List Byte
  | none => u8 0
  | some sl =>
    u8 1 ++ u16 sl.depth ++ u16 sl.measure
      ++ match sl.occupant with
        | none => u16 0 ++ u8 0
        | some (n, i) => u16 n ++ u8 i

/-- One story entry of PAGEINFO (11.4, R143). -/
def pageStoryBytes (n : Nat) (r : Story) : List Byte :=
  u16 n ++ u8 r.stage.code ++ u8 r.fit.code
    ++ optional (fun f : FitResults => u16 f.overset ++ optional u16 f.underset) r.results

/-- The port of a job record: 0 A, 1 B, 2 none (11.4). -/
def jobPortCode : Option Port → Nat
  | some p => portCode p
  | none => 2

/-- A job record (11.4). -/
def jobBytes (j : JobRecord) : List Byte :=
  u32 j.total ++ u32 j.remaining ++ u8 j.outcome.code ++ u8 j.restarts ++ u8 (jobPortCode j.port)

/-- A margin: the edition and signed seconds (11.4). -/
def marginBytes (m : Margin) : List Byte := u8 m.edition ++ s32 m.seconds

/-- The PAGEINFO record of page `g` (11.4, R143). -/
def pageBytes (s : State) (g : Nat) : List Byte :=
  let p := s.page g
  u8 g ++ u8 p.state.code
    ++ if p.state = .closed then []
       else
         u16 p.label ++ u8 p.edition ++ u8 p.tolerance ++ u8 p.choice.code ++ u8 (yesCode p.trim) ++ u8 p.fit.code
           ++ p.slots.toList.flatMap slotBytes
           ++ u8 p.stories.length ++ p.stories.flatMap (fun n => pageStoryBytes n (s.story n))
           ++ optional jobBytes p.job ++ optional marginBytes p.margin

/-- The style as STYLE's reply carries it: the seven fields of R102. -/
def styleBytes (y : Style) : List Byte :=
  u8 y.font ++ u8 y.size ++ u16 y.leading ++ u8 y.indent ++ u8 y.wordSpace ++ u8 y.paraSpace ++ u16 y.measure

/-- The clock as CLKREAD returns it (R175). Switch pending and the next deadline are one optional field, its presence byte saying whether
a switch is pending (the model's reading, assumption 36). -/
def clockBytes (c : Clock) : List Byte :=
  u8 c.state.code ++ u8 c.edition ++ u16 c.count ++ optional u16 c.next ++ u16 c.threshold ++ u8 (yesCode c.fired)

/-- A line's configuration (R62, R70). -/
def configBytes (l : Line) : List Byte :=
  u16 l.speed ++ u8 l.model ++ u8 l.lampSource.code ++ u16 l.dimTime ++ u8 (flagCode l.wakeFlash)
    ++ u8 (flagCode l.wakeUrgent)

/-- A signed-on user, desk and role (R70). -/
def signedOnBytes (u : SignedOn) : List Byte := u16 u.user ++ u8 u.desk ++ u8 u.role.code

/-- The story a line holds stands for an orphan of that line. -/
def State.holdsOrphan (s : State) (l : Line) : Bool :=
  match l.held with
  | none => false
  | some n =>
    match (s.story n).holder with
    | .orphan _ _ _ => true
    | _ => false

/-- The five error latches in the order of R60. -/
def latchBytes (x : Latches) : List Byte :=
  u8 (flagCode x.check) ++ u8 (flagCode x.framing) ++ u8 (flagCode x.overrun) ++ u8 (flagCode x.longFrame)
    ++ u8 (flagCode x.unknownFrame)

/-- A line as LINESTAT returns it (R70). That the kind of the request in service is a presence byte and its 8-byte kind word, the
signed-on user with desk and role one optional field, and an absent sign-on user or a stopped sign-on or dim timer an absent
optional field, is read by inference (assumption 30). -/
def lineBytes (s : State) (l : Line) : List Byte :=
  u8 l.state.code ++ configBytes l ++ u8 (flagCode l.carrier) ++ optional signedOnBytes l.user
    ++ u16 (l.held.getD 0) ++ u8 (yesCode (s.holdsOrphan l)) ++ optional (fun v : Service => v.kind) l.service
    ++ optional u16 l.signonUser ++ u8 l.outcome.code ++ optional u16 l.signonTimer ++ optional u16 l.dimTimer
    ++ u8 (yesCode l.override) ++ latchBytes l.latches

/-- The job of a port as PORTSTAT returns it (R164). -/
def portJobBytes (j : PortJob) : List Byte :=
  u8 j.job.page ++ u8 j.phase.code ++ u32 j.job.total ++ u32 j.remaining ++ u8 j.job.restarts

/-- A port as PORTSTAT returns it (R164). That a stopped loss timer, and the job of a port that holds none, are each an absent optional
field is read by inference (assumption 38). -/
def portBytes (p : SetterPort) : List Byte :=
  u8 p.state.code ++ u16 p.lossTime ++ u8 (flagCode p.failover) ++ u8 (flagCode p.lossLatch) ++ u8 (yesCode p.lead)
    ++ u16 p.fifo.length ++ u8 (yesCode p.abort) ++ optional u16 p.lossTimer ++ optional portJobBytes p.job

/-- A port's state and the page of the job it holds (R153, R163). That the page id is there also when the port holds no job, as 0, is
read by inference (assumption 40). -/
def portStateBytes (p : SetterPort) : List Byte :=
  u8 p.state.code ++ u8 (match p.job with
    | some j => j.job.page
    | none => 0)

/-- The output queue as QUEUE returns it (R165). The number of jobs is the count of the list of them (assumption 31). -/
def queueBytes (q : List Job) : List Byte :=
  u8 q.length ++ q.flatMap fun j => u8 j.page ++ u8 j.choice.code ++ u32 j.total ++ u8 j.restarts

/-- The number of story records in a stage (R186). -/
def State.inStage (s : State) (g : Stage) : Nat := s.stories.toList.countP fun r => r.stage == g

/-- The summary SWEEP returns (R186). The states of the 32 lines are 32 fields with no count before them (the model's reading,
assumption 42). -/
def sweepBytes (s : State) : List Byte :=
  s.lines.toList.flatMap (fun l => u8 l.state.code)
    ++ u16 (s.inStage .free) ++ u16 (s.inStage .basket) ++ u16 (s.inStage .placed) ++ u16 (s.inStage .setting)
    ++ u16 (s.inStage .set) ++ u16 (s.inStage .spiked)
    ++ u16 s.store.free ++ u8 (yesCode s.store.low) ++ u16 s.fit.queue.length ++ u8 s.channel.notices.length
    ++ u8 s.output.queue.length
    ++ u8 s.output.portA.state.code ++ u8 (flagCode s.output.portA.lossLatch)
    ++ u8 s.output.portB.state.code ++ u8 (flagCode s.output.portB.lossLatch)
    ++ u8 s.clock.state.code ++ u8 s.clock.edition ++ u16 s.clock.count
    ++ u8 (yesCode s.channel.linkError) ++ u8 (yesCode s.channel.noticesLost)

/-- The part code, the revision and the capacities, in the order of R187. -/
def identBytes : List Byte :=
  u16 Config.partCode ++ u8 Config.revision ++ u8 Config.lines ++ u8 Config.desks ++ u16 Config.stories
    ++ u16 Config.blocks ++ u16 Config.blockSize ++ u8 Config.styles ++ u8 Config.fonts ++ u8 Config.pages
    ++ u8 Config.slots ++ u8 Config.queue ++ u16 Config.fifo ++ u8 Config.flashes ++ u8 Config.notices
    ++ u8 Config.intake ++ u8 Config.editions

/-! ### Screens and status lines -/

/-- A window's body: the fields of R86 in order, the fit results as 11.4 lays them out. R86's n is the count of the copy lines that end
it; no second count stands before them (the model's reading, assumption 31). -/
def windowBytes (w : WindowScreen) : List Byte :=
  u16 w.story ++ slugField w.slug ++ u8 w.desk ++ u8 w.priority.code ++ u8 w.stage.code ++ u16 w.editCount
    ++ u16 w.lineCount ++ u16 w.first ++ u8 w.shown ++ u8 w.fit.code ++ optional fitBytes w.results
    ++ linesField w.text

/-- A home screen's body: the fields of R91 in order. The number of entries shown is the count of the entries that end it (assumption
31). -/
def homeBytes (h : HomeScreen) : List Byte :=
  u8 h.desk ++ u16 h.length ++ u16 h.urgent ++ u16 h.first ++ u8 h.entries.length
    ++ h.entries.flatMap fun e =>
      u16 e.position ++ u16 e.story ++ slugField e.slug ++ u8 e.priority.code ++ holderBytes e.holder

/-- A status line's body: the fields of R93 in order. That the minutes, and the number and text of the newest unseen flash, are each one
optional field is read by inference (assumption 41). -/
def statusBytes (t : StatusLine) : List Byte :=
  u16 t.user ++ u8 t.desk ++ u16 t.basketCount ++ u16 t.urgent ++ u8 t.edition ++ u8 t.clock.code
    ++ optional u16 t.minutes
    ++ optional (fun x : Nat × List Byte => u8 x.1 ++ u8 x.2.length ++ x.2) t.flash ++ u16 (t.withdrawn.getD 0)

/-- An ANSWER frame: its body begins with the status and the kind word of the frame it answers (R191). -/
def answerFrame (a : Answer) : List Byte := lineFrame (kindWord "ANSWER") (u8 a.status.code ++ a.kind ++ a.details)

/-- A SCREEN or BLANK frame (R85). -/
def displayFrame : Display → List Byte
  | .blank => lineFrame (kindWord "BLANK") []
  | .window w => lineFrame (kindWord "SCREEN") (windowBytes w)
  | .home h => lineFrame (kindWord "SCREEN") (homeBytes h)

/-- A STATUS frame (R93). -/
def statusFrame (t : StatusLine) : List Byte := lineFrame (kindWord "STATUS") (statusBytes t)

/-! ### Replies and notices -/

/-- A REPLY frame (R182, 11.1). -/
def replyFrame (r : Reply) : List Byte := hostFrame 2 r.tag r.kind (u8 r.status.code ++ r.details)

/-- The kind word of a notice (R184). -/
def Notice.kind : Notice → List Byte
  | .signon _ _ => kindWord "SIGNON"
  | .line _ _ _ => kindWord "LINE"
  | .orphan _ _ _ => kindWord "ORPHAN"
  | .arrival _ _ => kindWord "ARRIVAL"
  | .fit _ _ => kindWord "FIT"
  | .release _ _ => kindWord "RELEASE"
  | .set _ _ => kindWord "SET"
  | .output _ _ => kindWord "OUTPUT"
  | .edition _ _ _ => kindWord "EDITION"
  | .store _ => kindWord "STORE"

/-- The code of a release outcome (11.4). -/
def ReleaseOutcome.code : ReleaseOutcome → Nat
  | .queued => 0
  | .overset => 1
  | .queueFull => 2

/-- The code of a lost job's fate (11.4). -/
def Fate.code : Fate → Nat
  | .failover => 0
  | .requeued => 1
  | .returned => 2

/-- An OUTPUT notice's event, page and fate. RECOVERED has no page, and a page id that is absent is 0. The fate is meaningful after
LOST alone (11.4): the fate byte of the others is a free value, `fill` (assumption 8). -/
def outputEventBytes (fill : Nat → Byte) : OutputEvent → List Byte
  | .lost g f => u8 0 ++ u8 g ++ u8 f.code
  | .failover g => u8 1 ++ u8 g ++ [fill 0]
  | .fault g => u8 2 ++ u8 g ++ [fill 0]
  | .recovered => u8 3 ++ u8 0 ++ [fill 0]

/-- The code of a clock event (11.4). -/
def EditionEvent.code : EditionEvent → Nat
  | .near => 0
  | .switched => 1
  | .overdue => 2

/-- A notice body: the object, then the detail (11.4). A SET notice with no margin has an edition and seconds that the
reference gives no value: free values, `fill` (assumption 8). -/
def Notice.body (fill : Nat → Byte) : Notice → List Byte
  | .signon l u => u8 l ++ u16 u
  | .line l st n => u8 l ++ u8 st.code ++ u16 n
  | .orphan n u l => u16 n ++ u16 u ++ u8 l
  | .arrival d n => u8 d ++ u16 n
  | .fit g f => u8 g ++ u8 f.code
  | .release g o => u8 g ++ u8 o.code
  | .set g m =>
    u8 g ++ match m with
      | some m => u8 1 ++ marginBytes m
      | none => u8 0 ++ [fill 0, fill 1, fill 2, fill 3, fill 4]
  | .output p e => u8 (portCode p) ++ outputEventBytes fill e
  | .edition e n c => u8 e.code ++ u8 n ++ u16 c
  | .store n => u16 n

/-- A NOTICE frame, with tag 0 (R184, 11.1). -/
def noticeFrame (fill : Nat → Byte) (n : Notice) : List Byte := hostFrame 3 0 n.kind (n.body fill)

end Sys2Proof.Machine
end

