-- ==== Sys2Proof/Machine/Compose.lean ====
section
/-! DEFINITION. Composition (chapter 6, R107 to R118): a story's text read as a stream, broken into typeset lines at the
measure each line must fill, and laid into the slots of its run. The fit engine reads the results; the output controller
reads the set lines, code for code (R148). -/

namespace Sys2Proof.Machine

/-- The tables a composition reads (R102, R103). -/
structure Tables where
  styles : Vector Style 32
  widths : Vector (Vector Nat 94) 8

/-- Style `n` of the tables. -/
def Tables.style (t : Tables) (n : Nat) : Style := (t.styles[n]?).getD Style.reset

/-- The fine units of printing character `c` under style `n`: its width in the style's font times the style's size
(R107, R109). -/
def Tables.charWidth (t : Tables) (n : Nat) (c : Byte) : Nat :=
  let y := t.style n
  ((t.widths[y.font]?).bind fun w => w[c.toNat - 33]?).getD 0 * y.size

/-! ### The stream (R108) -/

/-- What the engine finds in the stream (R108). -/
inductive Code where
  | char (c : Byte)
  | stray (c : Byte)
  | mark (n : Nat)
  | space
  | lineEnd
  | para
  | quad
  deriving DecidableEq, Repr

/-- A code read as itself (R108): a code 3 that begins no style mark is a stray code. -/
def plainCode (c : Byte) : Code :=
  if c = 32 then .space
  else if c = 1 then .para
  else if c = 2 then .quad
  else if 33 ≤ c.toNat ∧ c.toNat ≤ 126 then .char c
  else .stray c

/-- The codes of one copy line: a code 3 immediately followed by 64 to 95 is a style mark (R108). -/
def lineCodes : CopyLine → List Code
  | [] => []
  | [c] => [plainCode c]
  | c :: d :: rest =>
    if c = 3 ∧ 64 ≤ d.toNat ∧ d.toNat ≤ 95 then .mark (d.toNat - 64) :: lineCodes rest
    else plainCode c :: lineCodes (d :: rest)

/-- The stream of a story: its copy lines in order, each followed by a line end (R108). -/
def streamCodes (text : List CopyLine) : List Code := text.flatMap fun l => lineCodes l ++ [.lineEnd]

/-- A printing character. -/
def Code.printing : Code → Bool
  | .char _ => true
  | _ => false

/-- What the codes group into: words, the gaps between them (separators and null runs), PARA and QUAD (R108). -/
inductive Segment where
  | word (codes : List Code)
  | gap (codes : List Code)
  | para
  | quad
  deriving DecidableEq, Repr

/-- A run of codes between separators, ended: a word if it holds a printing character, else a null run, which joins the
gap around it (R108). Gives the segments completed and the gap that goes on. -/
def closeRun (gap run : List Code) : List Segment × List Code :=
  if run.isEmpty then ([], gap)
  else if run.any Code.printing then ((if gap.isEmpty then [] else [.gap gap]) ++ [.word run], [])
  else ([], gap ++ run)

/-- The segments of a stream (R108): a PARA or QUAD ends the word or separator before it. -/
def segments : (gap run : List Code) → List Code → List Segment
  | gap, run, [] =>
    let c := closeRun gap run
    c.1 ++ if c.2.isEmpty then [] else [.gap c.2]
  | gap, run, code :: rest =>
    match code with
    | .space | .lineEnd =>
      let c := closeRun gap run
      c.1 ++ segments (c.2 ++ [code]) [] rest
    | .para =>
      let c := closeRun gap run
      c.1 ++ (if c.2.isEmpty then [] else [.gap c.2]) ++ .para :: segments [] [] rest
    | .quad =>
      let c := closeRun gap run
      c.1 ++ (if c.2.isEmpty then [] else [.gap c.2]) ++ .quad :: segments [] [] rest
    | .char _ | .stray _ | .mark _ => segments gap (run ++ [code]) rest

/-! ### The run and its slots (R115, R116) -/

/-- One slot of the run as composition fills it: its depth (none is the unbounded depth of the notional run), its measure
(none is the measure of the style in force), the depth used and the lines emitted in it. -/
structure Hole where
  depth : Option Nat
  measure : Option Nat
  used : Nat
  count : Nat
  deriving DecidableEq, Repr

/-- The notional run: one slot of unbounded depth (R115). -/
def notionalRun : List Hole := [{ depth := none, measure := none, used := 0, count := 0 }]

/-- A line of that depth fits the hole (R116). -/
def Hole.fits (h : Hole) (need : Nat) : Bool :=
  match h.depth with
  | none => true
  | some d => decide (h.used + need ≤ d)

/-! ### Composed lines -/

/-- What a composed line sends, in stream order (R148). -/
inductive Item where
  | char (c : Byte)
  | stray (c : Byte)
  | select (n : Nat)
  | space
  | para
  | quad
  deriving DecidableEq, Repr

/-- The line that is open (R110): PARA-opened or not, placed in the current slot or overset, its capacity and used width,
whether it holds a character, its leading, its paragraph space and its depth in its slot, and what it sends. -/
structure OpenLine where
  paraOpened : Bool
  placed : Bool
  capacity : Nat
  used : Nat
  hasChar : Bool
  leading : Nat
  paraSpace : Nat
  slotDepth : Nat
  items : List Item
  deriving DecidableEq, Repr

/-- A line emitted: placed in a slot or overset, and what it sends. -/
structure SetLine where
  placed : Bool
  items : List Item
  deriving DecidableEq, Repr

/-- Composition under way (R110 to R117): the style in force; the line open; the separator that waits for the next word on
it (its word space and the marks and stray codes in it); the marks and stray codes outside every line since the last line
ended; the slots passed and those from the current slot on; the lines emitted; the story's depth; forced breaks; and
whether the line limit has stopped it. -/
structure Composition where
  style : Nat
  line : Option OpenLine
  separator : Nat × List Item
  between : List Item
  passed : List Hole
  holes : List Hole
  lastMeasure : Option Nat
  lines : List SetLine
  depth : Nat
  breaks : Nat
  limit : Bool
  deriving DecidableEq, Repr

/-- The marks and stray codes of a gap or word, as items to send. -/
def codeItem : Code → List Item
  | .char c => [.char c]
  | .stray c => [.stray c]
  | .mark n => [.select n]
  | .space => []
  | .lineEnd => []
  | .para => []
  | .quad => []

/-- The style in force after codes (R109). -/
def styleAfter (st : Nat) (codes : List Code) : Nat :=
  codes.foldl (fun a c => match c with
    | .mark n => n
    | _ => a) st

/-- A word's width in fine units, each character under the style in force at it (R109, R112). -/
def wordWidth (t : Tables) : (st : Nat) → List Code → Nat
  | _, [] => 0
  | st, c :: cs =>
    match c with
    | .char x => t.charWidth st x + wordWidth t st cs
    | .mark n => wordWidth t n cs
    | _ => wordWidth t st cs

/-- Placement of a line of leading `l`, with paragraph space `p` where it applies, from the current slot on: the slots
passed over and those from the line's slot on. With none left the line is overset (R116). -/
def placeLine (l p : Nat) (para first : Bool) : (holes : List Hole) → List Hole × List Hole
  | [] => ([], [])
  | h :: hs =>
    let extra := if para && !first && decide (0 < h.count) then p else 0
    if h.fits (l + extra) then ([], h :: hs)
    else
      let r := placeLine l p para first hs
      (h :: r.1, r.2)

/-- A line opened at a point where `st` is in force (R110, R116): placed, its capacity fixed by its slot's measure (of the
last slot when overset), and given its indent when PARA-opened, dropped to 0 when not less than the capacity. What lay
between the lines is sent ahead of it (R148). -/
def Composition.openAt (t : Tables) (para : Bool) (c : Composition) : Composition :=
  let y := t.style c.style
  let first := c.lines.isEmpty
  let place := placeLine y.leading y.paraSpace para first c.holes
  let measure := match place.2 with
    | h :: _ => h.measure
    | [] => c.lastMeasure
  let capacity := (measure.getD y.measure) * 72
  let indent := if para then y.indent * y.size else 0
  let extra := match place.2 with
    | h :: _ => if para && !first && decide (0 < h.count) then y.paraSpace else 0
    | [] => 0
  { c with
    passed := c.passed ++ place.1
    holes := place.2
    between := []
    line := some
      { paraOpened := para, placed := !place.2.isEmpty, capacity := capacity,
        used := if indent < capacity then indent else 0, hasChar := false,
        leading := y.leading, paraSpace := y.paraSpace, slotDepth := y.leading + extra,
        items := c.between ++ if para then [.para] else [] } }

/-- The current slot one line fuller. -/
def countLine (depth : Nat) : List Hole → List Hole
  | [] => []
  | h :: hs => { h with used := h.used + depth, count := h.count + 1 } :: hs

/-- The open line ended and emitted (R117); with 4,095 lines emitted it is not, and composition stops (R114). -/
def Composition.endLine (c : Composition) : Composition :=
  match c.line with
  | none => c
  | some o =>
    if c.lines.length = Config.maxTypeset then { c with line := none, limit := true }
    else
      { c with
        line := none
        holes := if o.placed then countLine o.slotDepth c.holes else c.holes
        depth := min Config.maxDepth
          (c.depth + o.leading + if o.paraOpened && !c.lines.isEmpty then o.paraSpace else 0)
        lines := c.lines ++ [{ placed := o.placed, items := o.items }] }

/-- Items sent on the open line. -/
def Composition.send (c : Composition) (items : List Item) : Composition :=
  { c with line := c.line.map fun o => { o with items := o.items ++ items } }

/-- The separator on the open line dropped: its marks and stray codes wait for the next line (R112, R148). Where that line is
overset, or never emitted, they are neither sent nor counted (the model's choice, assumption 39). -/
def Composition.dropSeparator (c : Composition) : Composition :=
  { c with between := c.between ++ c.separator.2, separator := (0, []) }

/-- A line break forced before a word's next character (R113): the line is emitted and the break counted, and the rest of the
word opens a new line, not PARA-opened; `held` are the marks and stray codes before its first character, which go with that line
(assumption 39). -/
def Composition.forceBreak (t : Tables) (held : List Item) (c : Composition) : Composition :=
  let e := c.endLine
  if e.limit then e
  else
    Composition.openAt t false
      { e with breaks := min Config.maxByte (e.breaks + 1), between := e.between ++ held }

/-- A word's codes placed one after another on a line that held no character (R112, R113). A character that does not fit,
when a character of the word stands on the line, forces a break; the word's first character on a line is placed whatever
its width. `held` are the marks and stray codes since the last character. -/
def Composition.placeCodes (t : Tables) : (held : List Item) → List Code → Composition → Composition
  | held, [], c => c.send held
  | held, code :: rest, c =>
    if c.limit then c
    else
      match code with
      | .char x =>
        let w := t.charWidth c.style x
        let c := match c.line with
          | some o => if o.hasChar && decide (o.capacity < o.used + w) then c.forceBreak t held else c.send held
          | none => c
        if c.limit then c
        else
          Composition.placeCodes t [] rest
            { c with line := c.line.map fun o =>
              { o with used := o.used + w, hasChar := true, items := o.items ++ [.char x] } }
      | .mark n => Composition.placeCodes t (held ++ [.select n]) rest { c with style := n }
      | _ => Composition.placeCodes t (held ++ codeItem code) rest c

/-- The codes of a word before its first printing character. -/
def leadCodes (codes : List Code) : List Code := codes.takeWhile fun c => !c.printing

/-- A word placed on a line holding no character, opening one at its first printing character when none is open (R110,
R112, R113). -/
def Composition.placeOnEmpty (t : Tables) (codes : List Code) (c : Composition) : Composition :=
  match c.line with
  | some _ => c.placeCodes t [] codes
  | none =>
    let lead := leadCodes codes
    let c := { c with style := styleAfter c.style lead, between := c.between ++ lead.flatMap codeItem }
    (c.openAt t false).placeCodes t [] (codes.drop lead.length)

/-- A word placed (R112): on a line that holds a character with the word space of the separator before it, if both fit;
otherwise the line is ended, the separator dropped, and the word opens a new line. The word space of a separator goes before the
style marks and stray codes that lie in it, in their order (R148 gives no order: the model's choice, assumption 34). A separator
that is dropped goes with the line that the word opens (assumption 39). -/
def Composition.word (t : Tables) (codes : List Code) (c : Composition) : Composition :=
  match c.line with
  | none => c.placeOnEmpty t codes
  | some o =>
    if o.hasChar then
      let w := wordWidth t c.style codes
      if o.used + c.separator.1 + w ≤ o.capacity then
        { c with
          style := styleAfter c.style codes
          separator := (0, [])
          line := some { o with
            used := o.used + c.separator.1 + w
            items := o.items ++ .space :: c.separator.2 ++ codes.flatMap codeItem } }
      else
        let e := c.endLine
        if e.limit then e else e.dropSeparator.placeOnEmpty t codes
    else c.placeOnEmpty t codes

/-- A gap met (R109, R112): its style marks take effect. On a line that holds a character it waits for the next word, its
word space measured by the style in force where it begins; on a line that holds only its indent it takes no room; outside
every line its marks and stray codes wait for the next line. -/
def Composition.gap (t : Tables) (codes : List Code) (c : Composition) : Composition :=
  let items := codes.flatMap codeItem
  let y := t.style c.style
  let c' := { c with style := styleAfter c.style codes }
  match c.line with
  | none => { c' with between := c.between ++ items }
  | some o =>
    if o.hasChar then { c' with separator := (y.wordSpace * y.size, items) }
    else c'.send items

/-- A PARA (R111). The separator behind the line it ends is dropped, and goes with the line that the PARA opens (assumption 39). -/
def Composition.para (t : Tables) (c : Composition) : Composition :=
  match c.line with
  | none => c.openAt t true
  | some o =>
    if o.hasChar then
      let e := c.endLine
      if e.limit then e else e.dropSeparator.openAt t true
    else c

/-- A QUAD (R111): it ends the open line, or opens one at itself and ends it at once, a blank line. The style marks and stray codes
between the line's last word and the QUAD lie before the line's end and are sent on it (the model's choice, assumption 39). -/
def Composition.quad (t : Tables) (c : Composition) : Composition :=
  match c.line with
  | none => ((c.openAt t false).send [Item.quad]).endLine
  | some _ => Composition.endLine { c.send (c.separator.2 ++ [Item.quad]) with separator := (0, []) }

/-- One segment of the stream composed; nothing is read after the line limit (R114). -/
def Composition.segment (t : Tables) (c : Composition) (g : Segment) : Composition :=
  if c.limit then c
  else
    match g with
    | .word codes => c.word t codes
    | .gap codes => c.gap t codes
    | .para => c.para t
    | .quad => c.quad t

/-- The end of the stream (R114): a line that holds a character is emitted; one that holds only its indent is not. The line ends
with its last word: style marks and stray codes in a separator after that word lie behind the line's end and are not sent
(R148 does not say where the line ends: the model's choice, assumption 39). -/
def Composition.finish (c : Composition) : Composition :=
  match c.line with
  | none => c
  | some o => if o.hasChar then c.endLine else { c with line := none }

/-- A story's text composed from its base style against a run (R108 to R117). -/
def compose (t : Tables) (base : Nat) (run : List Hole) (text : List CopyLine) : Composition :=
  ((segments [] [] (streamCodes text)).foldl (Composition.segment t)
    { style := base, line := none, separator := (0, []), between := [], passed := [], holes := run,
      lastMeasure := (run.getLast?).bind fun h => h.measure, lines := [], depth := 0, breaks := 0,
      limit := false }).finish

/-- The depth left unfilled in a slot. -/
def Hole.white (h : Hole) : Nat := h.depth.getD 0 - h.used

/-- The results of a composition (R118). -/
def Composition.results (placed : Bool) (c : Composition) : FitResults :=
  let holes := c.passed ++ c.holes
  let counts := holes.map fun h => h.count
  let set := counts.sum
  let overset := c.lines.length - set
  { lines := c.lines.length, linesSet := set, overset := overset, perSlot := counts, depth := c.depth,
    underset := if placed then some (if overset = 0 then (holes.map Hole.white).sum else 0) else none,
    forcedBreaks := c.breaks, limit := c.limit }

/-! ### Stories -/

/-- The tables as they stand. -/
def State.tables (s : State) : Tables := { styles := s.fit.styles, widths := s.fit.widths }

/-- The run a story is composed against: its page run with each slot's depth and measure for a placed story, and the
notional run otherwise (R115). -/
def State.holesOf (s : State) (r : Story) : List Hole :=
  match r.run with
  | none => notionalRun
  | some run =>
    run.slots.map fun k =>
      match (s.page run.page).slot k with
      | some sl => { depth := some sl.depth, measure := some sl.measure, used := 0, count := 0 }
      | none => { depth := some 0, measure := some 0, used := 0, count := 0 }

/-- Story `n` composed from the records as they stand (R121). -/
def State.composeStory (s : State) (n : Nat) : Composition :=
  let r := s.story n
  compose s.tables r.style (s.holesOf r) r.text

/-- The results a computation of story `n` taken now will write (R118, R121). -/
def State.fitResults (s : State) (n : Nat) : FitResults :=
  (s.composeStory n).results (s.story n).run.isSome

end Sys2Proof.Machine
end

