-- ==== Sys2Proof/Machine/Fits.lean ====
section
/-! DEFINITION. Fit states and page judgements: what makes a story out of date, who is told of a change of fit state, and
the judgement of a page with its FIT notice (R120, R124, R133, R134). -/

namespace Sys2Proof.Machine

/-! ### The judgement of a page (R133, R134) -/

/-- A page's fit state, judged over the stories on it (R133). -/
def State.judgement (s : State) (p : Page) : PageFit :=
  let stories := p.stories.map s.story
  if stories.any (fun r => r.fit == .stale || r.fit == .computing) then .pending
  else if stories.any (fun r => match r.results with
    | some f => decide (0 < f.overset)
    | none => false) then .over
  else if stories.any (fun r => match r.results with
    | some f => decide (p.tolerance < f.underset.getD 0)
    | none => false) then .short
  else .fits

/-- Page `g` judged afresh (R133). -/
def State.judge (s : State) (g : Nat) : State := s.updPage g fun p => { p with fit := s.judgement p }

/-- Page `g` judged afresh, if the story lies on one: the judgement a change of fit state hands to makeup (R124). -/
def State.judgeStory (s : State) (n : Nat) : State :=
  let r := s.story n
  if r.stage = .placed then
    match r.run with
    | some run => s.judge run.page
    | none => s
  else s

/-- The FIT notice of page `g`, when its fit state differs from the one it had before the request or event (R134). -/
def State.noticeFit (before : State) (g : Nat) (s : State) : State :=
  if (s.page g).fit = (before.page g).fit then s else s.raise (.fit g (s.page g).fit)

/-- The FIT notice of the page story `n` lies on (R134). -/
def State.noticeFitOf (before : State) (n : Nat) (s : State) : State :=
  match (s.story n).run with
  | some run => State.noticeFit before run.page s
  | none => s

/-- The page ids, 1 to 48. -/
def pageIds : List Nat := (List.range Config.pages).map (· + 1)

/-- The FIT notices of every page whose fit state differs from the one it had before, in page order (R134;
assumption 9). -/
def State.noticeFits (before s : State) : State := pageIds.foldl (fun t g => State.noticeFit before g t) s

/-! ### Fit states (R119 to R124) -/

/-- A change of a story's fit state handed to the page's judgement and to the holder's OVERSET lamp (R124). -/
def State.handOff (s : State) (n : Nat) : State := (s.judgeStory n).lampHolder n

/-- A story made out of date (R120): from NONE or CURRENT it becomes STALE at the tail of the fit queue; STALE it keeps
its place; COMPUTING it has its changed-during-fit mark set. -/
def State.makeStale (s : State) (n : Nat) : State :=
  match (s.story n).fit with
  | .stale => s
  | .computing => s.updStory n fun r => { r with changed := true }
  | .none => State.handOff ((s.updStory n fun r => { r with fit := .stale }).setFitQueue (s.fit.queue ++ [n])) n
  | .current => State.handOff ((s.updStory n fun r => { r with fit := .stale }).setFitQueue (s.fit.queue ++ [n])) n

/-- The story numbers, 1 to 512. -/
def storyIds : List Nat := (List.range Config.stories).map (· + 1)

/-- The stories a table load makes out of date: those in BASKET or PLACED (R105). -/
def Story.inMakeup (r : Story) : Bool := r.stage == .basket || r.stage == .placed

/-- The stories a table load appends to the fit queue, in story-number order: those in BASKET or PLACED that are CURRENT
(R105). -/
def State.tableStale (s : State) : List Nat :=
  storyIds.filter fun n => (s.story n).inMakeup && (s.story n).fit == .current

/-- A story COMPUTING in BASKET or PLACED, whose changed-during-fit mark a table load sets (R105). -/
def State.tableMarks (s : State) : Bool :=
  storyIds.any fun n => (s.story n).inMakeup && (s.story n).fit == .computing

/-- A story as a table load leaves it (R105). -/
def Story.afterTableLoad (r : Story) : Story :=
  if r.inMakeup then
    match r.fit with
    | .current => { r with fit := .stale }
    | .computing => { r with changed := true }
    | .stale => r
    | .none => r
  else r

/-- Every story in BASKET or PLACED made out of date as one step of STYLE or WIDTHS, every page in MAKEUP judged afresh,
the holders' OVERSET lamps set anew, and the FIT notices raised (R105, R124, R134). -/
def State.tableLoad (before s : State) : State :=
  let t : State := { s with
    stories := s.stories.map Story.afterTableLoad
    fit := { s.fit with queue := s.fit.queue ++ s.tableStale } }
  let t : State := { t with
    pages := t.pages.map fun p => if p.state = .makeup then { p with fit := t.judgement p } else p }
  State.noticeFits before (t.lamps fun _ l => l.lampSource == .overset && l.held.isSome)

/-- A text change carried out on story `n` (R6, R7, R8): the lines, blocks and edit count, the store-low latch, the fit out
of date, the OVERSET lamp, and the FIT notice of its page. -/
def State.changeText (s : State) (n : Nat) (text : List CopyLine) (style : Option Nat) : State :=
  State.noticeFitOf s n (((s.writeText n text style).storeLatch.makeStale n).lampHolder n)

end Sys2Proof.Machine
end

