-- ==== Sys2Proof/Machine/Baskets.lean ====
section
/-! DEFINITION. Baskets and spike lists: arrivals, departures, and the entry to SPIKED (R21 to R25). -/

namespace Sys2Proof.Machine

/-- A story put at the tail of its class: after the last story of its class, before the first of any lower one (R21). -/
def insertByClass (rank : Nat → Nat) (n : Nat) : List Nat → List Nat
  | [] => [n]
  | m :: ms => if rank m < rank n then n :: m :: ms else m :: insertByClass rank n ms

/-- The class order of a story number. -/
def State.rankOf (s : State) (n : Nat) : Nat := (s.story n).priority.rank

/-- A story put in the basket of its desk at the tail of its class, and the urgent count brought up to date (R21, R23). -/
def State.joinBasket (s : State) (n : Nat) : State :=
  let r := s.story n
  s.updDesk r.desk fun d =>
    { d with
      basket := insertByClass s.rankOf n d.basket
      urgent := if r.priority.high then d.urgent + 1 else d.urgent }

/-- A story taken out of the basket of its desk, the stories behind it closing up, and the urgent count lowered (R24). -/
def State.leaveBasket (s : State) (n : Nat) : State :=
  let r := s.story n
  s.updDesk r.desk fun d =>
    { d with
      basket := d.basket.erase n
      urgent := if r.priority.high then d.urgent - 1 else d.urgent }

/-- What an arrival does beside the basket itself (R23): the ARRIVAL notice; status lines for the desk's READY lines; the
wake of its DIM lines whose wake-on-urgent is set, for an URGENT or FLASH story; the BASKET and URGENT lamps. -/
def State.announce (s : State) (n : Nat) : State :=
  let r := s.story n
  let s := (s.raise (.arrival r.desk n)).refreshDesk r.desk
  let s := if r.priority.high then s.wake fun _ l => l.onDesk r.desk && l.wakeUrgent else s
  s.lampsDesk r.desk

/-- An arrival of story `n` in the basket of its desk (R21, R23). -/
def State.arrive (s : State) (n : Nat) : State := (s.joinBasket n).announce n

/-- A departure of story `n` from the basket of its desk (R24). -/
def State.depart (s : State) (n : Nat) : State :=
  let d := (s.story n).desk
  ((s.leaveBasket n).refreshDesk d).lampsDesk d

/-- Every slot of page `g` that story `n` occupies left empty and defined (R128). -/
def State.emptySlots (s : State) (g n : Nat) : State :=
  s.updPage g fun p =>
    { p with slots := p.slots.map fun v => v.map fun sl =>
        match sl.occupant with
        | some (m, _) => if m = n then { sl with occupant := none } else sl
        | none => sl }

/-- A story's fit on its entry to SPIKED (R25, R123): off the fit queue, and a computation in flight of it marked to be
discarded. -/
def State.stopFit (s : State) (n : Nat) : State :=
  { s with fit := { s.fit with
      queue := s.fit.queue.erase n
      inFlight :=
        if (s.story n).fit = .computing then
          s.fit.inFlight.map fun c => if c.story = n then { c with discard := true } else c
        else s.fit.inFlight } }

/-- A story enters SPIKED (R25): it leaves its page run, its fit becomes NONE, and it joins the tail of its desk's spike
list. Leaving a basket is a departure and is made first. -/
def State.enterSpiked (s : State) (n : Nat) : State :=
  let r := s.story n
  let s := s.stopFit n
  let s := match r.run with
    | some run => s.emptySlots run.page n
    | none => s
  let s := s.updStory n fun r => { r with stage := .spiked, run := none, fit := .none, changed := false }
  s.updDesk r.desk fun d => { d with spikes := d.spikes ++ [n] }

/-- A story leaves its desk's spike list (R25). -/
def State.leaveSpikes (s : State) (n : Nat) : State :=
  s.updDesk (s.story n).desk fun d => { d with spikes := d.spikes.erase n }

/-! ### Holds (R42, R44) -/

/-- The holder is a line, live or orphaned (R42). -/
def Holder.atLine : Holder → Bool
  | .absent => false
  | .line _ => true
  | .orphan _ _ _ => true
  | .channel => false

/-- The holder bars line `k`: another line, live or orphaned, or the channel (R30, R45). -/
def Holder.bars (h : Holder) (k : Nat) : Bool := h != .absent && h != .line k

/-- A HELD refusal, which carries the holder (11.1). -/
def refuseHeld (s : State) (n : Nat) : Verdict := (.held, holderBytes (s.story n).holder, s)


/-- Whatever hold story `n` has, released (R44, R51, R52): the holder becomes absent and the line's held story none. A live
hold's release clears the window record and, where the line stays READY, sets its dim timer afresh; an OVERSET lamp is set
anew. -/
def State.releaseHold (s : State) (n : Nat) : State :=
  let h := (s.story n).holder
  let s := s.updStory n fun r => { r with holder := .absent }
  match h with
  | .absent => s
  | .channel => s
  | .line k =>
    State.lampIf (s.updLine k fun l =>
      let l := { l with held := none, window := none }
      if l.state = .ready then l.armDim else l) k .overset
  | .orphan k _ _ => State.lampIf (s.updLine k fun l => { l with held := none }) k .overset

/-- Line `k` takes the hold on story `n` (R43, R44). -/
def State.takeHold (s : State) (k n : Nat) : State :=
  State.lampIf ((s.updStory n fun r => { r with holder := .line k }).updLine k fun l => { l with held := some n }) k .overset

/-- The holder's own ROUTE, SPIKE or KILL releases its hold first, as CLOSE does: the line is sent the home screen of its
own desk (R28, R34, R38). -/
def State.releaseOwn (s : State) (k n : Nat) : State :=
  if (s.story n).holder = .line k then (s.releaseHold n).putOwnHome k else s

/-- The channel's hold on story `n`, if it has one, released (R28, R33, R37). -/
def State.releaseChannel (s : State) (n : Nat) : State :=
  if (s.story n).holder = .channel then s.releaseHold n else s

end Sys2Proof.Machine
end

