-- ==== Sys2Proof/Machine/Setting.lean ====
section
/-! DEFINITION. Pages on their way to type: the codes of a job and their count (R145, R147, R148, 11.5), the ports that take
and lose jobs (R149 to R160), the return of a page to MAKEUP (R140), and the outcome of a release (R136 to R138). -/

namespace Sys2Proof.Machine

/-! ### The codes of a job (R148, 11.5) -/

/-- The translation entry of a text code (R145). -/
def State.entry (s : State) (c : Nat) : List Byte := (s.output.xlate[c]?).getD []

/-- A style select: 248, the style's font and its size (11.5). -/
def State.selectCodes (s : State) (n : Nat) : List Byte := [248, byte (s.style n).font, byte (s.style n).size]

/-- The codes one item of a set line is sent as (R148, 11.5). -/
def State.itemCodes (s : State) : Item → List Byte
  | .char c => s.entry c.toNat
  | .stray c => s.entry c.toNat
  | .para => s.entry 1
  | .quad => s.entry 2
  | .space => [244]
  | .select n => s.selectCodes n

/-- The set lines of story `n`, in run order; its overset lines are left out (R148). -/
def State.setLines (s : State) (n : Nat) : List SetLine := (s.composeStory n).lines.filter fun l => l.placed

/-- The first slot of story `n`'s run (R148). -/
def State.firstSlot (s : State) (n : Nat) : Nat :=
  match (s.story n).run with
  | some run => run.slots.headD 0
  | none => 0

/-- The units of one set line: its items, then the line end (11.5). -/
def State.lineUnits (s : State) (l : SetLine) : List (List Byte) := l.items.map s.itemCodes ++ [[243]]

/-- The units of one story: its start, its base-style select, its set lines (R148). The two codes of the start are one whole unit, which
R155 does not list (the model's choice, assumption 35). -/
def State.storyUnits (s : State) (n : Nat) : List (List Byte) :=
  [249, byte (s.firstSlot n)] :: s.selectCodes (s.story n).style :: (s.setLines n).flatMap s.lineUnits

/-- The job header: the start code, the label in two codes, the edition (11.5). -/
def Page.header (p : Page) : List Byte := [250, byte (p.label / 256), byte p.label, byte p.edition]

/-- The codes of page `g`'s job in the order the builder sends them, in the whole units it places (R148, R155). The four codes of the
header are one unit, and the two of the trailer another (the model's choice, assumption 35). -/
def State.jobUnits (s : State) (g : Nat) : List (List Byte) :=
  let p := s.page g
  p.header :: p.stories.flatMap s.storyUnits ++ [[252, byte p.stories.length]]

/-- What an item adds to its line's part of the count: a translated length, or 1 for a word space; a style select is
counted with the story (R148). -/
def State.itemCount (s : State) : Item → Nat
  | .char c => (s.entry c.toNat).length
  | .stray c => (s.entry c.toNat).length
  | .para => (s.entry 1).length
  | .quad => (s.entry 2).length
  | .space => 1
  | .select _ => 0

/-- A style select of a set line. -/
def Item.isSelect : Item → Bool
  | .select _ => true
  | _ => false

/-- One set line's part of the count: its codes and word spaces, and 1 for the line end (R148, part 3). -/
def State.lineCount (s : State) (l : SetLine) : Nat := (l.items.map s.itemCount).sum + 1

/-- One story's part of the count: 2 for its start, 3 for each style select, and its set lines (R148, parts 2 and 3). -/
def State.storyCount (s : State) (n : Nat) : Nat :=
  let lines := s.setLines n
  2 + 3 * (1 + (lines.map fun l => l.items.countP Item.isSelect).sum) + (lines.map s.lineCount).sum

/-- A job's total code count (R148): 4 for the header, the stories, 2 for the trailer. -/
def State.jobTotal (s : State) (g : Nat) : Nat := 4 + ((s.page g).stories.map s.storyCount).sum + 2

/-! ### The port's FIFO (R155) -/

/-- Whole units placed while the FIFO holds fewer than 448 codes (R155). -/
def placeUnits : List (List Byte) → List Byte → List (List Byte) × List Byte
  | [], fifo => ([], fifo)
  | u :: us, fifo => if fifo.length < Config.fifoStop then placeUnits us (fifo ++ u) else (u :: us, fifo)

/-- The builder fills the FIFO of a port that is sending (R155). -/
def SetterPort.fill (p : SetterPort) : SetterPort :=
  match p.job with
  | some j =>
    match j.phase with
    | .sending =>
      let r := placeUnits j.unplaced p.fifo
      { p with fifo := r.2, job := some { j with unplaced := r.1 } }
    | .awaiting => p
  | none => p

/-! ### Ports and jobs (R147 to R150) -/

/-- The port choice allows the port (R150). -/
def PortChoice.allows : PortChoice → Port → Bool
  | .a, .a => true
  | .a, .b => false
  | .b, .a => false
  | .b, .b => true
  | .either, _ => true

/-- The job nearest the head of the queue that port `p` may serve, and the queue without it (R150). -/
def nearestJob (p : Port) : List Job → Option (Job × List Job)
  | [] => none
  | j :: js =>
    if j.choice.allows p then some (j, js)
    else
      match nearestJob p js with
      | some (k, rest) => some (k, j :: rest)
      | none => none

/-- The last job record of page `g` written by the output controller (R147). -/
def State.recordJob (s : State) (g : Nat) (j : JobRecord) : State := s.updPage g fun p => { p with job := some j }

/-- Port `p` begins a job from its header (R150, R160): the port goes to SETTING, the remaining count is the total, the
loss timer starts if the ready lead is low (R159), and the builder begins to fill the FIFO. -/
def State.beginJob (s : State) (p : Port) (j : Job) : State :=
  let units := s.jobUnits j.page
  let s := s.updPort p fun v =>
    SetterPort.fill { v with
      state := .setting
      job := some { job := j, remaining := j.total, phase := .sending, unplaced := units }
      lossTimer := if v.lead then none else some v.lossTime }
  let s := s.recordJob j.page
    { total := j.total, remaining := j.total, outcome := .none, restarts := j.restarts, port := some p }
  s.updPage j.page fun g => { g with state := .setting }

/-- Port `p`, when READY, takes the nearest job it may serve (R150). -/
def State.portTakes (s : State) (p : Port) : State :=
  if (s.port p).state = .ready then
    match nearestJob p s.output.queue with
    | some (j, rest) => (s.setQueue rest).beginJob p j
    | none => s
  else s

/-- The arbiter of the queue over its two ports: port A first, then port B (R150). -/
def State.arbitrate (s : State) : State := (s.portTakes .a).portTakes .b

/-! ### Pages and their stories (R137, R140, R156) -/

/-- Each story on page `g` in stage `old` goes to stage `new`, keeping its run and its fit. -/
def State.moveStories (s : State) (g : Nat) (old new : Stage) : State :=
  (s.page g).stories.foldl
    (fun t n => t.updStory n fun r => if r.stage = old then { r with stage := new } else r) s

/-- Page `g` returns to MAKEUP from RELEASING, QUEUED or SETTING (R140). -/
def State.returnPage (s : State) (g : Nat) : State :=
  let s := s.moveStories g .setting .placed
  let s := s.updPage g fun p => { p with state := .makeup, trim := false }
  s.judge g

/-- The last job record of page `g` with its outcome, its remaining count kept (R147, R158). -/
def State.endRecord (s : State) (g : Nat) (o : JobOutcome) : State :=
  s.updPage g fun p => { p with job := p.job.map fun j => { j with outcome := o } }

/-- Page `g`'s job removed from the output queue, the jobs behind it keeping their order, and the page returned (R158,
QUEUED). -/
def State.cancelQueued (s : State) (g : Nat) : State :=
  ((s.setQueue (s.output.queue.filter fun j => j.page ≠ g)).endRecord g .cancelled).returnPage g

/-- The port whose job is page `g`'s, if a port holds it (R149). -/
def State.portOf (s : State) (g : Nat) : Option Port :=
  let holds := fun p => match (s.port p).job with
    | some j => j.job.page == g
    | none => false
  if holds .a then some .a else if holds .b then some .b else none

/-- The job at port `p` ended by a cancel (R158, SETTING): the loss timer stops, the FIFO is flushed, the abort code is made
pending, the job leaves the port, which goes to `next`. -/
def SetterPort.cancelled (v : SetterPort) (next : PortState) : SetterPort :=
  { v with state := next, job := none, fifo := [], abort := true, lossTimer := none }

/-- Page `g`'s job cancelled at port `p`, and the page returned (R158). The port takes no job here. -/
def State.cancelAtPort (s : State) (p : Port) (g : Nat) (next : PortState) : State :=
  ((s.updPort p fun v => v.cancelled next).endRecord g .cancelled).returnPage g

/-- CANCEL of a page in SETTING, and the SETTING path of KILL (R158): the port goes to READY and takes the next job it may
serve. -/
def State.cancelSetting (s : State) (g : Nat) : State :=
  match s.portOf g with
  | some p => (s.cancelAtPort p g .ready).arbitrate
  | none => s.returnPage g

/-- SET page `g` reopened (R141): it goes to MAKEUP, its SET stories to PLACED, each made out of date in the order of their
first slot. The margin and the last job record are kept. -/
def State.reopenPage (s : State) (g : Nat) : State :=
  let stories := (s.page g).stories
  let s := s.moveStories g .set .placed
  let s := s.updPage g fun p => { p with state := .makeup, trim := false }
  let s := stories.foldl (fun t n => t.makeStale n) s
  s.judge g

/-- Page `g`'s job built and queued (R137): its total fixed, the job at the queue's tail, the last job record, the page QUEUED
and its stories SETTING, and the RELEASE notice; then a READY port may take it (R150). -/
def State.queuePage (s : State) (g : Nat) : State :=
  let total := s.jobTotal g
  let job : Job := { page := g, choice := (s.page g).choice, total := total, restarts := 0 }
  let s := s.setQueue (s.output.queue ++ [job])
  let s := s.recordJob g { total := total, remaining := total, outcome := .none, restarts := 0, port := none }
  let s := s.updPage g fun p => { p with state := .queued }
  let s := s.moveStories g .placed .setting
  (s.raise (.release g .queued)).arbitrate

/-- The outcome of page `g`'s release, when it is not PENDING (R136): OVERSET, then QUEUE FULL, then QUEUED. -/
def State.decideRelease (s : State) (g : Nat) : State :=
  let p := s.page g
  if p.fit = .over ∧ p.trim = false then (s.returnPage g).raise (.release g .overset)
  else if Config.queue ≤ s.output.queue.length then (s.returnPage g).raise (.release g .queueFull)
  else s.queuePage g

/-- The wait of a RELEASING page ends when its fit state is not PENDING (R136). -/
def State.endWait (s : State) (g : Nat) : State :=
  let p := s.page g
  if p.state = .releasing ∧ p.fit ≠ .pending then s.decideRelease g else s

/-- The wait of the page story `n` lies on ends (R136). -/
def State.endWaitOf (s : State) (n : Nat) : State :=
  match (s.story n).run with
  | some run => s.endWait run.page
  | none => s

/-! ### KILL (R36) -/

/-- The first part of a KILL: page `g` returned to MAKEUP by the path of its state (R36). -/
def State.killReturn (s : State) (g : Nat) : State :=
  match (s.page g).state with
  | .releasing => s.returnPage g
  | .queued => s.cancelQueued g
  | .setting => s.cancelSetting g
  | .set => s.reopenPage g
  | .makeup => s
  | .closed => s

/-- A KILL carried out on story `n` (R36): its page returned to MAKEUP, the story spiked off it, the page judged once over
the stories that remain, and the FIT notice against the judgement the page had when the KILL was taken. `before` is the
state in which the KILL was taken. -/
def State.kill (before s : State) (n : Nat) : State :=
  match (s.story n).run with
  | none => s.enterSpiked n
  | some run => State.noticeFit before run.page (((s.killReturn run.page).enterSpiked n).judge run.page)

/-! ### Loss (R159 to R161) -/

/-- A count that saturates at 255 (R147). -/
def bump (n : Nat) : Nat := min Config.maxByte (n + 1)

/-- The lost port: LOST, its FIFO emptied with any pending abort code, its job gone, its loss latch set (R160, R161). -/
def SetterPort.loseJob (v : SetterPort) : SetterPort :=
  { v with state := .lost, job := none, fifo := [], abort := false, lossTimer := none, lossLatch := true }

/-- Where a lost port's job goes: FAILOVER, REQUEUED or RETURNED (R160). -/
def State.lossFate (s : State) (p : Port) : Fate :=
  if (s.port p).failover ∧ (s.port (otherPort p)).state = .ready then .failover
  else if s.output.queue.length < Config.queue then .requeued
  else .returned

/-- Port `p` lost with job `j` (R160, R161): the OUTPUT notice of the loss if the latch was clear, then the job's way. -/
def State.losePort (s : State) (p : Port) (j : PortJob) : State :=
  let fate := s.lossFate p
  let told := (s.port p).lossLatch
  let g := j.job.page
  let job : Job := { j.job with restarts := bump j.job.restarts }
  let record : JobRecord :=
    { total := job.total, remaining := job.total, outcome := .none, restarts := job.restarts, port := none }
  let s := s.updPort p SetterPort.loseJob
  let s := if told then s else s.raise (.output p (.lost g fate))
  match fate with
  | .failover => (s.beginJob (otherPort p) job).raise (.output (otherPort p) (.failover g))
  | .requeued =>
    let s := (s.setQueue (job :: s.output.queue)).recordJob g record
    State.arbitrate (s.updPage g fun v => { v with state := .queued })
  | .returned =>
    ((s.recordJob g { record with outcome := .cancelled }).returnPage g).raise (.release g .queueFull)

end Sys2Proof.Machine
end

