-- ==== Sys2Proof/Machine/Sessions.lean ====
section
/-! DEFINITION. A line's life: frames taken into service and answered (R68 to R73), the end of a session (R64, R65, R79),
sign-on, dimming and orphans (R54, R55, R74 to R80). -/

namespace Sys2Proof.Machine

/-! ### Answers and service (R71, R72) -/

/-- An armed override is consumed by the answer to any frame but ARM (R27). DEDUCED (assumption 43): the kind word alone tells an
ARM, so an ARM whose body is malformed, answered BAD FIELD, leaves the override armed. -/
def Line.consume (l : Line) (kind : List Byte) : Line :=
  { l with override := if kind = kindWord "ARM" then l.override else false }

/-- A service answer enters line `k`'s answer slot, in place of an unsent passing answer; the request stays in service,
answered, until its answer begins to be sent (R72), and an armed override is consumed (R27). -/
def State.answerService (s : State) (k : Nat) (kind : List Byte) (status : Status) (details : List Byte) : State :=
  s.updLine k fun l =>
    Line.consume { l with
      answer := some { service := true, kind := kind, status := status, details := details }
      service := l.service.map fun v => { v with stage := .answered } } kind

/-- A frame taken into service and answered in the same step (R71). -/
def State.answerAtOnce (s : State) (k : Nat) (kind : List Byte) (status : Status) : State :=
  (s.updLine k fun l => { l with service := some { kind := kind, cmd := none, stage := .waiting } }).answerService
    k kind status []

/-- A passing answer: it enters an empty slot or replaces an unsent passing answer, and is dropped where the slot holds an
unsent service answer (R72). -/
def State.answerPassing (s : State) (k : Nat) (kind : List Byte) (status : Status) : State :=
  s.updLine k fun l =>
    let a : Answer := { service := false, kind := kind, status := status, details := [] }
    match l.answer with
    | none => { l with answer := some a }
    | some b => if b.service then l else { l with answer := some a }

/-- The withdrawn story clears when a frame is taken into service, and a status line without it is put into the slot
(R93). -/
def State.clearWithdrawn (s : State) (k : Nat) : State :=
  if (s.line k).withdrawn.isSome then (s.updLine k fun l => { l with withdrawn := none }).refreshLine k else s

/-- An error latch of line `k` set by `f`; if it was clear the lamp is set anew where its source is ERROR (R69). -/
def State.setLatch (s : State) (k : Nat) (f : Latches → Latches) : State :=
  let old := (s.line k).latches
  let t := s.updLine k fun l => { l with latches := f l.latches }
  if f old = old then t else t.lampIf k .error

/-- A frame of unknown kind sets UNKNOWN FRAME (R69, R71). -/
def State.noteUnknown (s : State) (k : Nat) (f : TerminalFrame) : State :=
  if f = .unknown then s.setLatch k fun x => { x with unknownFrame := true } else s

/-- A request handed to the block that serves it, in service and not yet taken (R71). -/
def State.intoService (s : State) (k : Nat) (kind : List Byte) (i : Instr) : State :=
  s.updLine k fun l => { l with service := some { kind := kind, cmd := some i, stage := .waiting } }

/-- A valid frame on an IDLE line (R71): with none in service a SIGNON is taken into service, any other known kind is
answered DENIED and an unknown kind BAD FIELD; with one in service every frame is answered BUSY in passing. -/
def State.frameIdle (s : State) (k : Nat) (kind : List Byte) (f : TerminalFrame) : State :=
  if (s.line k).service.isSome then s.answerPassing k kind .busy
  else
    match f with
    | .unknown => s.answerAtOnce k kind .badField
    | .malformed => s.answerAtOnce k kind (if kind = kindWord "SIGNON" then .badField else .denied)
    | .request i => if kind = kindWord "SIGNON" then s.intoService k kind i else s.answerAtOnce k kind .denied

/-- A valid frame on a SIGNING line (R71), answered in passing. -/
def State.frameSigning (s : State) (k : Nat) (kind : List Byte) (f : TerminalFrame) : State :=
  if f = .unknown then s.answerPassing k kind .badField
  else s.answerPassing k kind (if kind = kindWord "SIGNON" then .busy else .denied)

/-- A valid frame on a READY line (R71, R80): the dim timer is set back; with a request in service it is answered BUSY in
passing; otherwise it is taken into service, where SIGNON is answered STATE and an unknown kind or a malformed body BAD
FIELD (assumption 4), and the withdrawn story clears (R93). -/
def State.frameReady (s : State) (k : Nat) (kind : List Byte) (f : TerminalFrame) : State :=
  let s := s.updLine k Line.armDim
  if (s.line k).service.isSome then s.answerPassing k kind .busy
  else
    let s := s.clearWithdrawn k
    if kind = kindWord "SIGNON" then s.answerAtOnce k kind .state
    else
      match f with
      | .unknown => s.answerAtOnce k kind .badField
      | .malformed => s.answerAtOnce k kind .badField
      | .request i => s.intoService k kind i

/-- A valid frame judged by its line's state (R71). A DIM line wakes first (R81). A DISABLED or LOST line takes no
characters, so no frame of it arrives (R68). -/
def State.frameIn (s : State) (k : Nat) (kind : List Byte) (f : TerminalFrame) : State :=
  match (s.line k).state with
  | .disabled => s
  | .lost => s
  | .idle => (s.noteUnknown k f).frameIdle k kind f
  | .signing => (s.noteUnknown k f).frameSigning k kind f
  | .ready => (s.noteUnknown k f).frameReady k kind f
  | .dim => ((s.wake fun m _ => m == k).noteUnknown k f).frameReady k kind f

/-- The request `i` of line `k` is in service and not yet taken (R73). -/
def State.waiting (s : State) (k : Nat) (i : Instr) : Bool :=
  match (s.line k).service with
  | some v => v.cmd == some i && v.stage == .waiting
  | none => false

/-- The line as a terminal request finds it: in service and not yet taken, or, where it is not, its frame arrives now (R71;
assumption 1). -/
def State.offerFrame (s : State) (k : Nat) (i : Instr) : State :=
  if s.waiting k i then s else s.frameIn k i.kind (.request i)

/-- Whether the request is the one its block takes now. -/
def State.takesFrame (s : State) (k : Nat) (i : Instr) : Bool := (s.offerFrame k i).waiting k i

/-- A terminal request taken by its owning block, whose rule is `act`, and its answer put into the answer slot (R71, R72).
A frame not taken into service is answered by its line's state. -/
def State.serveLine (s : State) (k : Nat) (i : Instr) (act : State → Verdict) : State :=
  let t := s.offerFrame k i
  if s.takesFrame k i then
    let v := act t
    v.2.2.answerService k i.kind v.1 v.2.1
  else t

/-- A terminal request as a step. -/
def lineStep (k : Fin 32) (i : Instr) (act : State → Verdict) (s : State) : Host.Outcome State Fault Refusal :=
  .next (s.serveLine k.val i act)

/-! ### Receiving characters (R68, R69, R191) -/

/-- The line's receiver takes characters in this state (R68). -/
def LineState.receiving : LineState → Bool
  | .disabled => false
  | .lost => false
  | .idle => true
  | .signing => true
  | .ready => true
  | .dim => true

/-- A fault at the check gate: the frame in progress is discarded and the latch set (R69). -/
def State.gateFault (s : State) (k : Nat) (x : LineFault) : State :=
  (s.updLine k fun l => { l with rx := [] }).setLatch k fun v => v.record x

/-- A completed frame judged by its 8-bit sum, and handed on when it passes (R68, R69, R191). -/
def State.frameDone (s : State) (k : Fin 32) (bs : List Byte) : State :=
  if frameSum bs = 0 then
    let kind := (bs.drop 1).take 8
    (s.updLine k.val fun l => { l with rx := [] }).frameIn k.val kind
      (terminalFrame k kind ((bs.drop 11).take (bs.length - 12)))
  else s.gateFault k.val .check

/-- One character at line `k`'s receiver (R68, R69, R191): between frames a start character begins a frame and any other is
discarded; within a frame it is collected, until the frame's last character completes it or the 4,097th sets LONG FRAME. -/
def State.receiveChar (k : Fin 32) (s : State) (b : Byte) : State :=
  let l := s.line k.val
  if l.state.receiving then
    if l.rx.isEmpty then (if b = 255 then s.updLine k.val fun l => { l with rx := [b] } else s)
    else
      let bs := l.rx ++ [b]
      if Config.receiveBuffer < bs.length then s.gateFault k.val .longFrame
      else if lineFrameLength bs = some bs.length then s.frameDone k bs
      else s.updLine k.val fun l => { l with rx := bs }
  else s

/-! ### The end of a session (R64, R65, R79) -/

/-- A line context as a drop of carrier, LINEOFF or RESTART leaves its session (R64, R65, R84): the request in service
abandoned (R73), a pending sign-on abandoned, the user dropped, the override, window record, timers, receive buffer, slots
and transmitter cleared, and the withdrawn story gone (R93). -/
def Line.cut (l : Line) : Line :=
  { l with
    user := none, window := none, service := none, rx := [], answer := none, display := none, status := none,
    override := false, signonTimer := none,
    outcome := if l.state = .signing then .abandoned else l.outcome,
    dimTimer := none, withdrawn := none, tx := none }

/-- A line context sent to DISABLED (R61, R64, R84). -/
def Line.disable (l : Line) : Line :=
  { l.cut with state := .disabled, held := none, latches := .clear, lamp := false }

/-! ### Sign-on (R76, R78) -/

/-- The story an orphan of `user` holds at line `m` (R55). -/
def State.orphanAt (s : State) (m user : Nat) : Option Nat :=
  match (s.line m).held with
  | none => none
  | some n =>
    match (s.story n).holder with
    | .orphan m' u _ => if m' = m ∧ u = user then some n else none
    | _ => none

/-- The orphan of `user` that resumes at line `k`: the one at that line, else the one at the lowest-numbered line (R55). -/
def State.resumable (s : State) (k user : Nat) : Option (Nat × Nat) :=
  match s.orphanAt k user with
  | some n => some (k, n)
  | none => (List.range Config.lines).findSome? fun m => (s.orphanAt m user).map fun n => (m, n)

/-- The orphan of another user that line `k` stands for, which a grant releases (R56). -/
def State.strangersOrphan (s : State) (k user : Nat) : Option Nat :=
  match (s.line k).held with
  | none => none
  | some n =>
    match (s.story n).holder with
    | .orphan _ u _ => if u = user then none else some n
    | _ => none

/-- The orphan `n` of line `m` resumed at line `k` as a live hold (R55). -/
def State.resumeOrphan (s : State) (k m n : Nat) : State :=
  ((s.updLine m fun l => { l with held := none }).lampIf m .overset).takeHold k n

/-- The sign-on of line `k` times out (R78). -/
def State.signonExpires (s : State) (k : Nat) : State :=
  (s.updLine k fun l => { l with state := .idle, outcome := .timedOut, signonTimer := none }).answerService
    k (kindWord "SIGNON") .noAnswer []

/-! ### Dimming (R80) -/

/-- The four conditions under which line `k`'s dim timer falls (R80). -/
def Line.dimRuns (l : Line) : Bool := l.state == .ready && l.held.isNone && l.service.isNone && l.dimTime != 0

/-- Line `k` goes to DIM (R80). -/
def State.goDim (s : State) (k : Nat) : State :=
  s.updLine k fun l => { l with state := .dim, dimTimer := none, display := some .blank }

/-- A seconds tick at line `k`: its sign-on timer or its dim timer falls by 1, and what reaches 0 expires (R78, R80). -/
def State.lineTick (s : State) (k : Nat) : State :=
  let l := s.line k
  if l.state = .signing then
    match l.signonTimer with
    | none => s
    | some t => if t ≤ 1 then s.signonExpires k else s.updLine k fun l => { l with signonTimer := some (t - 1) }
  else if l.dimRuns then
    match l.dimTimer with
    | none => s
    | some t => if t ≤ 1 then s.goDim k else s.updLine k fun l => { l with dimTimer := some (t - 1) }
  else s

/-! ### Orphans (R54) -/

/-- The orphaned hold on story `n`, of `user` at line `k`, expires: it is released and the ORPHAN notice raised (R54). -/
def State.orphanExpires (s : State) (n user k : Nat) : State := (s.releaseHold n).raise (.orphan n user k)

/-- A seconds tick at story `n`'s orphan timer (R54). -/
def State.orphanTick (s : State) (n : Nat) : State :=
  match (s.story n).holder with
  | .orphan k user t =>
    if t ≤ 1 then s.orphanExpires n user k
    else s.updStory n fun r => { r with holder := .orphan k user (t - 1) }
  | _ => s

/-! ### Ports (R159) -/

/-- Port `p`'s loss timer runs and reaches 0 at this second (R159). -/
def State.lossDue (s : State) (p : Port) : Bool :=
  match (s.port p).lossTimer with
  | some t => decide (t ≤ 1)
  | none => false

/-- Port `p`'s loss timer one second lower, where it does not reach 0 (R159). -/
def State.lossFalls (s : State) (p : Port) : State :=
  s.updPort p fun v => { v with lossTimer := v.lossTimer.map fun t => if t ≤ 1 then t else t - 1 }

/-- Port `p`'s loss timer reaches 0: the port is lost with its job (R159, R160). -/
def State.lossExpires (s : State) (p : Port) : State :=
  match (s.port p).job with
  | some j => s.losePort p j
  | none => s

/-- A seconds tick at both ports' loss timers (R159): a timer that a loss starts within the tick does not fall in it. -/
def State.lossTick (s : State) : State :=
  let t := (s.lossFalls .a).lossFalls .b
  let t := if s.lossDue .a then t.lossExpires .a else t
  if s.lossDue .b then t.lossExpires .b else t

/-! ### The clock (chapter 9) -/

/-- The EDITION notice, with the edition and the count after the event (R171). -/
def State.raiseEdition (s : State) (e : EditionEvent) : State := s.raise (.edition e s.clock.edition s.clock.count)

/-- The near warning is due: the threshold is not 0, the countdown is at or below it, and the latch is armed (R168). -/
def Clock.nearDue (c : Clock) : Bool :=
  decide (c.threshold ≠ 0) && decide (c.count ≤ c.threshold) && !c.fired

/-- The near warning, when it is due: the latch fires and the EDITION notice is raised with NEAR (R168). -/
def State.warnNear (s : State) : State :=
  if s.clock.nearDue then State.raiseEdition { s with clock := { s.clock with fired := true } } .near else s

/-- A status line for every READY line (R94). DEDUCED (assumption 44): whatever its lamp source. R171's closing sentence withholds
status lines from "lines with other lamp sources"; the sentence before it, R94, R168 and R169 give one to every READY line. -/
def State.refreshAll (s : State) : State := s.refresh fun _ _ => true

/-- A clock event that changes the edition or the state hands on status lines and DEADLINE lamps (R171). -/
def State.clockEvent (s : State) : State := s.refreshAll.lampsDeadline

/-- The move to the next edition with its countdown (R169, R173). -/
def State.switchEdition (s : State) (countdown : Nat) : State :=
  let s : State := { s with clock := { s.clock with
    state := .running, edition := s.clock.edition + 1, count := countdown, next := none, fired := false } }
  (s.raiseEdition .switched).warnNear.clockEvent

/-- The terminal count of a RUNNING clock (R169): the pending switch, or OVERDUE with lateness 0. -/
def State.terminalCount (s : State) : State :=
  match s.clock.next with
  | some countdown => s.switchEdition countdown
  | none =>
    (State.raiseEdition { s with clock := { s.clock with state := .overdue, count := 0 } } .overdue).clockEvent

/-- Status lines for a change of the whole minutes (R94, R168, R170). -/
def State.minutesPass (s : State) (old : Nat) : State :=
  if s.clock.count / 60 = old / 60 then s else s.refreshAll

/-- The DEADLINE lamps are set anew when the near warning fires, and whenever the countdown equals a threshold that is not
0 (R168). -/
def State.nearLamps (s : State) (due : Bool) : State :=
  if due || (decide (s.clock.threshold ≠ 0) && decide (s.clock.count = s.clock.threshold)) then s.lampsDeadline else s

/-- A seconds tick at the clock (R168 to R170). -/
def State.clockTick (s : State) : State :=
  match s.clock.state with
  | .stopped => s
  | .running =>
    if s.clock.count ≤ 1 then s.terminalCount
    else
      let old := s.clock.count
      let t : State := { s with clock := { s.clock with count := old - 1 } }
      (t.warnNear.nearLamps t.clock.nearDue).minutesPass old
  | .overdue =>
    let old := s.clock.count
    State.minutesPass { s with clock := { s.clock with count := min 65535 (old + 1) } } old

end Sys2Proof.Machine
end

