-- ==== Sys2Proof/Machine/Copyfit.lean ====
section
/-! DEFINITION. The meanings of chapter 6: STYLE, WIDTHS, and the fit engine's taking and completion of a computation. -/

namespace Sys2Proof.Machine

/-! ### STYLE and WIDTHS (R102 to R106) -/

/-- A style with the fields a STYLE carries (R105). -/
def Style.merge (y : Style) (f : StyleFields) : Style :=
  { font := f.font.getD y.font, size := f.size.getD y.size, leading := f.leading.getD y.leading,
    indent := f.indent.getD y.indent, wordSpace := f.wordSpace.getD y.wordSpace,
    paraSpace := f.paraSpace.getD y.paraSpace, measure := f.measure.getD y.measure }

/-- Every field of the merged style lies in its range, the leading from the size to 288 (R102, R105). -/
def Style.ok (y : Style) : Bool :=
  within 0 7 y.font && within 10 144 y.size && within y.size 288 y.leading && within 0 72 y.indent
    && within 4 36 y.wordSpace && within 0 48 y.paraSpace && within 36 720 y.measure

/-- What a table load reports: the stories appended to the fit queue, and 1 or 0 for the changed mark (R105, R106). -/
def State.loadReport (s : State) : List Byte := u16 s.tableStale.length ++ u8 (yesCode s.tableMarks)

/-- STYLE's effect (R105). The table holds only styles in their ranges, so the merged style is in range exactly when every
field present is and the merged leading is. -/
def State.loadStyle (s : State) (n : Nat) (f : StyleFields) : Verdict :=
  let y := (s.style n).merge f
  if !(decide (n < Config.styles) && y.ok) then refuse s .badField
  else if s.tablesFrozen then refuse s .frozen
  else
    (.done, styleBytes y ++ s.loadReport,
      State.tableLoad s { s with fit := { s.fit with styles := s.fit.styles.setIfInBounds n y } })

/-- STYLE (R105). -/
def execStyle (tag : Byte) (n : Nat) (f : StyleFields) (s : State) : Host.Outcome State Fault Refusal :=
  hostStep (.style tag n f) (fun s => s.loadStyle n f) s

/-- The greatest width (R103). -/
def maxWidth : Nat := 72

/-- The widths of one font with `values` stored from code `c` on, each clamped (R106). -/
def putWidths (font : Vector Nat 94) (c : Nat) (values : List Nat) : Vector Nat 94 :=
  font.mapIdx fun i w => if c - 33 ≤ i then ((values[i - (c - 33)]?).map (min maxWidth)).getD w else w

/-- The width tables with `values` stored in a font from code `c` on (R106). -/
def FitEngine.loadWidths (e : FitEngine) (font c : Nat) (values : List Nat) : FitEngine :=
  { e with widths := e.widths.mapIdx fun f t => if f = font then putWidths t c values else t }

/-- WIDTHS's effect (R106). -/
def State.loadWidths (s : State) (font c : Nat) (values : List Nat) : Verdict :=
  let n := values.length
  if !(decide (font < Config.fonts) && within 33 126 c && decide (n ≠ 0) && decide (c + n - 1 ≤ 126)) then
    refuse s .badField
  else if s.tablesFrozen then refuse s .frozen
  else
    (.done,
      u8 font ++ u8 c ++ u8 n ++ u8 (values.countP fun w => decide (maxWidth < w)) ++ s.loadReport,
      State.tableLoad s { s with fit := s.fit.loadWidths font c values })

/-- WIDTHS (R106). -/
def execWidths (tag : Byte) (font c : Nat) (values : List Nat) (s : State) : Host.Outcome State Fault Refusal :=
  hostStep (.widths tag font c values) (fun s => s.loadWidths font c values) s

/-! ### The fit queue (R121, R122) -/

/-- The story at the head of the fit queue taken: COMPUTING, its changed mark clear, and the computation reads the records
as they stand (R121, R124). -/
def State.takeFit (s : State) : State :=
  match s.fit.inFlight, s.fit.queue with
  | none, n :: rest =>
    let t : State := { s with fit := { s.fit with
      queue := rest, inFlight := some { story := n, discard := false, results := s.fitResults n } } }
    State.handOff (t.updStory n fun r => { r with fit := .computing, changed := false }) n
  | _, _ => s

/-- FIT_TAKE (R121): with a computation in flight, or an empty queue, the engine takes nothing. -/
def execFitTake (s : State) : Host.Outcome State Fault Refusal := .next s.takeFit

/-- A computation whose story changed while it ran: discarded, and the story queued again (case 2 of R122). -/
def State.requeueFit (s : State) (n : Nat) : State :=
  State.handOff ((s.updStory n fun r => { r with fit := .stale, changed := false }).setFitQueue (s.fit.queue ++ [n])) n

/-- A computation's results written (case 3 of R122): the page judged and its FIT notice raised, the holder's lamp, and the
end of a RELEASING page's wait (R124, R134, R136). -/
def State.writeFit (s : State) (n : Nat) (f : FitResults) : State :=
  let t := s.updStory n fun r => { r with fit := .current, results := some f }
  State.endWaitOf (State.noticeFitOf s n (t.handOff n)) n

/-- A computation completes (R122). -/
def State.completeFit (s : State) : State :=
  match s.fit.inFlight with
  | none => s
  | some c =>
    let t : State := { s with fit := { s.fit with inFlight := none } }
    if c.discard then t
    else if (t.story c.story).changed then t.requeueFit c.story
    else t.writeFit c.story c.results

/-- FIT_COMPLETION (R122): with no computation in flight nothing completes. -/
def execFitCompletion (s : State) : Host.Outcome State Fault Refusal := .next s.completeFit

end Sys2Proof.Machine
end

