-- ==== Sys2Proof/Machine/Deadline.lean ====
section
/-! DEFINITION. The meanings of chapter 9: the seconds tick, the terminal count, and the clock's requests. -/

namespace Sys2Proof.Machine

/-! ### The seconds tick (R168) -/

/-- The line numbers, 0 to 31. -/
def lineIds : List Nat := List.range Config.lines

/-- The stories whose orphan timers run, in number order (R54). -/
def State.orphanIds (s : State) : List Nat :=
  storyIds.filter fun n => match (s.story n).holder with
    | .orphan _ _ _ => true
    | _ => false

/-- SECONDS_TICK (R54, R78, R80, R159, R168 to R170): the clock, then the lines' timers, the orphan timers and the ports'
loss timers, each in number order (assumption 10). -/
def execSecondsTick (s : State) : Host.Outcome State Fault Refusal :=
  .next <|
    let t := lineIds.foldl State.lineTick s.clockTick
    (t.orphanIds.foldl State.orphanTick t).lossTick

/-- TERMINAL_COUNT (R169): the countdown of a RUNNING clock falls to 0. A countdown with more than a second left does not
reach it (assumption 10). -/
def execTerminalCount (s : State) : Host.Outcome State Fault Refusal :=
  .next (if s.clock.state = .running ∧ s.clock.count ≤ 1 then s.terminalCount else s)

/-! ### Requests (R172 to R176) -/

/-- The clock started on an edition and countdown (R172). -/
def State.startClock (s : State) (edition countdown : Nat) : State :=
  let s : State := { s with clock := { s.clock with
    state := .running, edition := edition, count := countdown, next := none, fired := false } }
  s.warnNear.clockEvent

/-- CLKSTART's effect (R172). -/
def State.clkstart (s : State) (edition countdown : Nat) : Verdict :=
  if !(within 1 15 edition && within 1 65535 countdown) then refuse s .badField
  else if s.clock.state = .stopped then
    let t := s.startClock edition countdown
    (.done, clockBytes t.clock, t)
  else refuse s .state

/-- CLKSTART (R172). -/
def execClkstart (tag : Byte) (edition countdown : Nat) (s : State) : Host.Outcome State Fault Refusal :=
  hostStep (.clkstart tag edition countdown) (fun s => s.clkstart edition countdown) s

/-- A CLKNEXT carried out (R173): a RUNNING clock keeps the next deadline for its terminal count, an OVERDUE clock switches
at once. -/
def State.nextDeadline (s : State) (countdown : Nat) : State :=
  match s.clock.state with
  | .running => { s with clock := { s.clock with next := some countdown } }
  | .overdue => s.switchEdition countdown
  | .stopped => s

/-- CLKNEXT's effect (R173). -/
def State.clknext (s : State) (countdown : Nat) : Verdict :=
  if !within 1 65535 countdown then refuse s .badField
  else if s.clock.state = .stopped then refuse s .state
  else if s.clock.edition = Config.editions then refuse s .limit
  else
    let t := s.nextDeadline countdown
    (.done, clockBytes t.clock, t)

/-- CLKNEXT (R173). -/
def execClknext (tag : Byte) (countdown : Nat) (s : State) : Host.Outcome State Fault Refusal :=
  hostStep (.clknext tag countdown) (fun s => s.clknext countdown) s

/-- CLKSTOP's effect on the clock and what it hands on (R174). -/
def State.stopClock (s : State) : State :=
  if s.clock.state = .stopped then s
  else State.clockEvent { s with clock := { s.clock with state := .stopped, count := 0, next := none } }

/-- CLKSTOP (R174). -/
def execClkstop (tag : Byte) (s : State) : Host.Outcome State Fault Refusal :=
  hostStep (.clkstop tag) (fun s => (.done, [], s.stopClock)) s

/-- CLKREAD (R175). -/
def execClkread (tag : Byte) (s : State) : Host.Outcome State Fault Refusal :=
  hostStep (.clkread tag) (fun s => (.done, clockBytes s.clock, s)) s

/-- The threshold set, the DEADLINE lamps set anew, and the near warning where it is due (R176). -/
def State.setThreshold (s : State) (seconds : Nat) : State :=
  let t := State.lampsDeadline { s with clock := { s.clock with threshold := clamp 0 3600 seconds } }
  if t.clock.state = .running then t.warnNear else t

/-- WARN's effect (R176). -/
def State.warn (s : State) (seconds : Nat) : Verdict :=
  let t := s.setThreshold seconds
  (.done, u16 t.clock.threshold, t)

/-- WARN (R176). -/
def execWarn (tag : Byte) (seconds : Nat) (s : State) : Host.Outcome State Fault Refusal :=
  hostStep (.warn tag seconds) (fun s => s.warn seconds) s

end Sys2Proof.Machine
end

