-- ==== Sys2Proof/Machine/Desks.lean ====
section
/-! DEFINITION. The meanings of chapter 2: ROUTE, PRIORITY, SPIKE, UNSPIKE, KILL, ARM and BASKET. -/

namespace Sys2Proof.Machine

/-! ### ROUTE (R28 to R30) -/

/-- A ROUTE carried out (R28): to another desk a departure and an arrival; to the story's own desk an arrival. -/
def State.route (s : State) (n desk : Nat) : State :=
  if (s.story n).desk = desk then (s.leaveBasket n).arrive n
  else ((s.depart n).updStory n fun r => { r with desk := desk }).arrive n

/-- What a ROUTE carried out is answered (R28). -/
def routeDetails (n desk : Nat) : List Byte := u16 n ++ u8 desk

/-- Host ROUTE's effect (R28, R29). -/
def State.hostRoute (s : State) (n desk : Nat) : Verdict :=
  if !(storyOk n && deskOk desk) then refuse s .badField
  else
    match (s.story n).stage with
    | .free => refuse s .noSuch
    | .basket =>
      if (s.story n).holder.atLine then refuseHeld s n
      else (.done, routeDetails n desk, (s.releaseChannel n).route n desk)
    | _ => refuse s .stage

/-- Host ROUTE (R29). -/
def execHostRoute (tag : Byte) (n desk : Nat) (s : State) : Host.Outcome State Fault Refusal :=
  hostStep (.hostRoute tag n desk) (fun s => s.hostRoute n desk) s

/-- Terminal ROUTE's effect (R28, R30). -/
def State.lineRoute (s : State) (k n desk : Nat) : Verdict :=
  let r := s.story n
  if !(storyOk n && deskOk desk) then refuse s .badField
  else
    match r.stage with
    | .free => refuse s .noSuch
    | .basket =>
      if r.holder.bars k then refuseHeld s n
      else if r.holder ≠ .line k ∧ (s.line k).onDesk r.desk = false then refuse s .denied
      else (.done, routeDetails n desk, (s.releaseOwn k n).route n desk)
    | _ => refuse s .stage

/-- Terminal ROUTE (R30). -/
def execTerminalRoute (k : Fin 32) (n desk : Nat) (s : State) : Host.Outcome State Fault Refusal :=
  lineStep k (.terminalRoute k n desk) (fun s => s.lineRoute k.val n desk) s

/-! ### PRIORITY (R31, R32) -/

/-- A PRIORITY carried out (R31): in BASKET the story arrives at the tail of its new class in its own basket; elsewhere
only its field changes. -/
def State.reclass (s : State) (n : Nat) (p : Priority) : State :=
  if (s.story n).stage = .basket then
    ((s.leaveBasket n).updStory n fun r => { r with priority := p }).arrive n
  else s.updStory n fun r => { r with priority := p }

/-- Host PRIORITY's effect (R31). -/
def State.hostPriority (s : State) (n priority : Nat) : Verdict :=
  match Priority.ofCode priority with
  | none => refuse s .badField
  | some p =>
    if !storyOk n then refuse s .badField
    else if (s.story n).stage = .free then refuse s .noSuch
    else (.done, [], s.reclass n p)

/-- Host PRIORITY (R31). -/
def execHostPriority (tag : Byte) (n priority : Nat) (s : State) : Host.Outcome State Fault Refusal :=
  hostStep (.hostPriority tag n priority) (fun s => s.hostPriority n priority) s

/-- Terminal PRIORITY's effect on the story the line holds (R32). -/
def State.linePriority (s : State) (k priority : Nat) : Verdict :=
  match Priority.ofCode priority with
  | none => refuse s .badField
  | some p =>
    match (s.line k).held with
    | none => refuse s .state
    | some n => (.done, [], s.reclass n p)

/-- Terminal PRIORITY (R32). -/
def execTerminalPriority (k : Fin 32) (priority : Nat) (s : State) : Host.Outcome State Fault Refusal :=
  lineStep k (.terminalPriority k priority) (fun s => s.linePriority k.val priority) s

/-! ### SPIKE and UNSPIKE (R33 to R35) -/

/-- A SPIKE carried out (R33): the story leaves its basket and enters SPIKED. -/
def State.spike (s : State) (n : Nat) : State := (s.depart n).enterSpiked n

/-- Host SPIKE's effect (R33). -/
def State.hostSpike (s : State) (n : Nat) : Verdict :=
  if !storyOk n then refuse s .badField
  else
    match (s.story n).stage with
    | .free => refuse s .noSuch
    | .basket =>
      if (s.story n).holder.atLine then refuseHeld s n
      else (.done, [], (s.releaseChannel n).spike n)
    | _ => refuse s .stage

/-- Host SPIKE (R33). -/
def execHostSpike (tag : Byte) (n : Nat) (s : State) : Host.Outcome State Fault Refusal :=
  hostStep (.hostSpike tag n) (fun s => s.hostSpike n) s

/-- Terminal SPIKE's effect (R34). -/
def State.lineSpike (s : State) (k n : Nat) : Verdict :=
  let r := s.story n
  if !storyOk n then refuse s .badField
  else if r.stage = .free then refuse s .noSuch
  else if (s.line k).hasRole .reporter then refuse s .denied
  else if r.stage ≠ .basket then refuse s .stage
  else if r.holder.bars k then refuseHeld s n
  else (.done, [], (s.releaseOwn k n).spike n)

/-- Terminal SPIKE (R34). -/
def execTerminalSpike (k : Fin 32) (n : Nat) (s : State) : Host.Outcome State Fault Refusal :=
  lineStep k (.terminalSpike k n) (fun s => s.lineSpike k.val n) s

/-- A story returned from its spike list to its desk's basket, STALE at the tail of the fit queue (R35). -/
def State.returnSpiked (s : State) (n : Nat) : State :=
  (((s.leaveSpikes n).updStory n fun r => { r with stage := .basket }).makeStale n).arrive n

/-- UNSPIKE's effect (R35). -/
def State.unspike (s : State) (n : Nat) : Verdict :=
  if !storyOk n then refuse s .badField
  else
    match (s.story n).stage with
    | .free => refuse s .noSuch
    | .spiked => (.done, [], s.returnSpiked n)
    | _ => refuse s .stage

/-- UNSPIKE (R35). -/
def execUnspike (tag : Byte) (n : Nat) (s : State) : Host.Outcome State Fault Refusal :=
  hostStep (.unspike tag n) (fun s => s.unspike n) s

/-! ### KILL (R36 to R38) -/

/-- The stages from which a KILL makes a move: PLACED, SETTING and SET (R37, R38). -/
def Stage.onPage : Stage → Bool
  | .free => false
  | .basket => false
  | .placed => true
  | .setting => true
  | .set => true
  | .spiked => false

/-- Host KILL's effect (R36, R37). -/
def State.hostKill (s : State) (n : Nat) : Verdict :=
  let r := s.story n
  if !storyOk n then refuse s .badField
  else if r.stage = .free then refuse s .noSuch
  else if !r.stage.onPage then refuse s .stage
  else if r.holder.atLine then refuseHeld s n
  else (.done, [], State.kill s (s.releaseChannel n) n)

/-- Host KILL (R37). -/
def execHostKill (tag : Byte) (n : Nat) (s : State) : Host.Outcome State Fault Refusal :=
  hostStep (.hostKill tag n) (fun s => s.hostKill n) s

/-- Terminal KILL's effect (R36, R38). -/
def State.lineKill (s : State) (k n : Nat) : Verdict :=
  let r := s.story n
  let l := s.line k
  if !storyOk n then refuse s .badField
  else if r.stage = .free then refuse s .noSuch
  else if l.hasRole .reporter then refuse s .denied
  else if !r.stage.onPage then refuse s .stage
  else if r.holder.bars k then refuseHeld s n
  else if s.onFrozenPage n && !(l.hasRole .slot && l.override) then refuse s .denied
  else (.done, [], State.kill s (s.releaseOwn k n) n)

/-- Terminal KILL (R38). -/
def execTerminalKill (k : Fin 32) (n : Nat) (s : State) : Host.Outcome State Fault Refusal :=
  lineStep k (.terminalKill k n) (fun s => s.lineKill k.val n) s

/-! ### ARM and BASKET (R27, R39) -/

/-- ARM's effect (R27): from a SLOT line the override is armed. -/
def State.armOverride (s : State) (k : Nat) : Verdict :=
  if (s.line k).hasRole .slot then (.done, [], s.updLine k fun l => { l with override := true })
  else refuse s .denied

/-- ARM (R27). -/
def execArm (k : Fin 32) (s : State) : Host.Outcome State Fault Refusal :=
  lineStep k (.arm k) (fun s => s.armOverride k.val) s

/-- The list BASKET names: 0 BASKET, 1 SPIKE (11.4). -/
def Desk.named (d : Desk) : Nat → Option (List Nat)
  | 0 => some d.basket
  | 1 => some d.spikes
  | _ => none

/-- BASKET's effect (R39). -/
def State.basketOf (s : State) (desk list p : Nat) : Verdict :=
  match (s.desk desk).named list with
  | none => refuse s .badField
  | some stories =>
    if !deskOk desk || decide (stories.length < p) then refuse s .badField
    else
      let out := (stories.drop p).take Config.basketEntries
      (.done,
        u8 desk ++ u8 list ++ u16 stories.length ++ u16 (s.desk desk).urgent ++ u16 p ++ u8 out.length
          ++ out.flatMap fun n => basketEntryBytes n (s.story n),
        s)

/-- BASKET (R39). -/
def execBasket (tag : Byte) (desk list p : Nat) (s : State) : Host.Outcome State Fault Refusal :=
  hostStep (.basket tag desk list p) (fun s => s.basketOf desk list p) s

end Sys2Proof.Machine
end

