-- ==== Sys2Proof/Machine/Directory.lean ====
section
/-! DEFINITION. The meanings of chapter 1: CREATE, NEW, TEXT in its three forms, READ, INFO and PURGE. -/

namespace Sys2Proof.Machine

/-- The lowest-numbered FREE record (R9, R11). -/
def State.lowestFree (s : State) : Option Nat := storyIds.find? fun n => (s.story n).stage == .free

/-- Record `n` made a story in BASKET, STALE at the tail of the fit queue (R9). -/
def State.makeStory (s : State) (n : Nat) (slug : List Byte) (desk style : Nat) (priority : Priority) : State :=
  (s.setStory n { Story.freed with
    slug := slug, desk := desk, priority := priority, stage := .basket, style := style, fit := .stale }).setFitQueue
    (s.fit.queue ++ [n])

/-- CREATE's effect (R9, R11). -/
def State.create (s : State) (slug : List Byte) (desk style priority : Nat) : Verdict :=
  match Priority.ofCode priority with
  | none => refuse s .badField
  | some p =>
    if slugOk slug && deskOk desk && decide (style < Config.styles) then
      match s.lowestFree with
      | none => refuse s .full
      | some n => (.done, u16 n, (s.makeStory n slug desk style p).arrive n)
    else refuse s .badField

/-- CREATE (R9). -/
def execCreate (tag : Byte) (slug : List Byte) (desk style priority : Nat) (s : State) :
    Host.Outcome State Fault Refusal :=
  hostStep (.create tag slug desk style priority) (fun s => s.create slug desk style priority) s

/-- NEW's effect (R10): the story is made in the line's own desk, the line takes its hold in the same step, and the window
of the new story is sent from copy line 0. -/
def State.newStory (s : State) (k : Nat) (slug : List Byte) (style priority : Nat) : Verdict :=
  match Priority.ofCode priority with
  | none => refuse s .badField
  | some p =>
    if slugOk slug && decide (style < Config.styles) then
      match (s.line k).user with
      | none => refuse s .denied
      | some u =>
        if (s.line k).held.isSome then refuse s .state
        else
          match s.lowestFree with
          | none => refuse s .full
          | some n =>
            (.done, u16 n, (((s.makeStory n slug u.desk style p).takeHold k n).arrive n).putWindow k n 0)
    else refuse s .badField

/-- NEW (R10). -/
def execNew (k : Fin 32) (slug : List Byte) (style priority : Nat) (s : State) : Host.Outcome State Fault Refusal :=
  lineStep k (.new k slug style priority) (fun s => s.newStory k.val slug style priority) s

/-! ### TEXT (R12 to R14) -/

/-- The first four checks of TEXT (R12). -/
def State.textCheck (s : State) (n : Nat) (style : Option Nat) (new : List CopyLine) : Option Verdict :=
  if !(storyOk n && optWithin 0 31 style && new.all lineOk) then some (refuse s .badField)
  else
    match (s.story n).stage with
    | .free => some (refuse s .noSuch)
    | stage =>
      if (s.story n).holder.atLine then some (refuseHeld s n)
      else if stage = .spiked then some (refuse s .stage)
      else if s.onFrozenPage n then some (refuse s .frozen)
      else none

/-- TEXT's last check and its effect (R6, R12): the story's lines become `text`. -/
def State.textWrite (s : State) (n : Nat) (style : Option Nat) (text : List CopyLine) : Verdict :=
  match s.textRefusal n text with
  | some e => refuse s e
  | none =>
    let t := s.changeText n text style
    let r := t.story n
    (.done, u16 r.editCount ++ u16 r.text.length ++ u8 r.chain.length, t)

/-- TEXT APPEND's effect (R13). -/
def State.textAppend (s : State) (n : Nat) (style : Option Nat) (new : List CopyLine) : Verdict :=
  match s.textCheck n style new with
  | some v => v
  | none => s.textWrite n style ((s.story n).text ++ new)

/-- TEXT APPEND (R12, R13). -/
def execTextAppend (tag : Byte) (n : Nat) (style : Option Nat) (new : List CopyLine) (s : State) :
    Host.Outcome State Fault Refusal :=
  hostStep (.textAppend tag n style new) (fun s => s.textAppend n style new) s

/-- TEXT REPLACE's effect (R14). -/
def State.textReplace (s : State) (n : Nat) (style : Option Nat) (new : List CopyLine) : Verdict :=
  match s.textCheck n style new with
  | some v => v
  | none => s.textWrite n style new

/-- TEXT REPLACE (R12, R14). -/
def execTextReplace (tag : Byte) (n : Nat) (style : Option Nat) (new : List CopyLine) (s : State) :
    Host.Outcome State Fault Refusal :=
  hostStep (.textReplace tag n style new) (fun s => s.textReplace n style new) s

/-- Lines `f` to `f+k-1` taken away and new lines put in their place (R14, R88). -/
def replaceRange (text : List CopyLine) (f k : Nat) (new : List CopyLine) : List CopyLine :=
  text.take f ++ new ++ text.drop (f + k)

/-- TEXT REPLACE RANGE's effect (R14): its own check is that f+k does not exceed the line count. -/
def State.textReplaceRange (s : State) (n : Nat) (style : Option Nat) (f k : Nat) (new : List CopyLine) : Verdict :=
  match s.textCheck n style new with
  | some v => v
  | none =>
    if (s.story n).text.length < f + k then refuse s .badField
    else s.textWrite n style (replaceRange (s.story n).text f k new)

/-- TEXT REPLACE RANGE (R12, R14). -/
def execTextReplaceRange (tag : Byte) (n : Nat) (style : Option Nat) (f k : Nat) (new : List CopyLine) (s : State) :
    Host.Outcome State Fault Refusal :=
  hostStep (.textReplaceRange tag n style f k new) (fun s => s.textReplaceRange n style f k new) s

/-! ### READ, INFO and PURGE -/

/-- The longest run of whole lines whose stored length is at most `room` (R15). -/
def linesWithin : (room : Nat) → List CopyLine → List CopyLine
  | _, [] => []
  | room, l :: ls => if l.length + 1 ≤ room then l :: linesWithin (room - (l.length + 1)) ls else []

/-- READ's effect (R15). The number of lines returned is the two-byte count of the lines that follow it; no second count stands
before them (the model's reading, assumptions 15, 31). -/
def State.readLines (s : State) (n f : Nat) : Verdict :=
  let r := s.story n
  if !storyOk n then refuse s .badField
  else if r.stage = .free then refuse s .noSuch
  else if r.text.length < f then refuse s .badField
  else
    let out := linesWithin Config.readChars (r.text.drop f)
    (.done, u16 n ++ u16 r.editCount ++ u16 r.text.length ++ u16 f ++ u16 out.length ++ linesField out, s)

/-- READ (R15). -/
def execRead (tag : Byte) (n f : Nat) (s : State) : Host.Outcome State Fault Refusal :=
  hostStep (.read tag n f) (fun s => s.readLines n f) s

/-- INFO's effect (R16). -/
def State.infoOf (s : State) (n : Nat) : Verdict :=
  if !storyOk n then refuse s .badField
  else if (s.story n).stage = .free then refuse s .noSuch
  else (.done, infoBytes n (s.story n), s)

/-- INFO (R16). -/
def execInfo (tag : Byte) (n : Nat) (s : State) : Host.Outcome State Fault Refusal :=
  hostStep (.info tag n) (fun s => s.infoOf n) s

/-- A SPIKED or SET story freed (R17): off its spike list, or off its page with the page judged afresh; its chain returned,
which may clear the store-low latch; and its record at the FREE values. -/
def State.freeStory (s : State) (n : Nat) : State :=
  let r := s.story n
  let t := match r.run with
    | some run => s.emptySlots run.page n
    | none => s.leaveSpikes n
  let t : State := State.setStory { t with store := t.store.giveBack r.chain } n Story.freed
  let t := t.storeRelief
  match r.run with
  | some run => State.noticeFit s run.page (t.judge run.page)
  | none => t

/-- PURGE's effect (R17). -/
def State.purge (s : State) (n : Nat) : Verdict :=
  let r := s.story n
  if !storyOk n then refuse s .badField
  else
    match r.stage with
    | .free => refuse s .noSuch
    | .spiked => (.done, u8 r.chain.length, s.freeStory n)
    | .set => (.done, u8 r.chain.length, s.freeStory n)
    | _ => refuse s .stage

/-- PURGE (R17). -/
def execPurge (tag : Byte) (n : Nat) (s : State) : Host.Outcome State Fault Refusal :=
  hostStep (.purge tag n) (fun s => s.purge n) s

end Sys2Proof.Machine
end

