-- ==== Sys2Proof/Machine/Holds.lean ====
section
/-! DEFINITION. The meanings of chapter 3: OPEN, CLOSE, FREE and HOLDTIME, and the expiry of an orphan. -/

namespace Sys2Proof.Machine

/-! ### OPEN (R45, R46) -/

/-- What an OPEN carried out is answered: story number, edit count, line count (R45, R46). -/
def openDetails (s : State) (n : Nat) : List Byte :=
  u16 n ++ u16 (s.story n).editCount ++ u16 (s.story n).text.length

/-- A terminal OPEN carried out (R45): an unheld story is held by the line; either way the window from copy line 0 is
sent. -/
def State.openAtLine (s : State) (k n : Nat) : State :=
  (if (s.story n).holder = .absent then s.takeHold k n else s).putWindow k n 0

/-- Terminal OPEN's effect (R45). -/
def State.lineOpen (s : State) (k n : Nat) : Verdict :=
  let r := s.story n
  let l := s.line k
  if !storyOk n then refuse s .badField
  else if r.stage = .free then refuse s .noSuch
  else if l.held.isSome && l.held != some n then refuse s .state
  else if r.stage = .spiked then refuse s .stage
  else if s.onFrozenPage n then refuse s .frozen
  else if l.hasRole .reporter && !l.onDesk r.desk then refuse s .denied
  else if r.holder.bars k then refuseHeld s n
  else (.done, openDetails s n, s.openAtLine k n)

/-- Terminal OPEN (R45). -/
def execTerminalOpen (k : Fin 32) (n : Nat) (s : State) : Host.Outcome State Fault Refusal :=
  lineStep k (.terminalOpen k n) (fun s => s.lineOpen k.val n) s

/-- Host OPEN's effect (R46). -/
def State.hostOpen (s : State) (n : Nat) : Verdict :=
  let r := s.story n
  if !storyOk n then refuse s .badField
  else if r.stage = .free then refuse s .noSuch
  else if r.stage = .spiked then refuse s .stage
  else if s.onFrozenPage n then refuse s .frozen
  else if r.holder.atLine then refuseHeld s n
  else (.done, openDetails s n, s.updStory n fun r => { r with holder := .channel })

/-- Host OPEN (R46). -/
def execHostOpen (tag : Byte) (n : Nat) (s : State) : Host.Outcome State Fault Refusal :=
  hostStep (.hostOpen tag n) (fun s => s.hostOpen n) s

/-! ### CLOSE (R47, R48) -/

/-- Terminal CLOSE's effect (R47). -/
def State.lineClose (s : State) (k : Nat) : Verdict :=
  match (s.line k).held with
  | none => refuse s .state
  | some n => (.done, u16 n, (s.releaseHold n).putOwnHome k)

/-- Terminal CLOSE (R47). -/
def execTerminalClose (k : Fin 32) (s : State) : Host.Outcome State Fault Refusal :=
  lineStep k (.terminalClose k) (fun s => s.lineClose k.val) s

/-- Host CLOSE's effect (R48). -/
def State.hostClose (s : State) (n : Nat) : Verdict :=
  if !storyOk n then refuse s .badField
  else if (s.story n).stage = .free then refuse s .noSuch
  else if (s.story n).holder = .channel then (.done, [], s.releaseHold n)
  else refuse s .state

/-- Host CLOSE (R48). -/
def execHostClose (tag : Byte) (n : Nat) (s : State) : Host.Outcome State Fault Refusal :=
  hostStep (.hostClose tag n) (fun s => s.hostClose n) s

/-! ### FREE and HOLDTIME (R51, R57) -/

/-- Whatever hold story `n` has, withdrawn by the host (R51): a live hold's line is told of it in a status line, which
keeps the withdrawn story (R93). -/
def State.withdraw (s : State) (n : Nat) : State :=
  let t := s.releaseHold n
  match (s.story n).holder with
  | .line k => (t.updLine k fun l => { l with withdrawn := some n }).refreshLine k
  | _ => t

/-- FREE's effect (R51). -/
def State.freeHold (s : State) (n : Nat) : Verdict :=
  if !storyOk n then refuse s .badField
  else if (s.story n).stage = .free then refuse s .noSuch
  else if (s.story n).holder = .absent then refuse s .state
  else (.done, holderBytes (s.story n).holder, s.withdraw n)

/-- FREE (R51). -/
def execFree (tag : Byte) (n : Nat) (s : State) : Host.Outcome State Fault Refusal :=
  hostStep (.free tag n) (fun s => s.freeHold n) s

/-- HOLDTIME's effect (R57). -/
def State.holdtime (s : State) (seconds : Nat) : Verdict :=
  let w := clamp 10 600 seconds
  (.done, u16 w, { s with orphanWindow := w })

/-- HOLDTIME (R57). -/
def execHoldtime (tag : Byte) (seconds : Nat) (s : State) : Host.Outcome State Fault Refusal :=
  hostStep (.holdtime tag seconds) (fun s => s.holdtime seconds) s

/-! ### The expiry of an orphan (R54) -/

/-- ORPHAN_EXPIRY (R54): the orphan timer of story `n` falls to 0. A timer with more than a second left does not expire
(assumption 10). -/
def execOrphanExpiry (n : Nat) (s : State) : Host.Outcome State Fault Refusal :=
  .next <|
    match (s.story n).holder with
    | .orphan k user t => if t ≤ 1 then s.orphanExpires n user k else s
    | _ => s

end Sys2Proof.Machine
end

