-- ==== Sys2Proof/Machine/HostChannel.lean ====
section
/-! DEFINITION. The meanings of chapter 10 and of the two resets: the host channel's receiver, intake and transmitter,
SWEEP, IDENT, RESTART, its taking effect, and power reset. -/

namespace Sys2Proof.Machine

/-! ### Power reset (R18, R40, R59, R83, R101, R125, R144, R166, R167, R189) -/

/-- POWER_RESET: every record at its power-reset value. The carrier-detect and ready-lead inputs keep the levels the world
outside gives them (R60, R151), the commands that wait still wait, and the model's count of free choices goes on (assumption
7). -/
def execPowerReset (s : State) : Host.Outcome State Fault Refusal :=
  .next { State.reset with
    lines := s.lines.map fun l => { Line.reset with carrier := l.carrier }
    output := { State.reset.output with
      portA := { SetterPort.reset with lead := s.output.portA.lead }
      portB := { SetterPort.reset with lead := s.output.portB.lead } }
    choices := s.choices
    pending := s.pending }

/-! ### The receiver (R178 to R181, R190) -/

/-- A frame begun by its start flag. -/
def HostRx.begun : HostRx := { bytes := [], escape := false }

/-- The frame in progress discarded and the link error latch set; `rx` is what the receiver goes on with (R179). -/
def Channel.linkFault (c : Channel) (rx : Option HostRx) : Channel := { c with linkError := true, rx := rx }

/-- HOST_FRAME_DISCARDED (R179, R190): a stray start flag begins a new frame. -/
def execHostFrameDiscarded (fault : HostFrameFault) (s : State) : Host.Outcome State Fault Refusal :=
  .next { s with channel := s.channel.linkFault (if fault = .strayStart then some .begun else none) }

/-- A frame in progress that its length field condemns: the length exceeds 4,096, or more bytes have come than the length
gives (R179). -/
def frameTooLong (bs : List Byte) : Bool :=
  match read16 (bs.drop 10) with
  | some (n, _) => decide (Config.hostBody < n) || decide (n + 14 < bs.length)
  | none => false

/-- A restored byte joins the frame in progress. -/
def Channel.collect (c : Channel) (bs : List Byte) : Channel :=
  if frameTooLong bs then c.linkFault none else { c with rx := some { bytes := bs, escape := false } }

/-- A frame ended by its end flag: a valid request goes to the intake, or is discarded while a RESTART stands; any other
frame is discarded (R178 to R181, R188). -/
def Channel.endFrame (c : Channel) (bs : List Byte) : Channel :=
  match hostFrameRequest bs with
  | some (tag, kind, body) =>
    let c : Channel := { c with rx := none }
    if c.restarting then c else c.enqueue (hostRequest tag kind body)
  | none => c.linkFault none

/-- One byte at the receiver (R178, R179, R190): between frames only a start flag counts; within a frame an escaped pair is
restored to its byte. -/
def Channel.receive (c : Channel) (b : Byte) : Channel :=
  match c.rx with
  | none => if b = 123 then { c with rx := some .begun } else c
  | some r =>
    if r.escape then
      if b = 91 ∨ b = 92 ∨ b = 93 then c.collect (r.bytes ++ [b + 32])
      else c.linkFault (if b = 123 then some .begun else none)
    else if b = 123 then c.linkFault (some .begun)
    else if b = 124 then c.endFrame r.bytes
    else if b = 125 then { c with rx := some { r with escape := true } }
    else c.collect (r.bytes ++ [b])

/-- REQUEST_ARRIVAL (R178, R180, R181): bytes arrive at the receiver, and each valid request they complete joins the intake,
is answered BUSY, or is discarded. -/
def execRequestArrival (bytes : List Byte) (s : State) : Host.Outcome State Fault Refusal :=
  .next { s with channel := bytes.foldl Channel.receive s.channel }

/-- UNKNOWN_REQUEST (R178): answered BAD FIELD by the channel interface. -/
def execUnknownRequest (tag : Byte) (kind : List Byte) (s : State) : Host.Outcome State Fault Refusal :=
  hostStep (.unknownRequest tag kind) (fun s => refuse s .badField) s

/-! ### The transmitter (R183, R184, R188) -/

/-- The sending of the reply at the head of the reply path begins (R180 to R183): its request leaves the intake, or its
BUSY leaves the count. -/
def Channel.sendReply (c : Channel) (r : Reply) (rest : List Reply) : Channel :=
  { c with
    replies := rest
    intake := if r.overflow then c.intake else c.intake.drop 1
    tx := some (replyFrame r) }

/-- HOST_FRAME_SENT (R183): a reply goes before any notice, and no notice is sent while a RESTART stands (R188). -/
def execHostFrameSent (s : State) : Host.Outcome State Fault Refusal :=
  .next <|
    match s.channel.replies, s.channel.notices with
    | r :: rest, _ => { s with channel := s.channel.sendReply r rest }
    | [], n :: ns =>
      if s.channel.restarting then { s with channel := { s.channel with tx := none } }
      else
        { s with
          channel := { s.channel with notices := ns, tx := some (noticeFrame (Config.filler s.choices) n) }
          choices := s.choices + 1 }
    | [], [] => { s with channel := { s.channel with tx := none } }

/-! ### SWEEP and IDENT (R186, R187) -/

/-- SWEEP's effect (R186): the summary, then the link error latch and the notices-lost flag cleared. -/
def State.sweep (s : State) : Verdict :=
  (.done, sweepBytes s, { s with channel := { s.channel with linkError := false, noticesLost := false } })

/-- SWEEP (R186). -/
def execSweep (tag : Byte) (s : State) : Host.Outcome State Fault Refusal := hostStep (.sweep tag) State.sweep s

/-- IDENT (R187). -/
def execIdent (tag : Byte) (s : State) : Host.Outcome State Fault Refusal :=
  hostStep (.ident tag) (fun s => (.done, identBytes, s)) s

/-! ### RESTART (R188) -/

/-- A BUSY reply to a request a RESTART overtakes; it does not count toward the 4 of R181 (R188). -/
def overtaken (r : Request) : Reply :=
  { tag := r.cmd.tag, kind := r.cmd.kind, status := .busy, details := [], overflow := false }

/-- A RESTART taken and answered DONE, and every request behind it answered BUSY in order of arrival (R188). -/
def Channel.beginRestart (c : Channel) (i : Instr) : Channel :=
  let c := c.answer i .done []
  { c with
    replies := c.replies ++ (c.intake.filter fun r => !r.answered).map overtaken
    intake := c.intake.map fun r => { r with answered := true }
    restarting := true }

/-- RESTART (R188). -/
def execRestart (tag : Byte) (s : State) : Host.Outcome State Fault Refusal :=
  .next <|
    let t := s.offer (.restart tag)
    if s.takes (.restart tag) then { t with channel := t.channel.beginRestart (.restart tag) } else t

/-- Every hold released (R59). -/
def State.restartHolds (s : State) : State :=
  { s with stories := s.stories.map fun r => { r with holder := .absent } }

/-- Every line to DISABLED, and the flash list emptied (R84, R101). -/
def State.restartLines (s : State) : State :=
  { s with lines := s.lines.map Line.disable, flashes := { s.flashes with list := [] } }

/-- A computation in flight abandoned: its story, if COMPUTING, is STALE at the tail of the fit queue (R125). -/
def State.restartFit (s : State) : State :=
  match s.fit.inFlight with
  | none => s
  | some c =>
    let t : State := { s with fit := { s.fit with inFlight := none } }
    if c.discard then t
    else
      (t.updStory c.story fun r => { r with fit := .stale, changed := false }).setFitQueue (t.fit.queue ++ [c.story])

/-- A page at RESTART (R144, R166): from RELEASING, QUEUED and SETTING it returns to MAKEUP, a job of it ended with outcome
CANCELLED. -/
def State.restartPage (s : State) (g : Nat) : State :=
  match (s.page g).state with
  | .releasing => s.returnPage g
  | .queued => (s.endRecord g .cancelled).returnPage g
  | .setting => (s.endRecord g .cancelled).returnPage g
  | _ => s

/-- A port at RESTART (R166): a job it held is ended with its FIFO flushed and the abort code pending. -/
def SetterPort.restart (v : SetterPort) : SetterPort :=
  { v with
    state := .offline, job := none, fifo := [], abort := v.abort || v.job.isSome, lossTimer := none,
    lossLatch := false }

/-- The output path at RESTART (R166). -/
def Output.restart (o : Output) : Output :=
  { o with queue := [], portA := o.portA.restart, portB := o.portB.restart }

/-- The channel interface's own records when RESTART takes effect (R189). -/
def Channel.restart (c : Channel) : Channel := { Channel.reset with rx := c.rx }

/-- Every block takes its restart condition (R19, R41, R59, R84, R101, R125, R144, R166, R167, R189). The engine's taking of
the queue's head (R125) is the event FIT_TAKE. -/
def State.restart (s : State) : State :=
  let t := pageIds.foldl State.restartPage s.restartHolds.restartLines.restartFit
  { t with output := t.output.restart, channel := t.channel.restart }

/-- RESTART_TAKES_EFFECT (R188): a RESTART has been taken, and every reply has been sent to its end flag. -/
def execRestartTakesEffect (s : State) : Host.Outcome State Fault Refusal :=
  .next (if s.channel.restarting ∧ s.channel.replies = [] ∧ s.channel.tx = none then s.restart else s)

end Sys2Proof.Machine
end

