-- ==== Sys2Proof/Machine/Lines.lean ====
section
/-! DEFINITION. The meanings of chapter 4: the lines' configuration, carrier, frames, sign-on, dimming and output slots. -/

namespace Sys2Proof.Machine

/-! ### Configuration (R62) -/

/-- An optional flag as a request carries it: absent, or 0 for on and 1 for off (R62). -/
def flagField : Option Nat → Option (Option Bool)
  | none => some none
  | some c => (firstOfTwo c).map some

/-- A line with the configuration fields a LINESET carries; a new dim time on a READY line sets the dim timer (R62). -/
def Line.configure (l : Line) (speed model dimTime : Option Nat) (wakeFlash wakeUrgent : Option Bool) : Line :=
  let m : Line := { l with
    speed := speed.getD l.speed
    model := model.getD l.model
    dimTime := (dimTime.map clampDim).getD l.dimTime
    wakeFlash := wakeFlash.getD l.wakeFlash
    wakeUrgent := wakeUrgent.getD l.wakeUrgent }
  if l.state = .ready ∧ dimTime.isSome then m.armDim else m

/-- LINESET's effect (R62). -/
def State.lineset (s : State) (k : Nat) (speed model dimTime wakeFlash wakeUrgent : Option Nat) : Verdict :=
  match flagField wakeFlash, flagField wakeUrgent with
  | some wf, some wu =>
    if !(lineNumberOk k && speed.all speedOk && optWithin 0 1 model) then refuse s .badField
    else if (speed.isSome || model.isSome) && (s.line k).state != .disabled then refuse s .state
    else
      let t := s.updLine k fun l => l.configure speed model dimTime wf wu
      (.done, configBytes (t.line k), t)
  | _, _ => refuse s .badField

/-- LINESET (R62). -/
def execLineset (tag : Byte) (k : Nat) (speed model dimTime wakeFlash wakeUrgent : Option Nat) (s : State) :
    Host.Outcome State Fault Refusal :=
  hostStep (.lineset tag k speed model dimTime wakeFlash wakeUrgent)
    (fun s => s.lineset k speed model dimTime wakeFlash wakeUrgent) s

/-! ### LINEON, LINEOFF and carrier (R63 to R67) -/

/-- A DISABLED line enabled (R63): with carrier to IDLE and a BLANK frame, without it to LOST and the LINE notice. -/
def State.enable (s : State) (k : Nat) : State :=
  if (s.line k).carrier then
    (s.updLine k fun l => { l with state := .idle, display := some .blank }).lampAnew k
  else
    ((s.updLine k fun l => { l with state := .lost }).lampAnew k).raise (.line k .lost 0)

/-- LINEON's effect (R63). -/
def State.lineon (s : State) (k : Nat) : Verdict :=
  if !lineNumberOk k then refuse s .badField
  else if (s.line k).state = .disabled then
    let t := s.enable k
    (.done, u8 (t.line k).state.code, t)
  else refuse s .state

/-- LINEON (R63). -/
def execLineon (tag : Byte) (k : Nat) (s : State) : Host.Outcome State Fault Refusal :=
  hostStep (.lineon tag k) (fun s => s.lineon k) s

/-- The hold of line `k`, live or orphaned, released (R52). -/
def State.releaseHeld (s : State) (k : Nat) : State :=
  match (s.line k).held with
  | some n => s.releaseHold n
  | none => s

/-- An enabled line disabled (R52, R64, R67). -/
def State.shutLine (s : State) (k : Nat) : State :=
  let t := ((s.releaseHeld k).updLine k Line.disable).unseeLine k
  if (s.line k).state = .lost then t.raise (.line k .disabled 0) else t

/-- LINEOFF's effect (R64). -/
def State.lineoff (s : State) (k : Nat) : Verdict :=
  if !lineNumberOk k then refuse s .badField
  else if (s.line k).state = .disabled then (.done, [], s)
  else (.done, [], s.shutLine k)

/-- LINEOFF (R64). -/
def execLineoff (tag : Byte) (k : Nat) (s : State) : Host.Outcome State Fault Refusal :=
  hostStep (.lineoff tag k) (fun s => s.lineoff k) s

/-- LINESTAT's effect (R70): the line as it stands, then its five latches cleared. -/
def State.linestat (s : State) (k : Nat) : Verdict :=
  if !lineNumberOk k then refuse s .badField
  else
    let t := s.updLine k fun l => { l with latches := .clear }
    (.done, lineBytes s (s.line k), if (s.line k).latches.any then t.lampIf k .error else t)

/-- LINESTAT (R70). -/
def execLinestat (tag : Byte) (k : Nat) (s : State) : Host.Outcome State Fault Refusal :=
  hostStep (.linestat tag k) (fun s => s.linestat k) s

/-- The hold of a READY line becomes an orphan of its user, its timer at the orphan window (R53). -/
def State.orphanHeld (s : State) (k : Nat) : State :=
  let l := s.line k
  if l.state = .ready then
    match l.held, l.user with
    | some n, some u => s.updStory n fun r => { r with holder := .orphan k u.user s.orphanWindow }
    | _, _ => s
  else s

/-- A line's loss of carrier (R53, R65, R67). -/
def State.loseCarrier (s : State) (k : Nat) : State :=
  let t := (s.orphanHeld k).updLine k fun l => { l.cut with state := .lost, carrier := false }
  ((t.unseeLine k).lampAnew k).raise (.line k .lost ((s.line k).held.getD 0))

/-- CARRIER_DROP (R65): on a DISABLED or LOST line only the input falls. -/
def execCarrierDrop (k : Fin 32) (s : State) : Host.Outcome State Fault Refusal :=
  .next <|
    if (s.line k.val).state.receiving then s.loseCarrier k.val
    else s.updLine k.val fun l => { l with carrier := false }

/-- A LOST line's return of carrier (R66, R67). -/
def State.regainCarrier (s : State) (k : Nat) : State :=
  ((s.updLine k fun l => { l with state := .idle, carrier := true, display := some .blank }).lampAnew k).raise
    (.line k .idle 0)

/-- CARRIER_RETURN (R66): in every state but LOST only the input rises. -/
def execCarrierReturn (k : Fin 32) (s : State) : Host.Outcome State Fault Refusal :=
  .next <|
    if (s.line k.val).state = .lost then s.regainCarrier k.val
    else s.updLine k.val fun l => { l with carrier := true }

/-! ### Frames (R68, R69, R71, R82) -/

/-- TERMINAL_FRAME_RECEIVED (R68, R69, R71, R191): characters arrive at the line's receiver, and a frame they complete is
judged and served as it completes. -/
def execTerminalFrameReceived (k : Fin 32) (chars : List Byte) (s : State) : Host.Outcome State Fault Refusal :=
  .next (chars.foldl (State.receiveChar k) s)

/-- TERMINAL_FRAME_DISCARDED (R69). -/
def execTerminalFrameDiscarded (k : Fin 32) (fault : LineFault) (s : State) : Host.Outcome State Fault Refusal :=
  .next (if (s.line k.val).state.receiving then s.gateFault k.val fault else s)

/-- The transmitter of a line takes the frame from the first non-empty slot, in the order answer, display, status, or is
free (R82). A service answer that begins to be sent ends its request's service (R72). -/
def Line.transmit (l : Line) : Line :=
  match l.answer with
  | some a =>
    { l with tx := some (answerFrame a), answer := none, service := if a.service then none else l.service }
  | none =>
    match l.display with
    | some d => { l with tx := some (displayFrame d), display := none }
    | none =>
      match l.status with
      | some t => { l with tx := some (statusFrame t), status := none }
      | none => { l with tx := none }

/-- LINE_FRAME_SENT (R82): a DISABLED or LOST line sends nothing. -/
def execLineFrameSent (k : Fin 32) (s : State) : Host.Outcome State Fault Refusal :=
  .next (if (s.line k.val).state.receiving then s.updLine k.val Line.transmit else s)

/-! ### Signing on (R74 to R78) -/

/-- The line goes to SIGNING with its timer at 30, its request taken and unanswered, and the SIGNON notice is raised
(R74, R75). -/
def State.beginSignon (s : State) (k user : Nat) : State :=
  (s.updLine k fun l =>
    { l with
      state := .signing
      signonUser := some user
      outcome := .pending
      signonTimer := some Config.signonWait
      service := l.service.map fun v => { v with stage := .taken } }).raise (.signon k user)

/-- SIGNON (R74): a user number outside 1 to 9,999 is answered BAD FIELD; otherwise the request stays in service with no
answer yet. -/
def execSignon (k : Fin 32) (user : Nat) (s : State) : Host.Outcome State Fault Refusal :=
  .next <|
    let t := s.offerFrame k.val (.signon k user)
    if s.takesFrame k.val (.signon k user) then
      if within 1 9999 user then t.beginSignon k.val user
      else t.answerService k.val (kindWord "SIGNON") .badField []
    else t

/-- A VERDICT for a line not in SIGNING (R77): TOO LATE when its last sign-on timed out or was abandoned, else STATE. -/
def State.lateVerdict (s : State) (k : Nat) : Verdict :=
  match (s.line k).outcome with
  | .timedOut => refuse s .tooLate
  | .abandoned => refuse s .tooLate
  | _ => refuse s .state

/-- The orphan of another user that line `k` stands for released (R56, step 2 of R76). -/
def State.releaseStranger (s : State) (k user : Nat) : State :=
  match s.strangersOrphan k user with
  | some n => s.releaseHold n
  | none => s

/-- The orphan of the granted user resumed at line `k`, if there is one (R55, step 3 of R76). -/
def State.resumeFor (s : State) (k user : Nat) : State :=
  match s.resumable k user with
  | some (m, n) => s.resumeOrphan k m n
  | none => s

/-- The line joins the unseen set of each flash entry whose mask includes desk `d` (step 5 of R76). -/
def State.joinFlashes (s : State) (k d : Nat) : State :=
  { s with flashes := { s.flashes with
      list := s.flashes.list.map fun e =>
        if maskHas e.mask d then { e with unseen := insertLine k e.unseen } else e } }

/-- The details of a grant's answer: desk and role, and the resumed story with its edit count, or story 0 (step 6 of
R76). -/
def grantDetails (s : State) (desk : Nat) (role : Role) : Option Nat → List Byte
  | some n => u8 desk ++ u8 role.code ++ u16 n ++ u16 (s.story n).editCount
  | none => u8 desk ++ u8 role.code ++ u16 0

/-- A GRANT carried out on a SIGNING line whose sign-on user is `user`, step by step as R76 orders it. -/
def State.grant (s : State) (k user desk : Nat) (role : Role) : State :=
  let t := s.updLine k fun l => { l with signonTimer := none, outcome := .granted }
  let t := t.releaseStranger k user
  let resumed := (t.resumable k user).map Prod.snd
  let t := t.resumeFor k user
  let t := t.updLine k fun l => { l with state := .ready, user := some { user := user, desk := desk, role := role } }
  let t := t.joinFlashes k desk
  let t := t.answerService k (kindWord "SIGNON") .done (grantDetails t desk role resumed)
  let t := (t.putHome k desk 0).refreshLine k
  (t.updLine k Line.armDim).lampAnew k

/-- The stories a GRANT releases and resumes, each 0 when there is none (R76). -/
def State.grantReply (s : State) (k user : Nat) : List Byte :=
  let t := s.releaseStranger k user
  u16 ((s.strangersOrphan k user).getD 0) ++ u16 (((t.resumable k user).map Prod.snd).getD 0)

/-- VERDICT GRANT's effect (R76, R77). -/
def State.verdictGrant (s : State) (k desk role : Nat) : Verdict :=
  match Role.ofCode role with
  | none => refuse s .badField
  | some r =>
    if !(lineNumberOk k && deskOk desk) then refuse s .badField
    else if (s.line k).state = .signing then
      let user := (s.line k).signonUser.getD 0
      (.done, s.grantReply k user, s.grant k user desk r)
    else s.lateVerdict k

/-- VERDICT GRANT (R76). -/
def execVerdictGrant (tag : Byte) (k desk role : Nat) (s : State) : Host.Outcome State Fault Refusal :=
  hostStep (.verdictGrant tag k desk role) (fun s => s.verdictGrant k desk role) s

/-- A DENY carried out on a SIGNING line (R77). -/
def State.deny (s : State) (k : Nat) : State :=
  (s.updLine k fun l => { l with state := .idle, outcome := .denied, signonTimer := none }).answerService
    k (kindWord "SIGNON") .denied []

/-- VERDICT DENY's effect (R77). -/
def State.verdictDeny (s : State) (k : Nat) : Verdict :=
  if !lineNumberOk k then refuse s .badField
  else if (s.line k).state = .signing then (.done, [], s.deny k)
  else s.lateVerdict k

/-- VERDICT DENY (R77). -/
def execVerdictDeny (tag : Byte) (k : Nat) (s : State) : Host.Outcome State Fault Refusal :=
  hostStep (.verdictDeny tag k) (fun s => s.verdictDeny k) s

/-- SIGNON_TIMEOUT (R78): the sign-on timer of a SIGNING line falls to 0. A timer with more than a second left does not
expire (assumption 10). -/
def execSignonTimeout (k : Fin 32) (s : State) : Host.Outcome State Fault Refusal :=
  .next <|
    match (s.line k.val).state, (s.line k.val).signonTimer with
    | .signing, some t => if t ≤ 1 then s.signonExpires k.val else s
    | _, _ => s

/-- SIGNOFF's effect (R79). -/
def State.signoff (s : State) (k : Nat) : Verdict :=
  let t := (s.releaseHeld k).updLine k fun l =>
    { l with
      state := .idle, user := none, override := false, window := none, dimTimer := none, withdrawn := none,
      display := some .blank, status := none }
  (.done, [], (t.unseeLine k).lampAnew k)

/-- SIGNOFF (R79). -/
def execSignoff (k : Fin 32) (s : State) : Host.Outcome State Fault Refusal :=
  lineStep k (.signoff k) (fun s => s.signoff k.val) s

/-- DIM (R80): the dim timer of a READY line, while it runs, falls to 0. A timer with more than a second left, or one that
does not run, does not expire (assumption 10). -/
def execDim (k : Fin 32) (s : State) : Host.Outcome State Fault Refusal :=
  .next <|
    match (s.line k.val).dimRuns, (s.line k.val).dimTimer with
    | true, some t => if t ≤ 1 then s.goDim k.val else s
    | _, _ => s

end Sys2Proof.Machine
end

