-- ==== Sys2Proof/Machine/Pages.lean ====
section
/-! DEFINITION. The meanings of chapter 7: PAGEOPEN, SLOT in its two forms, PLACE, UNPLACE, RELEASE, CANCEL, REOPEN,
PAGESHUT and PAGEINFO. -/

namespace Sys2Proof.Machine

/-! ### PAGEOPEN and SLOT (R129, R130) -/

/-- The CLOSED page with the lowest id (R129). -/
def State.lowestClosed (s : State) : Option Nat := pageIds.find? fun g => (s.page g).state == .closed

/-- PAGEOPEN's effect (R129). -/
def State.pageopen (s : State) (label : Nat) (edition tolerance : Option Nat) : Verdict :=
  if !(within 1 999 label && optWithin 1 15 edition) then refuse s .badField
  else
    match s.lowestClosed with
    | none => refuse s .full
    | some g =>
      let e := edition.getD s.clock.edition
      let t := (tolerance.map (clamp 0 48)).getD 12
      (.done, u8 g ++ u8 e ++ u8 t,
        s.setPage g { Page.shut with label := label, edition := e, state := .makeup, tolerance := t })

/-- PAGEOPEN (R129). -/
def execPageopen (tag : Byte) (label : Nat) (edition tolerance : Option Nat) (s : State) :
    Host.Outcome State Fault Refusal :=
  hostStep (.pageopen tag label edition tolerance) (fun s => s.pageopen label edition tolerance) s

/-- A page whose state bars a request that changes its slots or stories: STATE when CLOSED, FROZEN past MAKEUP (R130,
R131). -/
def PageState.barred : PageState → Option Status
  | .closed => some .state
  | .makeup => none
  | .releasing => some .frozen
  | .queued => some .frozen
  | .setting => some .frozen
  | .set => some .frozen

/-- A slot with the depth and measure a SLOT carries, its occupant kept (R130). -/
def redefineSlot (old : Option Slot) (depth measure : Nat) : Slot :=
  match old with
  | some sl => { sl with depth := depth, measure := measure }
  | none => { depth := depth, measure := measure, occupant := none }

/-- A SLOT carried out in its defining form (R130): an occupant whose hole changed is made out of date, and the page judged
afresh. -/
def State.defineSlot (s : State) (g k depth measure : Nat) : State :=
  let old := (s.page g).slot k
  let new := redefineSlot old depth measure
  let t := s.updPage g fun p => p.setSlot k (some new)
  match new.occupant with
  | some (n, _) => if old = some new then t else State.noticeFit s g ((t.makeStale n).judge g)
  | none => t

/-- SLOT's effect in its defining form (R130). -/
def State.slotDefine (s : State) (g k depth measure : Nat) : Verdict :=
  if !(pageOk g && within 1 16 k && within 24 3600 depth && within 36 720 measure) then refuse s .badField
  else
    match (s.page g).state.barred with
    | some e => refuse s e
    | none =>
      let t := s.defineSlot g k depth measure
      (.done, slotBytes ((t.page g).slot k), t)

/-- SLOT with a depth and a measure (R130). -/
def execSlotDefine (tag : Byte) (g k depth measure : Nat) (s : State) : Host.Outcome State Fault Refusal :=
  hostStep (.slotDefine tag g k depth measure) (fun s => s.slotDefine g k depth measure) s

/-- The slot has an occupant. -/
def Page.occupied (p : Page) (k : Nat) : Bool :=
  match p.slot k with
  | some sl => sl.occupant.isSome
  | none => false

/-- SLOT's effect in its UNDEFINE form (R130). -/
def State.slotUndefine (s : State) (g k : Nat) : Verdict :=
  if !(pageOk g && within 1 16 k) then refuse s .badField
  else
    match (s.page g).state.barred with
    | some e => refuse s e
    | none =>
      if (s.page g).occupied k then refuse s .state
      else (.done, slotBytes none, s.updPage g fun p => p.setSlot k none)

/-- SLOT UNDEFINE (R130). -/
def execSlotUndefine (tag : Byte) (g k : Nat) (s : State) : Host.Outcome State Fault Refusal :=
  hostStep (.slotUndefine tag g k) (fun s => s.slotUndefine g k) s

/-! ### PLACE and UNPLACE (R131, R132) -/

/-- A run of 1 to 4 different slots, each 1 to 16 (R131). -/
def runOk (run : List Nat) : Bool :=
  within 1 4 run.length && run.all (fun k => within 1 16 k) && decide run.Nodup

/-- Every slot of the run is defined, and none has another story as occupant (check 6 of R131). -/
def Page.admits (p : Page) (n : Nat) (run : List Nat) : Bool :=
  run.all fun k =>
    match p.slot k with
    | none => false
    | some sl =>
      match sl.occupant with
      | none => true
      | some (m, _) => m == n

/-- Slots given to story `n` in run order, the first of them in position `i` (R131). -/
def Page.occupy (n : Nat) : (i : Nat) → List Nat → Page → Page
  | _, [], p => p
  | i, k :: ks, p =>
    Page.occupy n (i + 1) ks (p.setSlot k ((p.slot k).map fun sl => { sl with occupant := some (n, i) }))

/-- A PLACE carried out (R131): a departure from the basket or the old run given up, then the run, the fit out of date, the
page judged, the holder's OVERSET lamp and the FIT notice. -/
def State.place (s : State) (n g : Nat) (run : List Nat) : State :=
  let t := if (s.story n).stage = .basket then s.depart n else s.emptySlots g n
  let t := t.updStory n fun r => { r with stage := .placed, run := some { page := g, slots := run } }
  let t := t.updPage g (Page.occupy n 1 run)
  State.noticeFit s g (((t.makeStale n).judge g).lampHolder n)

/-- The story stands in BASKET, or is PLACED on page `g` (check 3 of R131). -/
def Story.placeable (r : Story) (g : Nat) : Bool :=
  match r.stage with
  | .basket => true
  | .placed =>
    match r.run with
    | some run => run.page == g
    | none => false
  | _ => false

/-- PLACE's effect (R131). A page id outside 1 to 48 (R126), which R131 does not place among its checks, is refused with check 1, before
NO SUCH (the model's choice, assumption 33). -/
def State.placeStory (s : State) (n g : Nat) (run : List Nat) : Verdict :=
  let r := s.story n
  if !(storyOk n && pageOk g && runOk run) then refuse s .badField
  else if r.stage = .free then refuse s .noSuch
  else if !r.placeable g then refuse s .stage
  else
    match (s.page g).state.barred with
    | some e => refuse s e
    | none =>
      if !(s.page g).admits n run then refuse s .state
      else (.done, u16 n ++ runBytes (some { page := g, slots := run }), s.place n g run)

/-- PLACE (R131). -/
def execPlace (tag : Byte) (n g : Nat) (run : List Nat) (s : State) : Host.Outcome State Fault Refusal :=
  hostStep (.place tag n g run) (fun s => s.placeStory n g run) s

/-- A story taken off page `g` and back to its basket (R132). -/
def State.unplace (s : State) (n g : Nat) : State :=
  let t := (s.emptySlots g n).updStory n fun r => { r with stage := .basket, run := none }
  State.noticeFit s g ((((t.arrive n).makeStale n).judge g).lampHolder n)

/-- UNPLACE's effect (R132). -/
def State.unplaceStory (s : State) (n : Nat) : Verdict :=
  let r := s.story n
  if !storyOk n then refuse s .badField
  else if r.stage = .free then refuse s .noSuch
  else
    match r.stage, r.run with
    | .placed, some run =>
      if (s.page run.page).state.frozen then refuse s .frozen
      else (.done, u16 n ++ u8 r.desk, s.unplace n run.page)
    | _, _ => refuse s .stage

/-- UNPLACE (R132). -/
def execUnplace (tag : Byte) (n : Nat) (s : State) : Host.Outcome State Fault Refusal :=
  hostStep (.unplace tag n) (fun s => s.unplaceStory n) s

/-! ### RELEASE and CANCEL (R135 to R139) -/

/-- No slot is defined, or a defined slot has no occupant (check 3 of R135). -/
def Page.empty (p : Page) : Bool :=
  p.slots.toList.all (fun v => v.isNone) ||
    p.slots.toList.any fun v => match v with
      | some sl => sl.occupant.isNone
      | none => false

/-- The holders on a page's stories (check 4 of R135). -/
def State.heldOn (s : State) (p : Page) : List Holder :=
  (p.stories.map fun n => (s.story n).holder).filter fun h => h != .absent

/-- A RELEASE refused with HELD names a holder (R135, 11.1). With several of them the reference does not say which: a free
choice (assumption 7). -/
def State.refuseRelease (s : State) (hs : List Holder) : Verdict :=
  match hs with
  | [h] => (.held, holderBytes h, s)
  | _ =>
    (.held, holderBytes ((hs[Config.heldChoice s.choices % hs.length]?).getD .absent), { s with choices := s.choices + 1 })

/-- Page `g` goes to RELEASING with its port choice and trim flag; its outcome is decided at once when it is not PENDING
(R135, R136). -/
def State.release (s : State) (g : Nat) (choice : PortChoice) (trim : Bool) : State :=
  (s.updPage g fun p => { p with state := .releasing, choice := choice, trim := trim }).endWait g

/-- RELEASE's effect (R135). The reply carries the page's state as the request leaves it: SETTING, code 4, where a READY port has taken
the job at once (R137, R150), a state that R135 does not list (the model's reading, assumption 32). -/
def State.releasePage (s : State) (g choice trim : Nat) : Verdict :=
  match PortChoice.ofCode choice, firstOfTwo trim with
  | some c, some t =>
    if !pageOk g then refuse s .badField
    else if (s.page g).state ≠ .makeup then refuse s .state
    else if (s.page g).empty then refuse s .empty
    else if (s.heldOn (s.page g)).isEmpty then
      let u := s.release g c t
      (.done, u8 (u.page g).state.code, u)
    else s.refuseRelease (s.heldOn (s.page g))
  | _, _ => refuse s .badField

/-- RELEASE (R135). -/
def execRelease (tag : Byte) (g choice trim : Nat) (s : State) : Host.Outcome State Fault Refusal :=
  hostStep (.release tag g choice trim) (fun s => s.releasePage g choice trim) s

/-- CANCEL's effect (R139, R158). -/
def State.cancel (s : State) (g : Nat) : Verdict :=
  let details := u8 (s.page g).state.code
  if !pageOk g then refuse s .badField
  else
    match (s.page g).state with
    | .releasing => (.done, details, s.returnPage g)
    | .queued => (.done, details, s.cancelQueued g)
    | .setting => (.done, details, s.cancelSetting g)
    | _ => refuse s .state

/-- CANCEL (R139). -/
def execCancel (tag : Byte) (g : Nat) (s : State) : Host.Outcome State Fault Refusal :=
  hostStep (.cancel tag g) (fun s => s.cancel g) s

/-! ### REOPEN, PAGESHUT and PAGEINFO (R141 to R143) -/

/-- REOPEN's effect (R141). -/
def State.reopen (s : State) (g : Nat) : Verdict :=
  if !pageOk g then refuse s .badField
  else if (s.page g).state = .set then
    (.done, u8 (s.page g).stories.length, State.noticeFit s g (s.reopenPage g))
  else refuse s .state

/-- REOPEN (R141). -/
def execReopen (tag : Byte) (g : Nat) (s : State) : Host.Outcome State Fault Refusal :=
  hostStep (.reopen tag g) (fun s => s.reopen g) s

/-- A slot of the page has an occupant (check 2 of R142). -/
def Page.anyOccupied (p : Page) : Bool :=
  p.slots.toList.any fun v => match v with
    | some sl => sl.occupant.isSome
    | none => false

/-- PAGESHUT's effect (R142). -/
def State.pageshut (s : State) (g : Nat) : Verdict :=
  let p := s.page g
  if !pageOk g then refuse s .badField
  else if p.state ≠ .makeup ∧ p.state ≠ .set then refuse s .state
  else if p.anyOccupied then refuse s .state
  else (.done, [], s.setPage g Page.shut)

/-- PAGESHUT (R142). -/
def execPageshut (tag : Byte) (g : Nat) (s : State) : Host.Outcome State Fault Refusal :=
  hostStep (.pageshut tag g) (fun s => s.pageshut g) s

/-- PAGEINFO's effect (R143). -/
def State.pageinfo (s : State) (g : Nat) : Verdict :=
  if !pageOk g then refuse s .badField else (.done, pageBytes s g, s)

/-- PAGEINFO (R143). -/
def execPageinfo (tag : Byte) (g : Nat) (s : State) : Host.Outcome State Fault Refusal :=
  hostStep (.pageinfo tag g) (fun s => s.pageinfo g) s

end Sys2Proof.Machine
end

