-- ==== Sys2Proof/Machine/Screens.lean ====
section
/-! DEFINITION. The meanings of chapter 5: WINDOW, RETURN, HOME, SEEN, FLASH and LAMP. -/

namespace Sys2Proof.Machine

/-! ### WINDOW (R87) -/

/-- WINDOW's effect (R87): with f absent the window starts at the window record's first line, or 0 for an empty record. -/
def State.windowFrom (s : State) (k : Nat) (first : Option Nat) : Verdict :=
  let l := s.line k
  if !optWithin 0 999 first then refuse s .badField
  else
    match l.held with
    | none => refuse s .state
    | some n =>
      let f := first.getD ((l.window.map fun w => w.first).getD 0)
      if first.isSome && decide ((s.story n).text.length < f) then refuse s .badField
      else (.done, u16 f ++ u8 (s.windowScreen n f l.windowSize).shown, s.putWindow k n f)

/-- WINDOW (R87). -/
def execWindow (k : Fin 32) (first : Option Nat) (s : State) : Host.Outcome State Fault Refusal :=
  lineStep k (.window k first) (fun s => s.windowFrom k.val first) s

/-! ### RETURN (R88, R89) -/

/-- The f and k of a RETURN: those it carries, or the window record's when both are omitted (R88). -/
def Line.returnRange (l : Line) : Option (Nat × Nat) → Option (Nat × Nat)
  | some fk => some fk
  | none => l.window.map fun w => (w.first, w.shown)

/-- The first check of a RETURN (R88). -/
def Line.returnFields (l : Line) (range : Option (Nat × Nat)) (new : List CopyLine) : Bool :=
  (match l.returnRange range with
    | some (f, k) => decide (k ≤ l.windowSize) && decide (f ≤ 999)
    | none => true)
    && decide (new.length ≤ 40) && new.all lineOk

/-- The story stands in BASKET, or PLACED on a page in MAKEUP (check 4 of R88). -/
def State.editable (s : State) (n : Nat) : Bool :=
  let r := s.story n
  match r.stage with
  | .basket => true
  | .placed =>
    match r.run with
    | some run => (s.page run.page).state == .makeup
    | none => false
  | _ => false

/-- RETURN's effect (R88, R89). -/
def State.returnLines (s : State) (k : Nat) (range : Option (Nat × Nat)) (new : List CopyLine) : Verdict :=
  let l := s.line k
  if !l.returnFields range new then refuse s .badField
  else
    match l.held, l.returnRange range with
    | some n, some (f, c) =>
      let text := (s.story n).text
      if text.length < f + c then refuse s .badField
      else if !s.editable n then refuse s .frozen
      else
        let lines := replaceRange text f c new
        match s.textRefusal n lines with
        | some e => refuse s e
        | none =>
          let t := s.changeText n lines none
          (.done, u16 (t.story n).editCount ++ u16 lines.length, t.putWindow k n f)
    | _, _ => refuse s .state

/-- RETURN (R88, R89). -/
def execReturn (k : Fin 32) (range : Option (Nat × Nat)) (new : List CopyLine) (s : State) :
    Host.Outcome State Fault Refusal :=
  lineStep k (.ret k range new) (fun s => s.returnLines k.val range new) s

/-! ### HOME and SEEN (R92, R97) -/

/-- The home screen a HOME asks for: of desk `d` from position `p` (R92). -/
def State.homeFrom (s : State) (k d p : Nat) : Verdict :=
  let length := (s.desk d).basket.length
  if !deskOk d || decide (length < p) then refuse s .badField
  else (.done, u8 d ++ u16 length, s.putHome k d p)

/-- HOME's effect (R92): an absent desk is the line's own, an absent position the head. -/
def State.home (s : State) (k : Nat) (desk first : Option Nat) : Verdict :=
  match desk, (s.line k).user with
  | some d, _ => s.homeFrom k d (first.getD 0)
  | none, some u => s.homeFrom k u.desk (first.getD 0)
  | none, none => refuse s .denied

/-- HOME (R92). -/
def execHome (k : Fin 32) (desk first : Option Nat) (s : State) : Host.Outcome State Fault Refusal :=
  lineStep k (.home k desk first) (fun s => s.home k.val desk first) s

/-- SEEN's effect (R97): it answers how many entries the line had not seen. -/
def State.seen (s : State) (k : Nat) : Verdict :=
  (.done, u8 (s.flashes.list.countP fun e => e.unseen.contains k), ((s.unseeLine k).refreshLine k).lampIf k .flash)

/-- SEEN (R97). -/
def execSeen (k : Fin 32) (s : State) : Host.Outcome State Fault Refusal :=
  lineStep k (.seen k) (fun s => s.seen k.val) s

/-! ### FLASH (R95, R96) -/

/-- A flash text: 1 to 60 characters of codes 32 to 126 (R95, R96). -/
def flashTextOk (text : List Byte) : Bool :=
  decide (1 ≤ text.length) && decide (text.length ≤ 60) &&
    text.all fun c => decide (32 ≤ c.toNat) && decide (c.toNat ≤ 126)

/-- The lines in READY or DIM whose signed-on desk is in the mask (step 3 of R96). -/
def State.flashLines (s : State) (mask : BitVec 16) : List Nat :=
  (List.range Config.lines).filter fun k =>
    let l := s.line k
    (l.state == .ready || l.state == .dim) &&
      match l.user with
      | some u => maskHas mask u.desk
      | none => false

/-- The entry a FLASH removes: the oldest, when the list is full (step 1 of R96). -/
def Flashes.oldest (f : Flashes) : Option FlashEntry :=
  if Config.flashes ≤ f.list.length then f.list.getLast? else none

/-- The flash list with the new entry at its head, and the next flash number (steps 1 and 2 of R96). -/
def Flashes.add (f : Flashes) (text : List Byte) (mask : BitVec 16) (unseen : List Nat) : Flashes :=
  { list :=
      { number := f.next, text := text, mask := mask, unseen := unseen } ::
        (if Config.flashes ≤ f.list.length then f.list.dropLast else f.list)
    next := if f.next = 255 then 1 else f.next + 1 }

/-- Line `k` showed flash `e` as its newest unseen. -/
def State.showsFlash (s : State) (k : Nat) (e : Option FlashEntry) : Bool :=
  match e, s.newestUnseen k with
  | some e, some d => e.number == d.number
  | _, _ => false

/-- A FLASH carried out (R96). -/
def State.addFlash (s : State) (text : List Byte) (mask : BitVec 16) : State :=
  let unseen := s.flashLines mask
  let gone := s.flashes.oldest
  let t : State := { s with flashes := s.flashes.add text mask unseen }
  let t := t.refresh fun k _ => unseen.contains k || s.showsFlash k gone
  let t := t.wake fun k l => unseen.contains k && l.wakeFlash
  t.lamps fun k l =>
    l.lampSource == .flash &&
      (unseen.contains k ||
        match gone with
        | some e => e.unseen.contains k
        | none => false)

/-- FLASH's effect (R96). -/
def State.flash (s : State) (text : List Byte) (mask : BitVec 16) : Verdict :=
  if !flashTextOk text || mask == 0 then refuse s .badField
  else
    (.done,
      u8 s.flashes.next ++ u8 ((s.flashes.oldest.map fun e => e.number).getD 0) ++ u8 (s.flashLines mask).length,
      s.addFlash text mask)

/-- FLASH (R96). -/
def execFlash (tag : Byte) (text : List Byte) (mask : BitVec 16) (s : State) : Host.Outcome State Fault Refusal :=
  hostStep (.flash tag text mask) (fun s => s.flash text mask) s

/-! ### LAMP (R100) -/

/-- LAMP's effect (R100). -/
def State.chooseLamp (s : State) (k source : Nat) : Verdict :=
  match LampSource.ofCode source with
  | none => refuse s .badField
  | some src =>
    if !lineNumberOk k then refuse s .badField
    else
      let t := (s.updLine k fun l => { l with lampSource := src }).lampAnew k
      (.done, u8 (yesCode (t.line k).lamp), t)

/-- LAMP (R100). -/
def execLamp (tag : Byte) (k source : Nat) (s : State) : Host.Outcome State Fault Refusal :=
  hostStep (.lamp tag k source) (fun s => s.chooseLamp k source) s

end Sys2Proof.Machine
end

