-- ==== Sys2Proof/Machine/Setters.lean ====
section
/-! DEFINITION. The meanings of chapter 8: the translation table, the two setter ports, their requests and the events that
come from the typesetters. -/

namespace Sys2Proof.Machine

/-! ### XLATE (R145, R146) -/

/-- The range and entries of an XLATE (check 1 of R146). -/
def xlateOk (c : Nat) (entries : List (List Nat)) : Bool :=
  let n := entries.length
  decide (n ≠ 0) && decide (c ≤ 127) && decide (c + n - 1 ≤ 127) && !(decide (c ≤ 32) && decide (32 < c + n))
    && entries.all fun e => decide (e.length ≤ 2) && e.all fun v => decide (v ≤ 255)

/-- The translation table with `entries` stored from code `c` on (R146). -/
def putEntries (table : Vector (List Byte) 128) (c : Nat) (entries : List (List Nat)) : Vector (List Byte) 128 :=
  table.mapIdx fun i old => if c ≤ i then ((entries[i - c]?).map fun e => e.map byte).getD old else old

/-- XLATE's effect (R146). -/
def State.loadXlate (s : State) (c : Nat) (entries : List (List Nat)) : Verdict :=
  if !xlateOk c entries then refuse s .badField
  else if s.tablesFrozen then refuse s .frozen
  else
    (.done, u8 c ++ u8 entries.length,
      { s with output := { s.output with xlate := putEntries s.output.xlate c entries } })

/-- XLATE (R146). -/
def execXlate (tag : Byte) (c : Nat) (entries : List (List Nat)) (s : State) : Host.Outcome State Fault Refusal :=
  hostStep (.xlate tag c entries) (fun s => s.loadXlate c entries) s

/-! ### Port requests (R152 to R154, R162 to R165) -/

/-- PORTSET's effect (R152). -/
def State.portset (s : State) (port : Nat) (lossTime failover : Option Nat) : Verdict :=
  match portOfCode port, flagField failover with
  | some p, some f =>
    if (s.port p).state = .offline then
      let t := s.updPort p fun v =>
        { v with lossTime := (lossTime.map (clamp 5 120)).getD v.lossTime, failover := f.getD v.failover }
      (.done, u16 (t.port p).lossTime ++ u8 (flagCode (t.port p).failover), t)
    else refuse s .state
  | _, _ => refuse s .badField

/-- PORTSET (R152). -/
def execPortset (tag : Byte) (port : Nat) (lossTime failover : Option Nat) (s : State) :
    Host.Outcome State Fault Refusal :=
  hostStep (.portset tag port lossTime failover) (fun s => s.portset port lossTime failover) s

/-- A port brought to READY, where it may take a queued job within the request (R150, R153, R163). -/
def State.portReady (s : State) (p : Port) : State := (s.updPort p fun v => { v with state := .ready }).arbitrate

/-- PORTON's effect (R153). -/
def State.porton (s : State) (port : Nat) : Verdict :=
  match portOfCode port with
  | some p =>
    if (s.port p).state = .offline then
      let t := s.portReady p
      (.done, portStateBytes (t.port p), t)
    else refuse s .state
  | none => refuse s .badField

/-- PORTON (R153). -/
def execPorton (tag : Byte) (port : Nat) (s : State) : Host.Outcome State Fault Refusal :=
  hostStep (.porton tag port) (fun s => s.porton port) s

/-- A port without a job taken out of service: its timer stopped and its FIFO emptied, but for a pending abort code
(R154). -/
def SetterPort.goOffline (v : SetterPort) : SetterPort := { v with state := .offline, fifo := [], lossTimer := none }

/-- PORTOFF's effect (R154): an OFFLINE port is left as it is; a SETTING port's job is cancelled first, and the port takes
no other. -/
def State.portoff (s : State) (port : Nat) : Verdict :=
  match portOfCode port with
  | some p =>
    if (s.port p).state = .offline then (.done, u8 0, s)
    else
      match (s.port p).job with
      | some j => (.done, u8 j.job.page, s.cancelAtPort p j.job.page .offline)
      | none => (.done, u8 0, s.updPort p SetterPort.goOffline)
  | none => refuse s .badField

/-- PORTOFF (R154). -/
def execPortoff (tag : Byte) (port : Nat) (s : State) : Host.Outcome State Fault Refusal :=
  hostStep (.portoff tag port) (fun s => s.portoff port) s

/-- RESUME's effect (R163). -/
def State.resumePort (s : State) (port : Nat) : Verdict :=
  match portOfCode port with
  | some p =>
    if (s.port p).state = .recovered ∨ (s.port p).state = .halted then
      let t := s.portReady p
      (.done, portStateBytes (t.port p), t)
    else refuse s .state
  | none => refuse s .badField

/-- RESUME (R163). -/
def execResume (tag : Byte) (port : Nat) (s : State) : Host.Outcome State Fault Refusal :=
  hostStep (.resume tag port) (fun s => s.resumePort port) s

/-- PORTCLR's effect (R162). -/
def State.portclr (s : State) (port : Nat) : Verdict :=
  match portOfCode port with
  | some p => (.done, u8 (flagCode (s.port p).lossLatch), s.updPort p fun v => { v with lossLatch := false })
  | none => refuse s .badField

/-- PORTCLR (R162). -/
def execPortclr (tag : Byte) (port : Nat) (s : State) : Host.Outcome State Fault Refusal :=
  hostStep (.portclr tag port) (fun s => s.portclr port) s

/-- PORTSTAT's effect (R164). -/
def State.portstat (s : State) (port : Nat) : Verdict :=
  match portOfCode port with
  | some p => (.done, portBytes (s.port p), s)
  | none => refuse s .badField

/-- PORTSTAT (R164). -/
def execPortstat (tag : Byte) (port : Nat) (s : State) : Host.Outcome State Fault Refusal :=
  hostStep (.portstat tag port) (fun s => s.portstat port) s

/-- QUEUE (R165). -/
def execQueue (tag : Byte) (s : State) : Host.Outcome State Fault Refusal :=
  hostStep (.queue tag) (fun s => (.done, queueBytes s.output.queue, s)) s

/-! ### Codes and the ready lead (R155, R158, R159, R163) -/

/-- The head code of a port's FIFO accepted (R155): it leaves, the remaining count falls by 1, the builder fills the FIFO,
and with nothing remaining the port awaits its result under the loss timer (R159). -/
def SetterPort.accepted (v : SetterPort) (j : PortJob) (code : Byte) (rest : List Byte) : SetterPort :=
  let left := j.remaining - 1
  let w := SetterPort.fill { v with fifo := rest, codeOut := some code, job := some { j with remaining := left } }
  if left = 0 then
    { w with
      job := w.job.map fun j => { j with phase := .awaiting }
      lossTimer := some v.lossTime }
  else w

/-- The codes of port `p`'s job flow while the port is SENDING, the ready lead is high, and no abort code waits before them
(R155, R158). -/
def State.acceptCode (s : State) (p : Port) : State :=
  let v := s.port p
  match v.job, v.fifo with
  | some j, code :: rest =>
    if v.state = .setting ∧ j.phase = .sending ∧ v.lead ∧ v.abort = false then
      (s.setPort p (v.accepted j code rest)).updPage j.job.page fun g =>
        { g with job := g.job.map fun r => { r with remaining := j.remaining - 1 } }
    else s
  | _, _ => s

/-- CODE_ACCEPTED (R155). -/
def execCodeAccepted (p : Port) (s : State) : Host.Outcome State Fault Refusal := .next (s.acceptCode p)

/-- The abort code (11.5). -/
def abortCode : Byte := 253

/-- ABORT_CODE_SENT (R158): a pending abort code leaves, in every state of the port, when the ready lead is high. -/
def execAbortCodeSent (p : Port) (s : State) : Host.Outcome State Fault Refusal :=
  .next <|
    if (s.port p).abort ∧ (s.port p).lead then
      s.updPort p fun v => { v with abort := false, codeOut := some abortCode }
    else s

/-- The port is SETTING in its SENDING phase (R151, R159). -/
def SetterPort.sending (v : SetterPort) : Bool :=
  v.state == .setting &&
    match v.job with
    | some j => j.phase == .sending
    | none => false

/-- READY_LEAD_RISE (R159, R163): the loss timer of a SENDING port stops; a LOST port becomes RECOVERED, with the OUTPUT
notice. -/
def execReadyLeadRise (p : Port) (s : State) : Host.Outcome State Fault Refusal :=
  .next <|
    let v := { s.port p with lead := true }
    if v.sending then s.setPort p { v with lossTimer := none }
    else if v.state = .lost then (s.setPort p { v with state := .recovered }).raise (.output p .recovered)
    else s.setPort p v

/-- READY_LEAD_FALL (R159): the loss timer of a SENDING port starts at the loss time. -/
def execReadyLeadFall (p : Port) (s : State) : Host.Outcome State Fault Refusal :=
  .next <|
    let v := s.port p
    s.setPort p
      (if v.lead ∧ v.sending then { v with lead := false, lossTimer := some v.lossTime } else { v with lead := false })

/-! ### Result codes (R156, R157, R192) -/

/-- The job a result code is for: that of a port SETTING in its AWAITING RESULT phase (R151, R192). -/
def SetterPort.awaited (v : SetterPort) : Option PortJob :=
  match v.job with
  | some j => if v.state = .setting ∧ j.phase = .awaiting then some j else none
  | none => none

/-- The margin a page completing now is stamped with (R177). -/
def Clock.margin (c : Clock) : Option Margin :=
  match c.state with
  | .running => some { edition := c.edition, seconds := (c.count : Int) }
  | .overdue => some { edition := c.edition, seconds := -(c.count : Int) }
  | .stopped => none

/-- Page `g`'s job completed at port `p` (R156, R177). -/
def State.completeJob (s : State) (p : Port) (g : Nat) : State :=
  let margin := s.clock.margin
  let t := s.moveStories g .setting .set
  let t := t.updPage g fun v =>
    { v with
      state := .set, margin := margin
      job := v.job.map fun r => { r with remaining := 0, outcome := .done } }
  let t := t.updPort p fun v => { v with state := .ready, job := none, lossTimer := none }
  t.arbitrate.raise (.set g margin)

/-- RESULT_DONE (R156, R192). -/
def execResultDone (p : Port) (s : State) : Host.Outcome State Fault Refusal :=
  .next <|
    match (s.port p).awaited with
    | some j => s.completeJob p j.job.page
    | none => s

/-- Page `g`'s job failed at port `p` (R157). -/
def State.failJob (s : State) (p : Port) (g : Nat) : State :=
  let t := s.updPort p fun v => { v with state := .halted, job := none, lossTimer := none }
  ((t.endRecord g .fault).returnPage g).raise (.output p (.fault g))

/-- RESULT_FAULT (R157, R192). -/
def execResultFault (p : Port) (s : State) : Host.Outcome State Fault Refusal :=
  .next <|
    match (s.port p).awaited with
    | some j => s.failJob p j.job.page
    | none => s

/-- RESULT_CODE_OTHER (R192): a value other than DONE and FAULT is ignored in every state of the port. -/
def execResultCodeOther (_p : Port) (_value : Byte) (s : State) : Host.Outcome State Fault Refusal := .next s

/-- PORT_LOSS (R159, R160): the loss timer of port `p` falls to 0. A timer with more than a second left does not expire
(assumption 10). -/
def execPortLoss (p : Port) (s : State) : Host.Outcome State Fault Refusal :=
  .next (if s.lossDue p then s.lossExpires p else s)

end Sys2Proof.Machine
end

