-- ==== Sys2Proof/Machine/Dispatch.lean ====
section
/-! DEFINITION. The dispatch: one arm for each command, each a call of its meaning. -/

namespace Sys2Proof.Machine

/-- What a command does to everything but the queue of commands. -/
def exec (i : Instr) (s : State) : Host.Outcome State Fault Refusal :=
  match i with
  | .powerReset => Sys2Proof.Machine.execPowerReset s
  | .hostFrameDiscarded fault => Sys2Proof.Machine.execHostFrameDiscarded fault s
  | .requestArrival bytes => Sys2Proof.Machine.execRequestArrival bytes s
  | .hostFrameSent => Sys2Proof.Machine.execHostFrameSent s
  | .unknownRequest tag kind => Sys2Proof.Machine.execUnknownRequest tag kind s
  | .create tag slug desk style priority => Sys2Proof.Machine.execCreate tag slug desk style priority s
  | .textAppend tag story style new => Sys2Proof.Machine.execTextAppend tag story style new s
  | .textReplace tag story style new => Sys2Proof.Machine.execTextReplace tag story style new s
  | .textReplaceRange tag story style first count new => Sys2Proof.Machine.execTextReplaceRange tag story style first count new s
  | .read tag story first => Sys2Proof.Machine.execRead tag story first s
  | .info tag story => Sys2Proof.Machine.execInfo tag story s
  | .purge tag story => Sys2Proof.Machine.execPurge tag story s
  | .new line slug style priority => Sys2Proof.Machine.execNew line slug style priority s
  | .hostRoute tag story desk => Sys2Proof.Machine.execHostRoute tag story desk s
  | .terminalRoute line story desk => Sys2Proof.Machine.execTerminalRoute line story desk s
  | .hostPriority tag story priority => Sys2Proof.Machine.execHostPriority tag story priority s
  | .terminalPriority line priority => Sys2Proof.Machine.execTerminalPriority line priority s
  | .hostSpike tag story => Sys2Proof.Machine.execHostSpike tag story s
  | .terminalSpike line story => Sys2Proof.Machine.execTerminalSpike line story s
  | .unspike tag story => Sys2Proof.Machine.execUnspike tag story s
  | .hostKill tag story => Sys2Proof.Machine.execHostKill tag story s
  | .terminalKill line story => Sys2Proof.Machine.execTerminalKill line story s
  | .arm line => Sys2Proof.Machine.execArm line s
  | .basket tag desk list first => Sys2Proof.Machine.execBasket tag desk list first s
  | .terminalOpen line story => Sys2Proof.Machine.execTerminalOpen line story s
  | .hostOpen tag story => Sys2Proof.Machine.execHostOpen tag story s
  | .terminalClose line => Sys2Proof.Machine.execTerminalClose line s
  | .hostClose tag story => Sys2Proof.Machine.execHostClose tag story s
  | .free tag story => Sys2Proof.Machine.execFree tag story s
  | .holdtime tag seconds => Sys2Proof.Machine.execHoldtime tag seconds s
  | .orphanExpiry story => Sys2Proof.Machine.execOrphanExpiry story s
  | .lineset tag line speed model dimTime wakeFlash wakeUrgent => Sys2Proof.Machine.execLineset tag line speed model dimTime wakeFlash wakeUrgent s
  | .lineon tag line => Sys2Proof.Machine.execLineon tag line s
  | .lineoff tag line => Sys2Proof.Machine.execLineoff tag line s
  | .linestat tag line => Sys2Proof.Machine.execLinestat tag line s
  | .carrierDrop line => Sys2Proof.Machine.execCarrierDrop line s
  | .carrierReturn line => Sys2Proof.Machine.execCarrierReturn line s
  | .terminalFrameReceived line chars => Sys2Proof.Machine.execTerminalFrameReceived line chars s
  | .terminalFrameDiscarded line fault => Sys2Proof.Machine.execTerminalFrameDiscarded line fault s
  | .lineFrameSent line => Sys2Proof.Machine.execLineFrameSent line s
  | .signon line user => Sys2Proof.Machine.execSignon line user s
  | .verdictGrant tag line desk role => Sys2Proof.Machine.execVerdictGrant tag line desk role s
  | .verdictDeny tag line => Sys2Proof.Machine.execVerdictDeny tag line s
  | .signonTimeout line => Sys2Proof.Machine.execSignonTimeout line s
  | .signoff line => Sys2Proof.Machine.execSignoff line s
  | .dim line => Sys2Proof.Machine.execDim line s
  | .window line first => Sys2Proof.Machine.execWindow line first s
  | .ret line range new => Sys2Proof.Machine.execReturn line range new s
  | .home line desk first => Sys2Proof.Machine.execHome line desk first s
  | .seen line => Sys2Proof.Machine.execSeen line s
  | .flash tag text mask => Sys2Proof.Machine.execFlash tag text mask s
  | .lamp tag line source => Sys2Proof.Machine.execLamp tag line source s
  | .style tag number fields => Sys2Proof.Machine.execStyle tag number fields s
  | .widths tag font first values => Sys2Proof.Machine.execWidths tag font first values s
  | .fitTake => Sys2Proof.Machine.execFitTake s
  | .fitCompletion => Sys2Proof.Machine.execFitCompletion s
  | .pageopen tag label edition tolerance => Sys2Proof.Machine.execPageopen tag label edition tolerance s
  | .slotDefine tag page slot depth measure => Sys2Proof.Machine.execSlotDefine tag page slot depth measure s
  | .slotUndefine tag page slot => Sys2Proof.Machine.execSlotUndefine tag page slot s
  | .place tag story page run => Sys2Proof.Machine.execPlace tag story page run s
  | .unplace tag story => Sys2Proof.Machine.execUnplace tag story s
  | .release tag page choice trim => Sys2Proof.Machine.execRelease tag page choice trim s
  | .cancel tag page => Sys2Proof.Machine.execCancel tag page s
  | .reopen tag page => Sys2Proof.Machine.execReopen tag page s
  | .pageshut tag page => Sys2Proof.Machine.execPageshut tag page s
  | .pageinfo tag page => Sys2Proof.Machine.execPageinfo tag page s
  | .xlate tag first entries => Sys2Proof.Machine.execXlate tag first entries s
  | .portset tag port lossTime failover => Sys2Proof.Machine.execPortset tag port lossTime failover s
  | .porton tag port => Sys2Proof.Machine.execPorton tag port s
  | .portoff tag port => Sys2Proof.Machine.execPortoff tag port s
  | .resume tag port => Sys2Proof.Machine.execResume tag port s
  | .portclr tag port => Sys2Proof.Machine.execPortclr tag port s
  | .portstat tag port => Sys2Proof.Machine.execPortstat tag port s
  | .queue tag => Sys2Proof.Machine.execQueue tag s
  | .codeAccepted port => Sys2Proof.Machine.execCodeAccepted port s
  | .abortCodeSent port => Sys2Proof.Machine.execAbortCodeSent port s
  | .readyLeadRise port => Sys2Proof.Machine.execReadyLeadRise port s
  | .readyLeadFall port => Sys2Proof.Machine.execReadyLeadFall port s
  | .resultDone port => Sys2Proof.Machine.execResultDone port s
  | .resultFault port => Sys2Proof.Machine.execResultFault port s
  | .resultCodeOther port value => Sys2Proof.Machine.execResultCodeOther port value s
  | .portLoss port => Sys2Proof.Machine.execPortLoss port s
  | .secondsTick => Sys2Proof.Machine.execSecondsTick s
  | .terminalCount => Sys2Proof.Machine.execTerminalCount s
  | .clkstart tag edition countdown => Sys2Proof.Machine.execClkstart tag edition countdown s
  | .clknext tag countdown => Sys2Proof.Machine.execClknext tag countdown s
  | .clkstop tag => Sys2Proof.Machine.execClkstop tag s
  | .clkread tag => Sys2Proof.Machine.execClkread tag s
  | .warn tag seconds => Sys2Proof.Machine.execWarn tag seconds s
  | .sweep tag => Sys2Proof.Machine.execSweep tag s
  | .ident tag => Sys2Proof.Machine.execIdent tag s
  | .restart tag => Sys2Proof.Machine.execRestart tag s
  | .restartTakesEffect => Sys2Proof.Machine.execRestartTakesEffect s

end Sys2Proof.Machine
end

