-- ==== Sys2Proof/Safety.lean ====
section
/-! DEFINITION. The terms claims are made in: the parts of the state and what leaves them alone, what a reply and an answer
are, and the laws that every step of the part keeps. -/

namespace Sys2Proof.Machine

/-! ### The parts of the state -/

/-- The parts of the state, one for each of its fields. -/
inductive Part where
  | stories
  | desks
  | store
  | orphanWindow
  | lines
  | flashes
  | fit
  | pages
  | output
  | clock
  | channel
  | choices
  | pending
  deriving DecidableEq, Repr

/-- Two states agree on a part. -/
def State.agree (s t : State) : Part → Prop
  | .stories => t.stories = s.stories
  | .desks => t.desks = s.desks
  | .store => t.store = s.store
  | .orphanWindow => t.orphanWindow = s.orphanWindow
  | .lines => t.lines = s.lines
  | .flashes => t.flashes = s.flashes
  | .fit => t.fit = s.fit
  | .pages => t.pages = s.pages
  | .output => t.output = s.output
  | .clock => t.clock = s.clock
  | .channel => t.channel = s.channel
  | .choices => t.choices = s.choices
  | .pending => t.pending = s.pending

/-- From `s` to `t` nothing changes but the parts listed. -/
def OnlyTouches (ps : List Part) (s t : State) : Prop := ∀ p : Part, p ∉ ps → s.agree t p

/-- A line as an arrival, a flash or a clock event may leave it: its session, hold, window record, service, buffers,
latches and configuration as they were. -/
def Line.sameSession (l m : Line) : Prop :=
  m = { l with state := m.state, display := m.display, status := m.status, dimTimer := m.dimTimer, lamp := m.lamp }

/-- Every line but `k` stands as it was. -/
def SameLinesBut (k : Nat) (s t : State) : Prop := ∀ m, m ≠ k → t.line m = s.line m

/-- Every story but `n` stands as it was. -/
def SameStoriesBut (n : Nat) (s t : State) : Prop := ∀ m, m ≠ n → t.story m = s.story m

/-- Every page but `g` stands as it was. -/
def SamePagesBut (g : Nat) (s t : State) : Prop := ∀ h, h ≠ g → t.page h = s.page h

/-- Every desk but `d` stands as it was. -/
def SameDesksBut (d : Nat) (s t : State) : Prop := ∀ e, e ≠ d → t.desk e = s.desk e

/-! ### Replies and answers -/

/-- The request has been answered with this status and these details: it is the oldest unanswered request of the intake,
and its reply stands at the tail of the reply path (R180, R182). The receiver, the transmitter, the link error latch and the
RESTART that stands are as they were. -/
def Replied (i : Instr) (status : Status) (details : List Byte) (s t : State) : Prop :=
  (s.offer i).channel.oldest = some i ∧
  t.channel.intake = markAnswered (s.offer i).channel.intake ∧
  t.channel.replies = (s.offer i).channel.replies ++
    [{ tag := i.tag, kind := i.kind, status := status, details := details, overflow := false }] ∧
  t.channel.rx = s.channel.rx ∧ t.channel.tx = s.channel.tx ∧
  t.channel.linkError = (s.offer i).channel.linkError ∧ t.channel.restarting = s.channel.restarting

/-- The reply of request `i` at the tail of the reply path. -/
def State.lastReply (s : State) : Option Reply := s.channel.replies.getLast?

/-- Line `k`'s answer slot holds the service answer to a frame of this kind (R72). -/
def Answered (k : Nat) (kind : List Byte) (status : Status) (details : List Byte) (t : State) : Prop :=
  (t.line k).answer = some { service := true, kind := kind, status := status, details := details }

/-- These notices have been raised, in this order, and no others (R184). -/
def Raised (ns : List Notice) (s t : State) : Prop :=
  let c := ns.foldl Channel.raise s.channel
  t.channel.notices = c.notices ∧ t.channel.noticesLost = c.noticesLost

/-- The part's own event, no request: the channel is as it was, but for these notices raised in this order. -/
def OnlyRaised (ns : List Notice) (s t : State) : Prop := t.channel = ns.foldl Channel.raise s.channel

/-- What a request served at a line never changes there: the configuration, the user, the sign-on fields, the receive buffer,
the error latches, the carrier input and the frame being sent. -/
def Line.sameSetup (l m : Line) : Prop :=
  m = { m with
    speed := l.speed, model := l.model, lampSource := l.lampSource, dimTime := l.dimTime, wakeFlash := l.wakeFlash,
    wakeUrgent := l.wakeUrgent, user := l.user, signonUser := l.signonUser, signonTimer := l.signonTimer,
    outcome := l.outcome, rx := l.rx, latches := l.latches, carrier := l.carrier, tx := l.tx }

/-- Line `k`'s request has been answered: its service answer stands in the answer slot, the request is in service until that
answer begins to be sent (R72), an armed override is consumed by any frame but ARM (R27), and the line's setup is as it
was. -/
def Served (i : Instr) (k : Nat) (status : Status) (details : List Byte) (s t : State) : Prop :=
  (t.line k).answer = some { service := true, kind := i.kind, status := status, details := details } ∧
  (t.line k).service.map (fun v => v.stage) = some .answered ∧
  (i.kind ≠ kindWord "ARM" → (t.line k).override = false) ∧
  (s.line k).sameSetup (t.line k)

/-- Line `k` is sent the home screen of its own desk from position 0 (R91). -/
def HomeShown (k : Nat) (t : State) : Prop :=
  ∀ u ∈ (t.line k).user, ∃ h, (t.line k).display = some (.home h) ∧ h.desk = u.desk ∧ h.first = 0

/-- Line `k` is sent the window of story `n` from copy line `f`, and its window record says so (R86). -/
def WindowShown (k n f : Nat) (t : State) : Prop :=
  (t.line k).display = some (.window (t.windowScreen n f (t.line k).windowSize)) ∧
  (t.line k).window =
    some { first := f, shown := min (t.line k).windowSize ((t.story n).text.length - f) }

/-- What lights the lamp of line `k`, whose context is `l` (R98): nothing on a DISABLED line; with no user signed on, only the
sources ON and ERROR; and otherwise what the table gives for the source. -/
def LampLights (s : State) (k : Nat) (l : Line) : Prop :=
  l.state ≠ .disabled ∧
    match l.lampSource with
    | .off => False
    | .on => True
    | .basket => ∃ u ∈ l.user, (s.desk u.desk).basket ≠ []
    | .urgent => ∃ u ∈ l.user, 0 < (s.desk u.desk).urgent
    | .flash => l.user.isSome = true ∧ ∃ e ∈ s.flashes.list, k ∈ e.unseen
    | .deadline => l.user.isSome = true ∧
        (s.clock.state = .running ∧ s.clock.count ≤ s.clock.threshold ∧ s.clock.threshold ≠ 0 ∨ s.clock.state = .overdue)
    | .overset => l.user.isSome = true ∧
        ∃ n ∈ l.held, (s.story n).stage = .placed ∧ (s.story n).fit = .current ∧
          ∃ f ∈ (s.story n).results, 0 < f.overset
    | .error => l.latches.check = true ∨ l.latches.framing = true ∨ l.latches.overrun = true ∨
        l.latches.longFrame = true ∨ l.latches.unknownFrame = true

/-- A change of story `n` is told to the line that holds it (R99, R124): its OVERSET lamp is set anew as the records of `u` have it;
line `skip` apart, every line stands otherwise as it was. -/
def HolderTold (skip : Option Nat) (n : Nat) (u s t : State) : Prop :=
  ∀ k, skip ≠ some k → t.line k =
    if (s.story n).holder = .line k ∧ (s.line k).lampSource = .overset then
      { s.line k with lamp := u.lampLit k (s.line k) } else s.line k

/-- Every line stands as it was but for an OVERSET lamp. -/
def LampsOnly (s t : State) : Prop :=
  ∀ k, t.line k = s.line k ∨
    (s.line k).lampSource = .overset ∧ t.line k = { s.line k with lamp := (t.line k).lamp }

/-- Page `g`, on which story `n` may lie, is judged afresh (R124, R133); every page stands otherwise as it was. -/
def PageJudged (n : Nat) (s t : State) : Prop :=
  ∀ g, t.page g =
    if (s.story n).stage = .placed ∧ (s.story n).run.map (fun r => r.page) = some g then
      { s.page g with fit := t.judgement (s.page g) } else s.page g

/-- A dim timer set to the dim time; a dim time of 0 stops it (R80). -/
def dimSet (dimTime : Nat) : Option Nat := if dimTime = 0 then none else some dimTime

/-- A story put into a basket at the tail of its class (R21): before it stand stories of its class or a higher one, right
behind it one of a lower class or none; the others keep their order. -/
def Joined (rank : Nat → Nat) (n : Nat) (old new : List Nat) : Prop :=
  ∃ before after, old = before ++ after ∧ new = before ++ n :: after ∧
    (∀ m ∈ before, rank n ≤ rank m) ∧ ∀ m ∈ after.head?, rank m < rank n

/-- Line `k` as arrivals and departures at the desks `ds` leave it (R23, R24, R81), told from the records of `t`. A line of another
desk stands as it was. A line of one of these desks wakes if it was DIM, an URGENT or FLASH story has arrived at its desk
(`woken`), and its wake-on-urgent is set: it is READY, with the home screen of its own desk from position 0 and its dim timer
set. When READY it has a new status line; and its lamp is set anew where its source is BASKET or URGENT. -/
def deskTold (t : State) (ds : List Nat) (woken : Option Nat) (k : Nat) (l : Line) : Line :=
  match l.user with
  | none => l
  | some u =>
    if u.desk ∈ ds then
      let m : Line :=
        if l.state = .dim ∧ woken = some u.desk ∧ l.wakeUrgent = true then
          { l with
            state := .ready, dimTimer := dimSet l.dimTime
            display := some (.home (t.homeScreen u.desk 0 l.windowSize)) }
        else l
      { m with
        status := if m.state = .ready then some (t.statusLine k u l.withdrawn) else l.status
        lamp := if l.lampSource = .basket ∨ l.lampSource = .urgent then t.lampLit k m else l.lamp }
    else l

/-- Arrivals and departures at the desks `ds` have been told to the lines, line `skip` apart. -/
def DesksTold (skip : Option Nat) (ds : List Nat) (woken : Option Nat) (s t : State) : Prop :=
  ∀ k < Config.lines, skip ≠ some k → t.line k = deskTold t ds woken k (s.line k)

/-- Arrivals and departures at the desks `ds` have been told to the lines, and the move of story `n` to the line that holds it, whose
OVERSET lamp is set anew (R99, R131, R132). -/
def MoveTold (n : Nat) (ds : List Nat) (woken : Option Nat) (s t : State) : Prop :=
  ∀ k < Config.lines,
    let m := deskTold t ds woken k (s.line k)
    t.line k =
      if (s.story n).holder = .line k ∧ (s.line k).lampSource = .overset then { m with lamp := t.lampLit k m } else m

/-- The urgent count with a story of class `p` counted out (R20). -/
def countOut (p : Priority) (urgent : Nat) : Nat := if p.high then urgent - 1 else urgent

/-- The urgent count with a story of class `p` counted in (R20). -/
def countIn (p : Priority) (urgent : Nat) : Nat := if p.high then urgent + 1 else urgent

/-- The desk an URGENT or FLASH arrival wakes lines of. -/
def wokenBy (p : Priority) (d : Nat) : Option Nat := if p.high then some d else none

/-- A story that a change makes out of date (R120): STALE, or COMPUTING with its changed-during-fit mark set. -/
def Story.outdated (r : Story) : Story :=
  match r.fit with
  | .stale => r
  | .computing => { r with changed := true }
  | .none => { r with fit := .stale }
  | .current => { r with fit := .stale }

/-- The fit queue once story `n`, whose record was `r`, is out of date (R120): from NONE or CURRENT it joins the tail. -/
def queuedStale (queue : List Nat) (n : Nat) (r : Story) : List Nat :=
  if r.fit = .none ∨ r.fit = .current then queue ++ [n] else queue

/-- The FIT notice of page `g`, when its fit state has changed (R134). -/
def fitNotice (g : Nat) (s t : State) : List Notice :=
  if (t.page g).fit = (s.page g).fit then [] else [.fit g (t.page g).fit]

/-- The FIT notice of the page a run names. -/
def runNotice (run : Option Run) (s t : State) : List Notice :=
  match run with
  | some r => fitNotice r.page s t
  | none => []

/-- A text change carried out on story `n` (R3, R5 to R8): its lines are `text`, its edit count one higher and wrapping, its
base style the one carried if any, its chain as long as the new stored length needs, the old chain extended at its end or
cut at its end, the pool changed by the difference, the store-low latch and its notice, the fit out of date, and the page of a
placed story PENDING. -/
def TextChanged (n : Nat) (text : List CopyLine) (style : Option Nat) (s t : State) : Prop :=
  let r := s.story n
  let q := t.story n
  q = Story.outdated { r with
    text := text, chain := q.chain, style := style.getD r.style, editCount := (r.editCount + 1) % 65536 } ∧
  SameStoriesBut n s t ∧
  q.chain.length = blocksFor (storedLength text) ∧
  (q.chain.length ≤ r.chain.length → q.chain = r.chain.take q.chain.length) ∧
  (r.chain.length ≤ q.chain.length → r.chain <+: q.chain) ∧
  t.store.free + q.chain.length = s.store.free + r.chain.length ∧
  (t.store.low =
    if t.store.free < Config.storeLow then true else if Config.storeOk ≤ t.store.free then false else s.store.low) ∧
  t.fit = { s.fit with queue := queuedStale s.fit.queue n r } ∧
  (∀ g, t.page g = { s.page g with fit := (t.page g).fit }) ∧
  (∀ run ∈ r.run, r.stage = .placed → (r.fit = .none ∨ r.fit = .current) → n ∈ (s.page run.page).stories →
    (t.page run.page).fit = .pending) ∧
  Raised
    ((if s.store.low = false ∧ t.store.free < Config.storeLow then [.store t.store.free] else []) ++ runNotice r.run s t) s t

/-- What a line's own ROUTE, SPIKE or KILL does to its hold (R28, R34, R38): where it held the story, the hold goes with the window
record and the home screen is sent; otherwise hold and window record stand. -/
def HoldAfterMove (k : Nat) (own : Prop) (s t : State) : Prop :=
  (own → (t.line k).held = none ∧ (t.line k).window = none ∧ HomeShown k t) ∧
  (¬own → (t.line k).held = (s.line k).held ∧ (t.line k).window = (s.line k).window)

/-- Story `n` has been routed to `desk` (R28), line `skip` apart. -/
def Routed (skip : Option Nat) (n desk : Nat) (s t : State) : Prop :=
  let r := s.story n
  let left := { s.desk r.desk with
    basket := (s.desk r.desk).basket.erase n, urgent := countOut r.priority (s.desk r.desk).urgent }
  t.story n = { r with desk := desk, holder := .absent } ∧ SameStoriesBut n s t ∧
  (r.desk ≠ desk → t.desk r.desk = left) ∧
  Joined t.rankOf n (if r.desk = desk then left.basket else (s.desk desk).basket) (t.desk desk).basket ∧
  (t.desk desk).urgent = countIn r.priority (if r.desk = desk then left.urgent else (s.desk desk).urgent) ∧
  (t.desk desk).spikes = (s.desk desk).spikes ∧ (∀ d, d ≠ desk → d ≠ r.desk → t.desk d = s.desk d) ∧
  OnlyTouches [.stories, .desks, .lines, .channel] s t ∧
  DesksTold skip [r.desk, desk] (wokenBy r.priority desk) s t

/-- Story `n` has taken class `p` (R31), line `skip` apart. -/
def Reclassed (skip : Option Nat) (n : Nat) (p : Priority) (s t : State) : Prop :=
  let r := s.story n
  let d := s.desk r.desk
  t.story n = { r with priority := p } ∧ SameStoriesBut n s t ∧
  OnlyTouches [.stories, .desks, .lines, .channel] s t ∧
  (r.stage = .basket →
    Joined t.rankOf n (d.basket.erase n) (t.desk r.desk).basket ∧
    (t.desk r.desk).urgent = countIn p (countOut r.priority d.urgent) ∧
    (t.desk r.desk).spikes = d.spikes ∧ SameDesksBut r.desk s t ∧ DesksTold skip [r.desk] (wokenBy p r.desk) s t) ∧
  (r.stage ≠ .basket → t.desks = s.desks ∧ ∀ k, skip ≠ some k → t.line k = s.line k)

/-- Story `n` has been spiked out of its basket (R24, R25, R33), line `skip` apart. -/
def Spiked (skip : Option Nat) (n : Nat) (s t : State) : Prop :=
  let r := s.story n
  t.story n = { r with stage := .spiked, holder := .absent, run := none, fit := .none, changed := false } ∧
  SameStoriesBut n s t ∧
  t.desk r.desk =
    { basket := (s.desk r.desk).basket.erase n, spikes := (s.desk r.desk).spikes ++ [n],
      urgent := countOut r.priority (s.desk r.desk).urgent } ∧
  SameDesksBut r.desk s t ∧
  t.fit = { s.fit with
    queue := s.fit.queue.erase n
    inFlight := s.fit.inFlight.map fun c =>
      if r.fit = .computing ∧ c.story = n then { c with discard := true } else c } ∧
  OnlyTouches [.stories, .desks, .fit, .lines, .channel] s t ∧ DesksTold skip [r.desk] none s t

/-- The flash list with line `k` in no unseen set (R64, R65, R79, R97). -/
def unseenWithout (k : Nat) (f : Flashes) : Flashes :=
  { f with list := f.list.map fun e => { e with unseen := e.unseen.filter fun m => m != k } }

/-- A line whose session has ended by carrier drop, LINEOFF or RESTART (R64, R65, R84): request, sign-on, user, override, window
record, timers, buffer, slots and the frame being sent are gone; the hold, the latches, the lamp and the configuration are as
they were. -/
def Line.sessionless (l : Line) : Line :=
  { l with
    user := none, window := none, service := none, rx := [], answer := none, display := none, status := none,
    override := false, signonTimer := none, outcome := if l.state = .signing then .abandoned else l.outcome,
    dimTimer := none, withdrawn := none, tx := none }

/-- Line `k` holds what it says it holds: its held story, if any, exists and has the line, live or orphaned, as its
holder (R43). -/
def HoldAgrees (k : Nat) (s : State) : Prop :=
  ∀ n ∈ (s.line k).held, 1 ≤ n ∧ n ≤ 512 ∧
    ((s.story n).holder = .line k ∨ ∃ user seconds, (s.story n).holder = .orphan k user seconds)

/-- Story `n` is the orphan of `user` at line `m`, with `seconds` left (R53). -/
def OrphanOf (user m seconds n : Nat) (s : State) : Prop :=
  (s.line m).held = some n ∧ (s.story n).holder = .orphan m user seconds

/-- The story line `k` held has no holder, and every other story stands as it was. -/
def HeldStoryFreed (k : Nat) (s t : State) : Prop :=
  (∀ n ∈ (s.line k).held, t.story n = { s.story n with holder := .absent }) ∧
  ∀ m, (s.line k).held ≠ some m → t.story m = s.story m

/-- The sign-on of line `k` has ended without a grant (R77, R78): IDLE, the timer stopped, and the service answer to the SIGNON. -/
def SignonEnded (k : Nat) (outcome : SignonOutcome) (status : Status) (s t : State) : Prop :=
  t.line k = { s.line k with
    state := .idle, outcome := outcome, signonTimer := none, override := false
    answer := some { service := true, kind := kindWord "SIGNON", status := status, details := [] }
    service := (s.line k).service.map fun v => { v with stage := .answered } }

/-- Every story in BASKET or PLACED has been made out of date as one step of STYLE or WIDTHS (R105): a CURRENT one is STALE at the
tail of the fit queue, in story order, and one COMPUTING has its changed mark set; every page in MAKEUP is judged afresh, the
FIT notices of those whose judgement changed are raised, and the OVERSET lamps of lines that hold a story are set anew. -/
def TableLoaded (s t : State) : Prop :=
  (∀ n, t.story n =
    if (s.story n).stage = .basket ∨ (s.story n).stage = .placed then
      match (s.story n).fit with
      | .current => { s.story n with fit := .stale }
      | .computing => { s.story n with changed := true }
      | _ => s.story n
    else s.story n) ∧
  t.fit.queue = s.fit.queue ++ storyIds.filter (fun n =>
    ((s.story n).stage == .basket || (s.story n).stage == .placed) && (s.story n).fit == .current) ∧
  t.fit.inFlight = s.fit.inFlight ∧
  (∀ g, t.page g =
    if (s.page g).state = .makeup then { s.page g with fit := t.judgement (s.page g) } else s.page g) ∧
  Raised (pageIds.flatMap fun g => fitNotice g s t) s t ∧
  ∀ k < Config.lines, t.line k =
    if (s.line k).lampSource = .overset ∧ (s.line k).held.isSome = true then
      { s.line k with lamp := t.lampLit k (s.line k) } else s.line k

/-- The stories of page `g` in stage `old` have gone to stage `new`; every other story, and every other field, is as it was. -/
def StoriesMoved (g : Nat) (old new : Stage) (s t : State) : Prop :=
  ∀ n, t.story n =
    if n ∈ (s.page g).stories ∧ (s.story n).stage = old then { s.story n with stage := new } else s.story n

/-- Page `g` has returned to MAKEUP from RELEASING, QUEUED or SETTING (R140): judged, its trim flag clear, its stories PLACED, its last
job record with the outcome given, if one is given, and its remaining count kept. -/
def PageReturned (g : Nat) (outcome : Option JobOutcome) (s t : State) : Prop :=
  StoriesMoved g .setting .placed s t ∧
  t.page g = { s.page g with
    state := .makeup, trim := false, fit := t.judgement (t.page g)
    job := match outcome with
      | none => (s.page g).job
      | some o => (s.page g).job.map fun j => { j with outcome := o } }

/-- The output path is as it was but for port `p`. -/
def SameOutputBut (p : Port) (s t : State) : Prop :=
  t.output.queue = s.output.queue ∧ t.output.xlate = s.output.xlate ∧ t.port (otherPort p) = s.port (otherPort p)

/-- A port that is READY has no queued job beside it that it may serve (R150). -/
def PortWaits (p : Port) (s : State) : Prop :=
  (s.port p).state = .ready → ∀ j ∈ s.output.queue, j.choice.allows p = false

/-- The last job record of a job that waits in the queue, or that a port has just taken (R147). -/
def freshRecord (j : Job) (port : Option Port) : JobRecord :=
  { total := j.total, remaining := j.total, outcome := .none, restarts := j.restarts, port := port }

/-- Port `p`, which stood as `v`, has begun job `j`, whose codes are `units` (R150, R155, R159): the remaining count is the total; whole
units (assumption 35; what lies between words and behind the last by assumptions 34, 39) from the header on fill the FIFO in the
same step, while it holds fewer than 448 codes (DESIGN CHOICE, assumption 23: R155 gives the fill no time), and the rest are still
to be placed; the loss timer runs if the ready lead is low; and the page, otherwise as it was, is SETTING with the job in its
record. -/
def JobBegun (p : Port) (v : SetterPort) (j : Job) (units : List (List Byte)) (s t : State) : Prop :=
  (∃ job placed, t.port p = { v with
      state := .setting, job := some job, fifo := v.fifo ++ placed.flatten
      lossTimer := if v.lead = true then none else some v.lossTime } ∧
    job.job = j ∧ job.remaining = j.total ∧ job.phase = .sending ∧ units = placed ++ job.unplaced ∧
    (job.unplaced = [] ∨ 448 ≤ (v.fifo ++ placed.flatten).length) ∧
    ∀ before last, placed = before ++ [last] → (v.fifo ++ before.flatten).length < 448) ∧
  t.page j.page = { s.page j.page with state := .setting, job := some (freshRecord j (some p)) }

/-- Port `p`, left as `v` by what freed it, has taken the queued job nearest the head that its choice allows, or is READY with the
queue as it was (R150). The page `left`, if any, that has just left the port apart, every page stands otherwise as it was. -/
def PortFreed (p : Port) (v : SetterPort) (left : Option Nat) (s t : State) : Prop :=
  t.output.xlate = s.output.xlate ∧ t.port (otherPort p) = s.port (otherPort p) ∧
  ((∀ j ∈ s.output.queue, j.choice.allows p = false) →
    t.port p = v ∧ t.output.queue = s.output.queue ∧ ∀ h, left ≠ some h → t.page h = s.page h) ∧
  ∀ before j after, s.output.queue = before ++ j :: after → (∀ i ∈ before, i.choice.allows p = false) →
    j.choice.allows p = true → 1 ≤ j.page → j.page ≤ 48 →
    t.output.queue = before ++ after ∧ JobBegun p v j (s.jobUnits j.page) s t ∧
    ∀ h, h ≠ j.page → left ≠ some h → t.page h = s.page h

/-- The outcome of page `g`'s release, decided in `s`, where the page has its port choice and trim flag (R136 to R138). The notices
`told` come first. OVERSET or QUEUE FULL returns the page. QUEUED sends its stories to SETTING and its job to the queue's tail,
where a READY port that the choice allows takes it at once, port A before port B. -/
def ReleaseDecided (g : Nat) (told : List Notice) (s t : State) : Prop :=
  let p := s.page g
  let job : Job := { page := g, choice := p.choice, total := s.jobTotal g, restarts := 0 }
  let takes (x : Port) : Prop := (s.port x).state = .ready ∧ p.choice.allows x = true
  let begun (x : Port) : Prop :=
    t.output.queue = s.output.queue ∧ t.output.xlate = s.output.xlate ∧ t.port (otherPort x) = s.port (otherPort x) ∧
    JobBegun x (s.port x) job (s.jobUnits g) s t
  SamePagesBut g s t ∧
  if p.fit = .over ∧ p.trim = false then
    Raised (told ++ [.release g .overset]) s t ∧ t.output = s.output ∧ PageReturned g none s t
  else if 16 ≤ s.output.queue.length then
    Raised (told ++ [.release g .queueFull]) s t ∧ t.output = s.output ∧ PageReturned g none s t
  else
    Raised (told ++ [.release g .queued]) s t ∧ StoriesMoved g .placed .setting s t ∧
    (takes .a → begun .a) ∧ (¬takes .a → takes .b → begun .b) ∧
    (¬takes .a → ¬takes .b →
      t.output = { s.output with queue := s.output.queue ++ [job] } ∧
      t.page g = { p with state := .queued, job := some (freshRecord job none) })

/-- The records once the results of computation `c`, on a story of page `g`, are written and the page judged (R122, R124). -/
def State.fitted (s : State) (c : InFlight) (g : Nat) : State :=
  let u := State.updStory { s with fit := { s.fit with inFlight := none } } c.story fun r =>
    { r with fit := .current, results := some c.results }
  u.updPage g fun p => { p with fit := u.judgement p }

/-- Page `g` and its stories agree (R127, R128): no story twice on it, each with a run on it, in the stage of the page's state, and past
MAKEUP with no holder. -/
def PageAgrees (g : Nat) (s : State) : Prop :=
  (s.page g).stories.Nodup ∧
  ∀ n ∈ (s.page g).stories, 1 ≤ n ∧ n ≤ 512 ∧ (s.story n).run.map (fun r => r.page) = some g ∧
    ((s.page g).state ≠ .makeup → (s.story n).holder = .absent) ∧
    match (s.page g).state with
    | .closed => False
    | .makeup => (s.story n).stage = .placed
    | .releasing => (s.story n).stage = .placed
    | .queued => (s.story n).stage = .setting
    | .setting => (s.story n).stage = .setting
    | .set => (s.story n).stage = .set

/-- The job of page `g`, in SETTING, is at port `p` and nowhere else, and the other port has nothing to take (R149, R150). -/
def JobAt (g : Nat) (p : Port) (s : State) : Prop :=
  s.portOf g = some p ∧ (∀ j ∈ s.output.queue, j.page ≠ g) ∧ PortWaits (otherPort p) s

/-- Another story of page `g` once the page is back in MAKEUP for a KILL (R36, R140, R141): PLACED, and out of date if it was SET. -/
def backInMakeup (state : PageState) (r : Story) : Story :=
  match state with
  | .closed => r
  | .makeup => r
  | .releasing => r
  | .queued => { r with stage := .placed }
  | .setting => { r with stage := .placed }
  | .set => Story.outdated { r with stage := .placed }

/-- The output path after page `g` has been returned for a KILL (R36, R141, R158): its job out of the queue, or off its port with the
FIFO flushed and the abort code pending; otherwise as it was. Every other page stands, but for one whose job the port takes. -/
def OutputLeft (g : Nat) (s t : State) : Prop :=
  match (s.page g).state with
  | .queued => t.output = { s.output with queue := s.output.queue.filter fun j => j.page ≠ g } ∧ SamePagesBut g s t
  | .setting => ∀ p, s.portOf g = some p →
      PortFreed p { s.port p with state := .ready, job := none, fifo := [], abort := true, lossTimer := none } (some g) s t
  | _ => t.output = s.output ∧ SamePagesBut g s t

/-- Story `n` has been killed off page `g` (R36): the page is in MAKEUP, whatever its state was, with the story's slots empty at
their depth and measure, its trim flag clear, a job of it ended with outcome CANCELLED, and judged over the stories that remain,
each of them PLACED; the story is at the tail of its desk's spike list with fit NONE (R25, R123). -/
def Killed (n g : Nat) (s t : State) : Prop :=
  let r := s.story n
  let p := s.page g
  t.story n = { r with stage := .spiked, holder := .absent, run := none, fit := .none, changed := false } ∧
  (∀ m, m ≠ n → t.story m = if m ∈ p.stories then backInMakeup p.state (s.story m) else s.story m) ∧
  t.desk r.desk = { s.desk r.desk with spikes := (s.desk r.desk).spikes ++ [n] } ∧ SameDesksBut r.desk s t ∧
  t.fit = { s.fit with
    queue := List.erase
      (if p.state = .set then
        s.fit.queue ++ p.stories.filter fun m => (s.story m).fit == .none || (s.story m).fit == .current
      else s.fit.queue) n
    inFlight := s.fit.inFlight.map fun c =>
      if r.fit = .computing ∧ c.story = n then { c with discard := true } else c } ∧
  (∀ k, (t.page g).slot k = (p.slot k).map fun sl =>
    if sl.occupant.map Prod.fst = some n then { sl with occupant := none } else sl) ∧
  t.page g = { p with
    state := .makeup, slots := (t.page g).slots, fit := t.judgement (t.page g)
    trim := if p.state = .makeup then p.trim else false
    job :=
      if p.state = .queued ∨ p.state = .setting then p.job.map fun j => { j with outcome := .cancelled } else p.job } ∧
  OutputLeft g s t

/-- A clock event that changes the state or the edition has been told to the lines (R94, R99, R171): each READY line has a new status
line, whatever its lamp source (DEDUCED, assumption 44), each DEADLINE lamp is set anew, and nothing else of any line has
changed. -/
def ClockTold (s t : State) : Prop :=
  ∀ k < Config.lines,
    t.line k = { s.line k with status := (t.line k).status, lamp := (t.line k).lamp } ∧
    (if (s.line k).state = .ready ∧ (s.line k).user.isSome = true then
      ∀ u ∈ (s.line k).user, (t.line k).status = some (t.statusLine k u (s.line k).withdrawn)
    else (t.line k).status = (s.line k).status) ∧
    (t.line k).lamp = if (s.line k).lampSource = .deadline then t.lampLit k (t.line k) else (s.line k).lamp

/-- The clock has moved to the next edition with countdown `c` (R169, R173): the near-warning latch armed, and fired again at once where
the new countdown is at or below a threshold that is not 0. -/
def EditionSwitched (c : Nat) (s t : State) : Prop :=
  t.clock = { state := .running, edition := s.clock.edition + 1, count := c, next := none, threshold := s.clock.threshold,
              fired := decide (s.clock.threshold ≠ 0) && decide (c ≤ s.clock.threshold) }

/-- The EDITION notices of a switch (R169, R171). -/
def switchNotices (edition c threshold : Nat) : List Notice :=
  .edition .switched edition c :: if threshold ≠ 0 ∧ c ≤ threshold then [.edition .near edition c] else []

/-! ### The laws -/

/-- The intake holds its answered requests before its unanswered ones (R180). -/
def answeredFirst : List Request → Bool
  | [] => true
  | r :: rs => if r.answered then answeredFirst rs else rs.all fun q => !q.answered

/-- The channel interface's law (R180, R181, R184): at most 48 notices, no two of the same kind and object; at most 4
requests in the intake, taken in order, each answered one with its reply still to be sent; at most 4 BUSY replies of R181. -/
def ChannelLaw (s : State) : Prop :=
  let c := s.channel
  c.notices.length ≤ Config.notices ∧
  c.notices.Pairwise (fun m n => m.same n = false) ∧
  c.intake.length ≤ Config.intake ∧
  answeredFirst c.intake = true ∧
  c.intake.countP (fun r => r.answered) = c.replies.countP (fun r => !r.overflow) ∧
  c.busyCount ≤ Config.intake

/-- The edition clock's law (R167): the edition and threshold in their ranges; a countdown of 1 to 65,535 while RUNNING, a
lateness of at most 65,535 while OVERDUE, 0 while STOPPED; a next deadline only while RUNNING, in range, and never at
edition 15 (R169, R173). -/
def ClockLaw (s : State) : Prop :=
  let c := s.clock
  1 ≤ c.edition ∧ c.edition ≤ Config.editions ∧ c.threshold ≤ 3600 ∧ c.count ≤ 65535 ∧
  (c.state = .running → 1 ≤ c.count) ∧
  (c.state = .stopped → c.count = 0) ∧
  match c.next with
  | none => True
  | some n => c.state = .running ∧ c.edition < Config.editions ∧ 1 ≤ n ∧ n ≤ 65535

/-- The flash number before `n`: they run to 255 and repeat (R95). -/
def flashBefore (n : Nat) : Nat := if n = 1 then 255 else n - 1

/-- The entries' numbers run down from the one before `next`. -/
def flashChain : (next : Nat) → List FlashEntry → Prop
  | _, [] => True
  | next, e :: es => e.number = flashBefore next ∧ flashChain e.number es

/-- The flash list's law (R95): at most 8 entries, numbered without a gap up to the next number, which lies in 1 to 255; each
with a text of 1 to 60 characters of codes 32 to 126 and a mask that names a desk. -/
def FlashLaw (s : State) : Prop :=
  let f := s.flashes
  f.list.length ≤ Config.flashes ∧ 1 ≤ f.next ∧ f.next ≤ 255 ∧ flashChain f.next f.list ∧
  ∀ e ∈ f.list, flashTextOk e.text = true ∧ e.mask ≠ 0

/-- A setter port's law (R151, R152, R155, R159): a job exactly while SETTING, and a loss timer running in no other state; the
loss time in its range and the loss timer within it; fewer than 512 codes in the FIFO; every unit still to be placed of at most
4 codes. -/
def SetterPort.Law (v : SetterPort) : Prop :=
  (v.job.isSome = true ↔ v.state = .setting) ∧
  (v.lossTimer.isSome = true → v.state = .setting) ∧
  5 ≤ v.lossTime ∧ v.lossTime ≤ 120 ∧
  (v.lossTimer.getD 0) ≤ 120 ∧
  v.fifo.length < Config.fifo ∧
  ∀ j ∈ v.job, ∀ u ∈ j.unplaced, u.length ≤ 4

/-- The output controller's law (R145, R149, R151): at most 16 jobs queued, both ports lawful, every translation entry of at
most 2 codes, and the entry for the space of none. -/
def OutputLaw (s : State) : Prop :=
  s.output.queue.length ≤ Config.queue ∧ s.output.portA.Law ∧ s.output.portB.Law ∧
  (∀ e ∈ s.output.xlate.toList, e.length ≤ 2) ∧ s.entry 32 = []

/-- The copy store's law (R1, R4, R5): each story's chain is as long as its stored length needs; a FREE record has no text;
and the free-block count with all the block counts makes 8,192. -/
def StoreLaw (s : State) : Prop :=
  (∀ r ∈ s.stories.toList,
    r.chain.length = blocksFor (storedLength r.text) ∧ (r.stage = .free → r.text = [])) ∧
  s.store.fresh ≤ Config.blocks ∧
  s.store.free + (s.stories.toList.map fun r => r.chain.length).sum = Config.blocks

/-- Every block that has left the untouched part of the pool: those on a chain and those returned. -/
def State.movedBlocks (s : State) : List Nat := s.stories.toList.flatMap (fun r => r.chain) ++ s.store.returned

/-- Blocks are never shared (R5): no block is on two chains, or twice on one, or both on a chain and in the pool. -/
def BlockLaw (s : State) : Prop := s.movedBlocks.Nodup ∧ ∀ b ∈ s.movedBlocks, b < s.store.fresh

/-- Desk `d`'s law (R20 to R22): no story twice in the basket, the classes in nonincreasing order, each story there in stage
BASKET with this desk as its own, and the urgent count counting the URGENT and FLASH ones. -/
def DeskLaw (s : State) (d : Nat) : Prop :=
  let b := (s.desk d).basket
  b.Nodup ∧ b.Pairwise (fun m n => s.rankOf n ≤ s.rankOf m) ∧
  (∀ n ∈ b, (s.story n).stage = .basket ∧ (s.story n).desk = d) ∧
  (s.desk d).urgent = b.countP fun n => (s.story n).priority.high

/-- The baskets' law (R20 to R22): every desk lawful, every story in BASKET in the basket of its own desk, and every desk
number, of a story or of a signed-on user, one that a desk has. -/
def BasketLaw (s : State) : Prop :=
  (∀ d < Config.desks, DeskLaw s d) ∧
  (∀ n ∈ storyIds, (s.story n).stage = .basket → n ∈ (s.desk (s.story n).desk).basket) ∧
  (∀ n ∈ storyIds, (s.story n).desk < Config.desks) ∧
  ∀ l ∈ s.lines.toList, ∀ u ∈ l.user, u.desk < Config.desks

/-- The line a holder names, live or orphaned (R42). -/
def Holder.lineNumber : Holder → Option Nat
  | .absent => none
  | .line k => some k
  | .orphan k _ _ => some k
  | .channel => none

/-- The holder is a live line. -/
def Holder.live : Holder → Bool
  | .absent => false
  | .line _ => true
  | .orphan _ _ _ => false
  | .channel => false

/-- A story that may be held: in BASKET, or PLACED on a page in MAKEUP (R43). -/
def State.holdable (s : State) (n : Nat) : Prop :=
  (s.story n).stage = .basket ∨
    (s.story n).stage = .placed ∧ ∀ run ∈ (s.story n).run, (s.page run.page).state = .makeup

/-- The law of holds (R43, R61, R71, R73): a story's holder names a line exactly when the line's held story names the story; only a
story in BASKET, or PLACED on a page in MAKEUP, has a holder; a live hold belongs to a READY line, an orphan to one that is LOST,
IDLE or SIGNING; a user is signed on exactly in READY and DIM; a DIM line serves no request; and a request that waits for its
block is at a READY line, or is a SIGNON at an IDLE one. -/
def HoldLaw (s : State) : Prop :=
  (∀ n ∈ storyIds, (s.story n).holder ≠ .absent → s.holdable n) ∧
  (∀ n ∈ storyIds, ∀ k ∈ (s.story n).holder.lineNumber, k < Config.lines ∧ (s.line k).held = some n ∧
    if (s.story n).holder.live = true then (s.line k).state = .ready
    else (s.line k).state = .lost ∨ (s.line k).state = .idle ∨ (s.line k).state = .signing) ∧
  ∀ k < Config.lines,
    (∀ n ∈ (s.line k).held, 1 ≤ n ∧ n ≤ Config.stories ∧ (s.story n).holder.lineNumber = some k) ∧
    ((s.line k).user.isSome = true ↔ (s.line k).state = .ready ∨ (s.line k).state = .dim) ∧
    ((s.line k).state = .dim → (s.line k).service = none) ∧
    ∀ v ∈ (s.line k).service, v.stage = .waiting → ∀ i ∈ v.cmd,
      (s.line k).state = .ready ∨ (s.line k).state = .idle ∧ i.kind = kindWord "SIGNON"

/-- The law of fits (R119): a story is on the fit queue exactly when it is STALE, and stands there once; it is COMPUTING exactly when it
is in flight with its discard mark clear; the changed mark is set on no other; its fit is NONE exactly in FREE and SPIKED,
CURRENT in SETTING and SET; and a CURRENT story has results. -/
def FitLaw (s : State) : Prop :=
  s.fit.queue.Nodup ∧
  (∀ n ∈ s.fit.queue, 1 ≤ n ∧ n ≤ Config.stories ∧ (s.story n).fit = .stale) ∧
  (∀ c ∈ s.fit.inFlight, 1 ≤ c.story ∧ c.story ≤ Config.stories) ∧
  ∀ n ∈ storyIds,
    ((s.story n).fit = .stale → n ∈ s.fit.queue) ∧
    ((s.story n).fit = .computing ↔ s.fit.inFlight.map (fun c => (c.story, c.discard)) = some (n, false)) ∧
    ((s.story n).changed = true → (s.story n).fit = .computing) ∧
    ((s.story n).fit = .none ↔ (s.story n).stage = .free ∨ (s.story n).stage = .spiked) ∧
    ((s.story n).stage = .setting ∨ (s.story n).stage = .set → (s.story n).fit = .current) ∧
    ((s.story n).fit = .current → (s.story n).results.isSome = true)

/-- The law of slots and runs (R22, R128): a story has a run, of 1 to 4 slots, exactly in PLACED, SETTING and SET; and a slot names a
story in position i exactly when the story's run names the page and gives the slot as its i-th. -/
def SlotLaw (s : State) : Prop :=
  (∀ g ∈ pageIds, ∀ k ≤ Config.slots, ∀ sl ∈ (s.page g).slot k, ∀ o ∈ sl.occupant,
    1 ≤ o.1 ∧ o.1 ≤ Config.stories ∧ 1 ≤ o.2 ∧
    (s.story o.1).run.map (fun r => (r.page, r.slots[o.2 - 1]?)) = some (g, some k)) ∧
  ∀ n ∈ storyIds,
    ((s.story n).run.isSome = true ↔
      (s.story n).stage = .placed ∨ (s.story n).stage = .setting ∨ (s.story n).stage = .set) ∧
    ∀ run ∈ (s.story n).run, run.page ∈ pageIds ∧ 1 ≤ run.slots.length ∧ run.slots.length ≤ 4 ∧
      ∀ i < run.slots.length, ∀ k ∈ run.slots[i]?,
        ((s.page run.page).slot k).map (fun sl => sl.occupant) = some (some (n, i + 1))

/-- The law of pages (R22, R126, R127, R133, R136): a page and its stories agree; its fit state is its judgement; a page waits in
RELEASING only while PENDING; and a CLOSED page holds the CLOSED values. -/
def PageLaw (s : State) : Prop :=
  ∀ g ∈ pageIds, PageAgrees g s ∧ (s.page g).fit = s.judgement (s.page g) ∧
    ((s.page g).state = .releasing → (s.page g).fit = .pending) ∧ ((s.page g).state = .closed → s.page g = Page.shut)

/-- The law of spike lists (R22, R25): each SPIKED story stands once on the spike list of its own desk, and no other story on any. -/
def SpikeLaw (s : State) : Prop :=
  (∀ d < Config.desks, (s.desk d).spikes.Nodup ∧
    ∀ n ∈ (s.desk d).spikes, (s.story n).stage = .spiked ∧ (s.story n).desk = d) ∧
  ∀ n ∈ storyIds, (s.story n).stage = .spiked → n ∈ (s.desk (s.story n).desk).spikes

/-- The pages of the jobs in the output path: those queued, then those at the two ports. -/
def State.jobPages (s : State) : List Nat :=
  s.output.queue.map (fun j => j.page) ++ [Port.a, Port.b].filterMap fun p => (s.port p).job.map fun j => j.job.page

/-- The law of jobs (R147 to R151, R155). Each page has at most one job; it is QUEUED exactly when the queue holds its job, SETTING
exactly when a port does. A job's total is the page's count, its choice the page's, and the page's last job record shows the job
as it stands. At a port the remaining count is the codes in the FIFO and those still to be placed, with none remaining exactly
in AWAITING RESULT; a port without a job has an empty FIFO; and a READY port stands beside no job that it may serve. -/
def JobLaw (s : State) : Prop :=
  s.jobPages.Nodup ∧
  (∀ g ∈ pageIds,
    ((s.page g).state = .queued ↔ g ∈ s.output.queue.map fun j => j.page) ∧
    ((s.page g).state = .setting ↔
      g ∈ [Port.a, Port.b].filterMap fun p => (s.port p).job.map fun j => j.job.page)) ∧
  (∀ j ∈ s.output.queue, j.page ∈ pageIds ∧ j.total = s.jobTotal j.page ∧ j.choice = (s.page j.page).choice ∧
    (s.page j.page).job = some (freshRecord j none)) ∧
  ∀ p ∈ [Port.a, Port.b],
    ((s.port p).job.isSome = true ↔ (s.port p).state = .setting) ∧
    ((s.port p).job = none → (s.port p).fifo = []) ∧
    ((s.port p).state = .ready → ∀ j ∈ s.output.queue, j.choice.allows p = false) ∧
    ∀ j ∈ (s.port p).job, j.job.page ∈ pageIds ∧ j.job.total = s.jobTotal j.job.page ∧
      j.job.choice = (s.page j.job.page).choice ∧
      (s.page j.job.page).job = some { freshRecord j.job (some p) with remaining := j.remaining } ∧
      j.remaining = (s.port p).fifo.length + j.unplaced.flatten.length ∧ (j.remaining = 0 ↔ j.phase = .awaiting)

/-- The law of the records: baskets, holds, fits, slots, pages, spike lists and jobs agree with one another. -/
def RecordsLaw (s : State) : Prop :=
  BasketLaw s ∧ HoldLaw s ∧ FitLaw s ∧ SlotLaw s ∧ PageLaw s ∧ SpikeLaw s ∧ JobLaw s

/-- A lawful state: every law holds. -/
def Lawful (s : State) : Prop :=
  ChannelLaw s ∧ ClockLaw s ∧ FlashLaw s ∧ OutputLaw s ∧ StoreLaw s ∧ BlockLaw s ∧ RecordsLaw s

end Sys2Proof.Machine

namespace Sys2Proof

/-- The commands that a host frame carries (table "Request words by owning block", chapter 10). -/
def Instr.fromHost : Instr → Bool
  | .powerReset => false
  | .hostFrameDiscarded _ => false
  | .requestArrival _ => false
  | .hostFrameSent => false
  | .unknownRequest _ _ => true
  | .create _ _ _ _ _ => true
  | .textAppend _ _ _ _ => true
  | .textReplace _ _ _ _ => true
  | .textReplaceRange _ _ _ _ _ _ => true
  | .read _ _ _ => true
  | .info _ _ => true
  | .purge _ _ => true
  | .new _ _ _ _ => false
  | .hostRoute _ _ _ => true
  | .terminalRoute _ _ _ => false
  | .hostPriority _ _ _ => true
  | .terminalPriority _ _ => false
  | .hostSpike _ _ => true
  | .terminalSpike _ _ => false
  | .unspike _ _ => true
  | .hostKill _ _ => true
  | .terminalKill _ _ => false
  | .arm _ => false
  | .basket _ _ _ _ => true
  | .terminalOpen _ _ => false
  | .hostOpen _ _ => true
  | .terminalClose _ => false
  | .hostClose _ _ => true
  | .free _ _ => true
  | .holdtime _ _ => true
  | .orphanExpiry _ => false
  | .lineset _ _ _ _ _ _ _ => true
  | .lineon _ _ => true
  | .lineoff _ _ => true
  | .linestat _ _ => true
  | .carrierDrop _ => false
  | .carrierReturn _ => false
  | .terminalFrameReceived _ _ => false
  | .terminalFrameDiscarded _ _ => false
  | .lineFrameSent _ => false
  | .signon _ _ => false
  | .verdictGrant _ _ _ _ => true
  | .verdictDeny _ _ => true
  | .signonTimeout _ => false
  | .signoff _ => false
  | .dim _ => false
  | .window _ _ => false
  | .ret _ _ _ => false
  | .home _ _ _ => false
  | .seen _ => false
  | .flash _ _ _ => true
  | .lamp _ _ _ => true
  | .style _ _ _ => true
  | .widths _ _ _ _ => true
  | .fitTake => false
  | .fitCompletion => false
  | .pageopen _ _ _ _ => true
  | .slotDefine _ _ _ _ _ => true
  | .slotUndefine _ _ _ => true
  | .place _ _ _ _ => true
  | .unplace _ _ => true
  | .release _ _ _ _ => true
  | .cancel _ _ => true
  | .reopen _ _ => true
  | .pageshut _ _ => true
  | .pageinfo _ _ => true
  | .xlate _ _ _ => true
  | .portset _ _ _ _ => true
  | .porton _ _ => true
  | .portoff _ _ => true
  | .resume _ _ => true
  | .portclr _ _ => true
  | .portstat _ _ => true
  | .queue _ => true
  | .codeAccepted _ => false
  | .abortCodeSent _ => false
  | .readyLeadRise _ => false
  | .readyLeadFall _ => false
  | .resultDone _ => false
  | .resultFault _ => false
  | .resultCodeOther _ _ => false
  | .portLoss _ => false
  | .secondsTick => false
  | .terminalCount => false
  | .clkstart _ _ _ => true
  | .clknext _ _ => true
  | .clkstop _ => true
  | .clkread _ => true
  | .warn _ _ => true
  | .sweep _ => true
  | .ident _ => true
  | .restart _ => true
  | .restartTakesEffect => false

/-- The line whose terminal sends the command in a frame (chapter 4); none for every other command. -/
def Instr.fromLine : Instr → Option (Fin 32)
  | .powerReset => none
  | .hostFrameDiscarded _ => none
  | .requestArrival _ => none
  | .hostFrameSent => none
  | .unknownRequest _ _ => none
  | .create _ _ _ _ _ => none
  | .textAppend _ _ _ _ => none
  | .textReplace _ _ _ _ => none
  | .textReplaceRange _ _ _ _ _ _ => none
  | .read _ _ _ => none
  | .info _ _ => none
  | .purge _ _ => none
  | .new k _ _ _ => some k
  | .hostRoute _ _ _ => none
  | .terminalRoute k _ _ => some k
  | .hostPriority _ _ _ => none
  | .terminalPriority k _ => some k
  | .hostSpike _ _ => none
  | .terminalSpike k _ => some k
  | .unspike _ _ => none
  | .hostKill _ _ => none
  | .terminalKill k _ => some k
  | .arm k => some k
  | .basket _ _ _ _ => none
  | .terminalOpen k _ => some k
  | .hostOpen _ _ => none
  | .terminalClose k => some k
  | .hostClose _ _ => none
  | .free _ _ => none
  | .holdtime _ _ => none
  | .orphanExpiry _ => none
  | .lineset _ _ _ _ _ _ _ => none
  | .lineon _ _ => none
  | .lineoff _ _ => none
  | .linestat _ _ => none
  | .carrierDrop _ => none
  | .carrierReturn _ => none
  | .terminalFrameReceived _ _ => none
  | .terminalFrameDiscarded _ _ => none
  | .lineFrameSent _ => none
  | .signon k _ => some k
  | .verdictGrant _ _ _ _ => none
  | .verdictDeny _ _ => none
  | .signonTimeout _ => none
  | .signoff k => some k
  | .dim _ => none
  | .window k _ => some k
  | .ret k _ _ => some k
  | .home k _ _ => some k
  | .seen k => some k
  | .flash _ _ _ => none
  | .lamp _ _ _ => none
  | .style _ _ _ => none
  | .widths _ _ _ _ => none
  | .fitTake => none
  | .fitCompletion => none
  | .pageopen _ _ _ _ => none
  | .slotDefine _ _ _ _ _ => none
  | .slotUndefine _ _ _ => none
  | .place _ _ _ _ => none
  | .unplace _ _ => none
  | .release _ _ _ _ => none
  | .cancel _ _ => none
  | .reopen _ _ => none
  | .pageshut _ _ => none
  | .pageinfo _ _ => none
  | .xlate _ _ _ => none
  | .portset _ _ _ _ => none
  | .porton _ _ => none
  | .portoff _ _ => none
  | .resume _ _ => none
  | .portclr _ _ => none
  | .portstat _ _ => none
  | .queue _ => none
  | .codeAccepted _ => none
  | .abortCodeSent _ => none
  | .readyLeadRise _ => none
  | .readyLeadFall _ => none
  | .resultDone _ => none
  | .resultFault _ => none
  | .resultCodeOther _ _ => none
  | .portLoss _ => none
  | .secondsTick => none
  | .terminalCount => none
  | .clkstart _ _ _ => none
  | .clknext _ _ => none
  | .clkstop _ => none
  | .clkread _ => none
  | .warn _ _ => none
  | .sweep _ => none
  | .ident _ => none
  | .restart _ => none
  | .restartTakesEffect => none

end Sys2Proof

namespace Sys2Proof.Machine

/-! ### Requests refused -/

/-- The checks of a request in their order: each with whether it fails, and the status it then gives. -/
abbrev Checks := List (Bool × Status)

/-- The status of the first check that fails; none where the request passes them all. -/
def Checks.refusal (cs : Checks) : Option Status := (cs.find? Prod.fst).map Prod.snd

/-- The first two checks of a request that names a story (R2): no story could have the number, or another field is bad; no story has
it now. -/
def State.storyChecks (s : State) (n : Nat) (bad : Bool) : Checks :=
  [(decide (n < 1 ∨ 512 < n) || bad, .badField), (decide ((s.story n).stage = .free), .noSuch)]

/-- No record is FREE (R9, R10). -/
def State.noneFree (s : State) : Bool := storyIds.all fun n => (s.story n).stage != .free

/-- The story lies on a page in RELEASING, QUEUED, SETTING or SET (R12, R45). -/
def State.frozenStory (s : State) (n : Nat) : Bool :=
  (s.story n).run.any fun run =>
    decide ((s.page run.page).state = .releasing ∨ (s.page run.page).state = .queued ∨
      (s.page run.page).state = .setting ∨ (s.page run.page).state = .set)

/-- The checks of a page's state before its slots or stories are changed (R130, R131): STATE when CLOSED, FROZEN past MAKEUP. -/
def Page.stateChecks (p : Page) : Checks :=
  [(decide (p.state = .closed), .state), (decide (p.state ≠ .makeup), .frozen)]

/-- The checks of R6 on the text a change would leave: TOO LONG, then STORE FULL. -/
def State.lengthChecks (s : State) (n : Nat) (text : List CopyLine) : Checks :=
  [(decide (999 < text.length ∨ 32768 < storedLength text), .tooLong),
    (decide ((s.story n).chain.length + s.store.free < blocksFor (storedLength text)), .storeFull)]

/-- The checks of every form of TEXT (R12, checks 1 to 4). -/
def State.textChecks (s : State) (n : Nat) (style : Option Nat) (new : List CopyLine) : Checks :=
  s.storyChecks n (style.any (fun y => decide (31 < y)) || !new.all lineOk) ++
    [((s.story n).holder.lineNumber.isSome, .held), (decide ((s.story n).stage = .spiked), .stage), (s.frozenStory n, .frozen)]

/-- The holder is another than line `k` (R30, R45). -/
def Holder.notLine (h : Holder) (k : Nat) : Bool := decide (h ≠ .absent ∧ h ≠ .line k)

/-- A RETURN's first line and count: those it carries, or the window record's (R88). -/
def Line.replaced (l : Line) (range : Option (Nat × Nat)) : Option (Nat × Nat) :=
  range.or (l.window.map fun w => (w.first, w.shown))

/-- The ordered checks of a RETURN on the story line `l` holds (R88). -/
def State.returnChecks (s : State) (l : Line) (range : Option (Nat × Nat)) (new : List CopyLine) : Checks :=
  let fk := (l.replaced range).getD (0, 0)
  let n := l.held.getD 0
  let r := s.story n
  let inMakeup := r.stage = .placed ∧ r.run.any (fun run => decide ((s.page run.page).state = .makeup)) = true
  [(decide (l.windowSize < fk.2 ∨ 40 < new.length ∨ 999 < fk.1) || !new.all lineOk, .badField),
    (l.held.isNone || (l.replaced range).isNone, .state),
    (decide (r.text.length < fk.1 + fk.2), .badField),
    (decide (¬(r.stage = .basket ∨ inMakeup)), .frozen)] ++
    s.lengthChecks n (r.text.take fk.1 ++ new ++ r.text.drop (fk.1 + fk.2))

/-- The checks of a VERDICT on line `k` (R76, R77): TOO LATE when its last sign-on timed out or was abandoned, STATE when it is not
in SIGNING for another cause. -/
def State.verdictChecks (s : State) (k : Nat) (bad : Bool) : Checks :=
  let l := s.line k
  [(decide (31 < k) || bad, .badField),
    (decide (l.state ≠ .signing ∧ (l.outcome = .timedOut ∨ l.outcome = .abandoned)), .tooLate),
    (decide (l.state ≠ .signing), .state)]

/-- The ordered checks of each request, as its rule lists them; a command that no host and no terminal sends has none. -/
def State.checks (s : State) : Instr → Checks
  | .powerReset => []
  | .hostFrameDiscarded _ => []
  | .requestArrival _ => []
  | .hostFrameSent => []
  | .unknownRequest _ _ => [(true, .badField)]
  | .create _ slug desk style priority =>
    [(!slugOk slug || decide (15 < desk ∨ 31 < style ∨ 2 < priority), .badField), (s.noneFree, .full)]
  | .textAppend _ n style new => s.textChecks n style new ++ s.lengthChecks n ((s.story n).text ++ new)
  | .textReplace _ n style new => s.textChecks n style new ++ s.lengthChecks n new
  | .textReplaceRange _ n style f k new =>
    s.textChecks n style new ++ [(decide ((s.story n).text.length < f + k), .badField)] ++
      s.lengthChecks n ((s.story n).text.take f ++ new ++ (s.story n).text.drop (f + k))
  | .read _ n f => s.storyChecks n false ++ [(decide ((s.story n).text.length < f), .badField)]
  | .info _ n => s.storyChecks n false
  | .purge _ n =>
    s.storyChecks n false ++ [(decide ((s.story n).stage ≠ .spiked ∧ (s.story n).stage ≠ .set), .stage)]
  | .new k slug style priority =>
    [(!slugOk slug || decide (31 < style ∨ 2 < priority), .badField), ((s.line k).held.isSome, .state), (s.noneFree, .full)]
  | .hostRoute _ n desk =>
    s.storyChecks n (decide (15 < desk)) ++
      [(decide ((s.story n).stage ≠ .basket), .stage), ((s.story n).holder.lineNumber.isSome, .held)]
  | .terminalRoute k n desk =>
    s.storyChecks n (decide (15 < desk)) ++
      [(decide ((s.story n).stage ≠ .basket), .stage), ((s.story n).holder.notLine k, .held),
        (decide ((s.story n).holder ≠ .line k ∧ ∀ u ∈ (s.line k).user, u.desk ≠ (s.story n).desk), .denied)]
  | .hostPriority _ n priority => s.storyChecks n (decide (2 < priority))
  | .terminalPriority k priority => [(decide (2 < priority), .badField), ((s.line k).held.isNone, .state)]
  | .hostSpike _ n =>
    s.storyChecks n false ++
      [(decide ((s.story n).stage ≠ .basket), .stage), ((s.story n).holder.lineNumber.isSome, .held)]
  | .terminalSpike k n =>
    s.storyChecks n false ++
      [((s.line k).hasRole .reporter, .denied), (decide ((s.story n).stage ≠ .basket), .stage),
        ((s.story n).holder.notLine k, .held)]
  | .unspike _ n => s.storyChecks n false ++ [(decide ((s.story n).stage ≠ .spiked), .stage)]
  | .hostKill _ n =>
    s.storyChecks n false ++
      [(decide ((s.story n).stage = .basket ∨ (s.story n).stage = .spiked), .stage),
        ((s.story n).holder.lineNumber.isSome, .held)]
  | .terminalKill k n =>
    s.storyChecks n false ++
      [((s.line k).hasRole .reporter, .denied),
        (decide ((s.story n).stage = .basket ∨ (s.story n).stage = .spiked), .stage), ((s.story n).holder.notLine k, .held),
        (s.frozenStory n && !((s.line k).hasRole .slot && (s.line k).override), .denied)]
  | .arm k => [(!(s.line k).hasRole .slot, .denied)]
  | .basket _ desk list p =>
    [(decide (15 < desk ∨ 1 < list ∨ (if list = 0 then (s.desk desk).basket else (s.desk desk).spikes).length < p),
      .badField)]
  | .terminalOpen k n =>
    s.storyChecks n false ++
      [(decide ((s.line k).held ≠ none ∧ (s.line k).held ≠ some n), .state), (decide ((s.story n).stage = .spiked), .stage),
        (s.frozenStory n, .frozen),
        ((s.line k).hasRole .reporter && decide (∀ u ∈ (s.line k).user, u.desk ≠ (s.story n).desk), .denied),
        ((s.story n).holder.notLine k, .held)]
  | .hostOpen _ n =>
    s.storyChecks n false ++
      [(decide ((s.story n).stage = .spiked), .stage), (s.frozenStory n, .frozen),
        ((s.story n).holder.lineNumber.isSome, .held)]
  | .terminalClose k => [((s.line k).held.isNone, .state)]
  | .hostClose _ n => s.storyChecks n false ++ [(decide ((s.story n).holder ≠ .channel), .state)]
  | .free _ n => s.storyChecks n false ++ [(decide ((s.story n).holder = .absent), .state)]
  | .holdtime _ _ => []
  | .orphanExpiry _ => []
  | .lineset _ k speed model _ wakeFlash wakeUrgent =>
    [(decide (31 < k ∨ (∃ v ∈ speed, v ∉ [1200, 2400, 4800, 9600, 19200]) ∨ (∃ m ∈ model, 1 < m) ∨
        (∃ c ∈ wakeFlash, 1 < c) ∨ ∃ c ∈ wakeUrgent, 1 < c), .badField),
      ((speed.isSome || model.isSome) && decide ((s.line k).state ≠ .disabled), .state)]
  | .lineon _ k => [(decide (31 < k), .badField), (decide ((s.line k).state ≠ .disabled), .state)]
  | .lineoff _ k => [(decide (31 < k), .badField)]
  | .linestat _ k => [(decide (31 < k), .badField)]
  | .carrierDrop _ => []
  | .carrierReturn _ => []
  | .terminalFrameReceived _ _ => []
  | .terminalFrameDiscarded _ _ => []
  | .lineFrameSent _ => []
  | .signon _ user => [(decide (user < 1 ∨ 9999 < user), .badField)]
  | .verdictGrant _ k desk role => s.verdictChecks k (decide (15 < desk ∨ 2 < role))
  | .verdictDeny _ k => s.verdictChecks k false
  | .signonTimeout _ => []
  | .signoff _ => []
  | .dim _ => []
  | .window k first =>
    [(decide (∃ f ∈ first, 999 < f), .badField), ((s.line k).held.isNone, .state),
      (decide (∃ f ∈ first, (s.story ((s.line k).held.getD 0)).text.length < f), .badField)]
  | .ret k range new => s.returnChecks (s.line k) range new
  | .home k desk first =>
    let d := desk.getD (((s.line k).user.map fun u => u.desk).getD 0)
    [(decide (15 < d ∨ (s.desk d).basket.length < first.getD 0), .badField)]
  | .seen _ => []
  | .flash _ text mask =>
    [(decide (text = [] ∨ 60 < text.length ∨ (∃ c ∈ text, c.toNat < 32 ∨ 126 < c.toNat) ∨ mask = 0), .badField)]
  | .lamp _ k source => [(decide (31 < k ∨ 7 < source), .badField)]
  | .style _ n f => [(decide (31 < n) || !((s.style n).merge f).ok, .badField), (s.tablesFrozen, .frozen)]
  | .widths _ font c values =>
    [(decide (7 < font ∨ c < 33 ∨ 126 < c ∨ values = [] ∨ 126 < c + values.length - 1), .badField), (s.tablesFrozen, .frozen)]
  | .fitTake => []
  | .fitCompletion => []
  | .pageopen _ label edition _ =>
    [(decide (label < 1 ∨ 999 < label ∨ ∃ e ∈ edition, e < 1 ∨ 15 < e), .badField),
      (pageIds.all fun g => (s.page g).state != .closed, .full)]
  | .slotDefine _ g k depth measure =>
    (decide (g < 1 ∨ 48 < g ∨ k < 1 ∨ 16 < k ∨ depth < 24 ∨ 3600 < depth ∨ measure < 36 ∨ 720 < measure), .badField) ::
      (s.page g).stateChecks
  | .slotUndefine _ g k =>
    (decide (g < 1 ∨ 48 < g ∨ k < 1 ∨ 16 < k), .badField) :: (s.page g).stateChecks ++
      [(((s.page g).slot k).any fun sl => sl.occupant.isSome, .state)]
  | .place _ n g run =>
    s.storyChecks n (decide (g < 1 ∨ 48 < g ∨ run = [] ∨ 4 < run.length ∨ (∃ k ∈ run, k < 1 ∨ 16 < k) ∨ ¬run.Nodup)) ++
      [(decide (¬((s.story n).stage = .basket ∨
          (s.story n).stage = .placed ∧ (s.story n).run.map (fun r => r.page) = some g)), .stage)] ++
      (s.page g).stateChecks ++
      [(run.any fun k => ((s.page g).slot k).all fun sl => sl.occupant.any fun o => o.1 != n, .state)]
  | .unplace _ n =>
    s.storyChecks n false ++
      [(decide ((s.story n).stage ≠ .placed ∨ (s.story n).run = none), .stage), (s.frozenStory n, .frozen)]
  | .release _ g choice trim =>
    let slots := (s.page g).slots.toList
    [(decide (g < 1 ∨ 48 < g ∨ 2 < choice ∨ 1 < trim), .badField), (decide ((s.page g).state ≠ .makeup), .state),
      (slots.all (fun v => v.isNone) || slots.any (fun v => v.any fun sl => sl.occupant.isNone), .empty),
      (decide (∃ n ∈ (s.page g).stories, (s.story n).holder ≠ .absent), .held)]
  | .cancel _ g =>
    [(decide (g < 1 ∨ 48 < g), .badField),
      (decide ((s.page g).state = .makeup ∨ (s.page g).state = .set ∨ (s.page g).state = .closed), .state)]
  | .reopen _ g => [(decide (g < 1 ∨ 48 < g), .badField), (decide ((s.page g).state ≠ .set), .state)]
  | .pageshut _ g =>
    [(decide (g < 1 ∨ 48 < g), .badField), (decide ((s.page g).state ≠ .makeup ∧ (s.page g).state ≠ .set), .state),
      ((s.page g).slots.toList.any fun v => v.any fun sl => sl.occupant.isSome, .state)]
  | .pageinfo _ g => [(decide (g < 1 ∨ 48 < g), .badField)]
  | .xlate _ c entries =>
    [(decide (127 < c ∨ entries = [] ∨ 127 < c + entries.length - 1 ∨ c ≤ 32 ∧ 32 ≤ c + entries.length - 1 ∨
        ∃ e ∈ entries, 2 < e.length ∨ ∃ v ∈ e, 255 < v), .badField), (s.tablesFrozen, .frozen)]
  | .portset _ port _ failover =>
    [(decide (1 < port ∨ ∃ c ∈ failover, 1 < c), .badField),
      (decide (∃ p ∈ portOfCode port, (s.port p).state ≠ .offline), .state)]
  | .porton _ port =>
    [(decide (1 < port), .badField), (decide (∃ p ∈ portOfCode port, (s.port p).state ≠ .offline), .state)]
  | .portoff _ port => [(decide (1 < port), .badField)]
  | .resume _ port =>
    [(decide (1 < port), .badField),
      (decide (∃ p ∈ portOfCode port, (s.port p).state ≠ .recovered ∧ (s.port p).state ≠ .halted), .state)]
  | .portclr _ port => [(decide (1 < port), .badField)]
  | .portstat _ port => [(decide (1 < port), .badField)]
  | .queue _ => []
  | .codeAccepted _ => []
  | .abortCodeSent _ => []
  | .readyLeadRise _ => []
  | .readyLeadFall _ => []
  | .resultDone _ => []
  | .resultFault _ => []
  | .resultCodeOther _ _ => []
  | .portLoss _ => []
  | .secondsTick => []
  | .terminalCount => []
  | .clkstart _ edition countdown =>
    [(decide (edition < 1 ∨ 15 < edition ∨ countdown < 1 ∨ 65535 < countdown), .badField),
      (decide (s.clock.state ≠ .stopped), .state)]
  | .clknext _ countdown =>
    [(decide (countdown < 1 ∨ 65535 < countdown), .badField), (decide (s.clock.state = .stopped), .state),
      (decide (s.clock.edition = 15), .limit)]
  | .clkstop _ => []
  | .clkread _ => []
  | .warn _ _ => []
  | .sweep _ => []
  | .ident _ => []
  | .restart _ => []
  | .restartTakesEffect => []

/-- The stories whose holder a HELD refusal may name (11.1): the story named, or for RELEASE the stories of the page. -/
def State.heldNamed (s : State) : Instr → List Nat
  | .release _ g _ _ => (s.page g).stories
  | .textAppend _ n _ _ => [n]
  | .textReplace _ n _ _ => [n]
  | .textReplaceRange _ n _ _ _ _ => [n]
  | .hostRoute _ n _ => [n]
  | .terminalRoute _ n _ => [n]
  | .hostSpike _ n => [n]
  | .terminalSpike _ n => [n]
  | .hostKill _ n => [n]
  | .terminalKill _ n => [n]
  | .terminalOpen _ n => [n]
  | .hostOpen _ n => [n]
  | _ => []

/-- What a refusal carries beside its status (R182, 11.1): the holder of a story it names when it is HELD, and nothing else. -/
def RefusalDetails (s : State) (i : Instr) (details : List Byte) : Prop :=
  ∀ status ∈ (s.checks i).refusal,
    if status = .held then
      ∃ n ∈ s.heldNamed i, (s.story n).holder ≠ .absent ∧ details = holderBytes (s.story n).holder
    else details = []

/-! ### Frames of a terminal -/

/-- The status of a valid frame answered at once on an IDLE line, or on a READY or DIM one, with no request in service (R71); none where
the frame is taken into service and waits for its block. A known kind with a malformed body is BAD FIELD where the kind would be
taken (assumption 4). -/
def answeredAtOnce (idle : Bool) (kind : List Byte) (f : TerminalFrame) : Option Status :=
  if f = .unknown then some .badField
  else if kind = kindWord "SIGNON" then
    if idle = false then some .state else if f = .malformed then some .badField else none
  else if idle = true then some .denied
  else if f = .malformed then some .badField
  else none

/-- The status of a valid frame answered in passing (R71): in SIGNING by its kind; elsewhere, with a request in service, BUSY. -/
def answeredInPassing (signing : Bool) (kind : List Byte) (f : TerminalFrame) : Status :=
  if signing = false then .busy
  else if f = .unknown then .badField
  else if kind = kindWord "SIGNON" then .busy
  else .denied

/-- The answer slot once a passing answer reaches it (R72): an unsent service answer stays; else the passing answer stands there. -/
def Line.passed (l : Line) (kind : List Byte) (status : Status) : Line :=
  { l with answer :=
      if l.answer.any (fun a => a.service) = true then l.answer
      else some { service := false, kind := kind, status := status, details := [] } }

/-- A line once a frame is taken into service (R71, R72): with no status it waits for its block; with one it is answered in the same
step, and an armed override is consumed by any frame but one of kind ARM, a malformed ARM included among those that leave it
(R27; DEDUCED, assumption 43). -/
def Line.servedFrame (l : Line) (kind : List Byte) (f : TerminalFrame) : Option Status → Line
  | none =>
    match f with
    | .request i => { l with service := some { kind := kind, cmd := some i, stage := .waiting } }
    | .unknown => l
    | .malformed => l
  | some status =>
    { l with
      service := some { kind := kind, cmd := none, stage := .answered }
      answer := some { service := true, kind := kind, status := status, details := [] }
      override := if kind = kindWord "ARM" then l.override else false }

/-- A line whose frame is of unknown kind (R69, R71): the UNKNOWN FRAME latch set, and an ERROR lamp lit if it was clear. -/
def Line.unknownNoted (l : Line) (f : TerminalFrame) : Line :=
  if f = .unknown then
    { l with
      latches := { l.latches with unknownFrame := true }
      lamp := if l.lampSource = .error ∧ l.latches.unknownFrame = false then true else l.lamp }
  else l

/-- Line `k` as a valid frame of this kind leaves it, by the table of R71, told from the records of `t`. In READY and DIM the dim
timer is set (R80); a DIM line has woken with its home screen (R81); and a frame taken into service there clears the withdrawn
story, with a status line that says so (R93). -/
def frameJudged (t : State) (k : Nat) (kind : List Byte) (f : TerminalFrame) (l : Line) : Line :=
  let m := l.unknownNoted f
  match l.state with
  | .disabled => l
  | .lost => l
  | .idle =>
    if l.service.isSome = true then m.passed kind .busy else m.servedFrame kind f (answeredAtOnce true kind f)
  | .signing => m.passed kind (answeredInPassing true kind f)
  | .ready =>
    let m : Line := { m with dimTimer := dimSet l.dimTime }
    if l.service.isSome = true then m.passed kind .busy
    else Line.servedFrame
      { m with
        withdrawn := none
        status := if l.withdrawn.isSome = true then (l.user.map fun u => t.statusLine k u none).or l.status else l.status }
      kind f (answeredAtOnce false kind f)
  | .dim =>
    Line.servedFrame
      { m with
        state := .ready, dimTimer := dimSet l.dimTime, withdrawn := none
        display := (l.user.map fun u => Display.home (t.homeScreen u.desk 0 l.windowSize)).or l.display
        status := (l.user.map fun u => t.statusLine k u none).or l.status }
      kind f (answeredAtOnce false kind f)

/-! ### A seconds tick -/

/-- The notices of the clock at a seconds tick (R168 to R171). -/
def Clock.tickNotices (c : Clock) : List Notice :=
  match c.state with
  | .stopped => []
  | .overdue => []
  | .running =>
    if c.count ≤ 1 then
      match c.next with
      | some n => switchNotices (c.edition + 1) n c.threshold
      | none => [.edition .overdue c.edition 0]
    else if c.threshold ≠ 0 ∧ c.count - 1 ≤ c.threshold ∧ c.fired = false then [.edition .near c.edition (c.count - 1)]
    else []

/-- A seconds tick hands on status lines (R94, R168 to R171): the terminal count, and a change of the whole minutes. -/
def Clock.tickTold (c : Clock) : Bool :=
  match c.state with
  | .stopped => false
  | .running => decide (c.count ≤ 1 ∨ (c.count - 1) / 60 ≠ c.count / 60)
  | .overdue => decide (min 65535 (c.count + 1) / 60 ≠ c.count / 60)

/-- A seconds tick sets the DEADLINE lamps anew (R99, R168, R169): the terminal count, the firing of the near warning, and the countdown
coming to a threshold that is not 0. -/
def Clock.tickLamps (c : Clock) : Bool :=
  match c.state with
  | .stopped => false
  | .overdue => false
  | .running =>
    decide (c.count ≤ 1 ∨ c.threshold ≠ 0 ∧ (c.count - 1 ≤ c.threshold ∧ c.fired = false ∨ c.count - 1 = c.threshold))

/-- The ORPHAN notices of a seconds tick, in story order: those of the orphans with at most a second left (R54). -/
def State.orphanNotices (s : State) : List Notice :=
  storyIds.filterMap fun n =>
    match (s.story n).holder with
    | .absent => none
    | .channel => none
    | .line _ => none
    | .orphan k user seconds => if seconds ≤ 1 then some (.orphan n user k) else none

/-- Port `p`'s loss timer runs out at this second, with the job it holds (R159). -/
def State.losing (s : State) (p : Port) : Option PortJob :=
  if (s.port p).lossTimer.any (fun v => decide (v ≤ 1)) = true then (s.port p).job else none

/-- The notices of port `p`'s loss with job `j`, the other port as `s` has it and `queued` jobs in the queue (R160, R161). -/
def State.lossNotices (s : State) (p : Port) (j : PortJob) (queued : Nat) : List Notice :=
  let g := j.job.page
  let told (f : Fate) : List Notice := if (s.port p).lossLatch = true then [] else [.output p (.lost g f)]
  if (s.port p).failover = true ∧ (s.port (otherPort p)).state = .ready then
    told .failover ++ [.output (otherPort p) (.failover g)]
  else if queued < 16 then told .requeued
  else told .returned ++ [.release g .queueFull]

/-- The notices of both ports' losses at a seconds tick, port A's first (R159 to R161): a job of A that went back to the queue stands
there when B is lost. -/
def State.portNotices (s : State) : List Notice :=
  let queued := s.output.queue.length
  match s.losing .a, s.losing .b with
  | none, none => []
  | some j, none => s.lossNotices .a j queued
  | none, some j => s.lossNotices .b j queued
  | some i, some j => s.lossNotices .a i queued ++ s.lossNotices .b j (if queued < 16 then queued + 1 else queued)

end Sys2Proof.Machine
end

