-- ==== Sys2Proof/Certificates/Slice0/Obligations.lean ====
section
/-! DEFINITION. The statements for the provers. A host request's statement speaks of a state in which its block takes it
(`s.takes i`: the oldest unanswered request of the intake, or arriving at an intake with nothing unanswered, with no RESTART
standing); a terminal request's, of a state in which it is in service and not yet taken, or is taken into service as it
arrives (`s.takesFrame k i`). That a command may be given without its arrival is the model's own reading (assumption 1). -/

open Sys2Proof Sys2Proof.Machine

/-! ### The queue of commands and the two ends of a run -/

/-- The command at the front of the queue is run on the state with the queue's rest. With none waiting the part idles: the
model's choice (assumption 11). -/
def Obligations.StepRunsFrontCommand : Prop :=
  ∀ (s : State) (c : Instr) (rest : List Instr),
    (s.pending = c :: rest → step s = exec c { s with pending := rest }) ∧
    (s.pending = [] → step s = .next s)

/-- No command stops the part, and none touches the commands that wait: the reference gives every command an effect in every
state. -/
def Obligations.EveryCommandAnswersNext : Prop :=
  ∀ (c : Instr) (s : State), ∃ t, exec c s = .next t ∧ t.pending = s.pending

/-- Every law of the part holds right after reset. -/
def Obligations.ResetIsLawful : Prop := Lawful State.reset

/-! ### The laws that every step keeps -/

/-- At most 48 notices, no two of one kind and object (R184); at most 4 requests in the intake, in order of answering (R180); at
most 4 BUSY replies (R181). -/
def Obligations.ChannelLawKept : Prop := ∀ s t : State, ChannelLaw s → step s = .next t → ChannelLaw t

/-- The clock's fields stay in their ranges: a countdown above 0 while RUNNING, 0 while STOPPED, and a pending switch that
cannot carry the edition past 15 (R167, R169, R173). -/
def Obligations.ClockLawKept : Prop := ∀ s t : State, ClockLaw s → step s = .next t → ClockLaw t

/-- The flash list holds at most 8 entries whose numbers run without a gap and repeat after 255 (R95). -/
def Obligations.FlashLawKept : Prop := ∀ s t : State, FlashLaw s → step s = .next t → FlashLaw t

/-- A port holds a job exactly while SETTING, its FIFO never reaches 512 codes, the output queue never passes 16 jobs, and the
translation entry of the space stays empty (R145, R149, R151, R155). -/
def Obligations.OutputLawKept : Prop := ∀ s t : State, OutputLaw s → step s = .next t → OutputLaw t

/-- Every chain is as long as its story's stored length needs, and the free-block count with all the block counts makes 8,192
(R5). -/
def Obligations.StoreLawKept : Prop := ∀ s t : State, StoreLaw s → step s = .next t → StoreLaw t

/-- Blocks are never shared: no block is on two chains, or both on a chain and in the pool (R5). Which blocks a story holds is
the model's own (assumption 6). -/
def Obligations.BlocksNeverShared : Prop := ∀ s t : State, BlockLaw s → step s = .next t → BlockLaw t

/-- Every story in BASKET stands once in the basket of its own desk and no other story stands in a basket, each basket keeps its
classes in order, and its urgent count counts its URGENT and FLASH stories (R20 to R22). -/
def Obligations.BasketLawKept : Prop := ∀ s t : State, BasketLaw s → step s = .next t → BasketLaw t

/-- Baskets, holds, fits, slots, pages, spike lists and jobs agree with one another: a story's holder and the line's held story
(R43); the fit queue and the STALE stories (R119); slots and runs, pages and the stages of their stories, and each page's
judgement (R22, R127, R128, R133); the output path and the pages QUEUED and SETTING, each page once (R149); each job's count and
the codes in the FIFO and still to be placed (R147, R148, R155). -/
def Obligations.RecordsLawKept : Prop := ∀ s t : State, RecordsLaw s → step s = .next t → RecordsLaw t

/-! ### Frames on the links (chapter 11) -/

/-- Every host request whose kind word the reference names, and every request of a terminal, is read back from its own kind word
and body: no field of it is dropped (chapter 11). A request of an unknown kind word is left out: it keeps its word, and its body
is not read (R178). -/
def Obligations.RequestsReadBack : Prop :=
  (∀ i : Instr, i.wellFormed = true → i.fromHost = true → (∀ tag kind, i ≠ .unknownRequest tag kind) →
    hostRequest i.tag i.kind i.body = i) ∧
  ∀ (k : Fin 32) (i : Instr), i.wellFormed = true → i.fromLine = some k →
    terminalFrame k i.kind i.body = .request i

/-- A host request's frame, sent byte for byte with its flags, escapes and check, arrives whole: it joins the tail of an intake
of fewer than 4; at a full intake it is answered BUSY; with 4 BUSY replies waiting too it is discarded and sets the link error
latch; and while a RESTART stands it is discarded (R178, R180, R181, R188, R190). -/
def Obligations.HostFrameArrivesWhole : Prop :=
  ∀ (s : State) (tag : Byte) (kind body : List Byte),
    s.channel.rx = none → kind.length = 8 → body.length ≤ 4096 →
    ∃ t, exec (.requestArrival (hostFrame 1 tag kind body)) s = .next t ∧ OnlyTouches [.channel] s t ∧
      let c := s.channel
      let i := hostRequest tag kind body
      t.channel =
        if c.restarting = true then c
        else if c.intake.length < 4 then { c with intake := c.intake ++ [{ cmd := i, answered := false }] }
        else if c.busyCount < 4 then
          { c with replies := c.replies ++
              [{ tag := i.tag, kind := i.kind, status := .busy, details := [], overflow := true }] }
        else { c with linkError := true }

/-- A frame sent character for character with its 8-bit check is judged, as it completes, by its line's state (R68, R191, the
table of R71). On a READY line that serves no request, a request of a known kind is taken into service: it waits for its block,
the dim timer is set to the dim time, and no other record changes but the withdrawn story (R80, R93). Every valid frame, of any
kind and body, is judged row by row as `frameJudged` gives it: IDLE, SIGNING, READY and DIM, free and busy, with the passing
answers of R72, the UNKNOWN FRAME latch of R69, and the wake of R81; a DISABLED or LOST line takes no characters. The line
stands between two frames, and serves no request if it is DIM, as R80 leaves it. A malformed body is BAD FIELD (assumption 4);
one of kind ARM leaves an armed override armed, the model's reading of R27 (assumption 43). -/
def Obligations.TerminalFrameTakenIntoService : Prop :=
  (∀ (s : State) (k : Fin 32) (i : Instr),
    i.wellFormed = true → i.fromLine = some k → i.kind ≠ kindWord "SIGNON" →
    (s.line k).state = .ready → (s.line k).service = none → (s.line k).rx = [] →
    ∃ t, exec (.terminalFrameReceived k (lineFrame i.kind i.body)) s = .next t ∧
      OnlyTouches [.lines] s t ∧ SameLinesBut k s t ∧
      t.line k = { s.line k with
        service := some { kind := i.kind, cmd := some i, stage := .waiting }
        dimTimer := if (s.line k).dimTime = 0 then none else some (s.line k).dimTime
        withdrawn := none
        status := (t.line k).status } ∧
      ((s.line k).withdrawn = none → (t.line k).status = (s.line k).status)) ∧
  ∀ (s : State) (k : Fin 32) (kind body : List Byte),
    kind.length = 8 → (lineFrame kind body).length ≤ 4096 → (s.line k).rx = [] →
    ((s.line k).state = .dim → (s.line k).service = none) →
    ∃ t, exec (.terminalFrameReceived k (lineFrame kind body)) s = .next t ∧ OnlyTouches [.lines] s t ∧ SameLinesBut k s t ∧
      t.line k = frameJudged t k kind (terminalFrame k kind body) (s.line k)

/-- Frames discarded and frames sent. A frame discarded changes nothing but the fault's latch and the frame in progress: the
link error latch at the host channel, where a stray start flag begins a new frame (R179, R190); one of the line's error latches
at a terminal line that takes characters, its ERROR lamp set anew if that latch was clear (R69, R99). The transmitters take the
next frame. At the host channel a reply goes before any notice and frees its request's place; with none waiting the first notice
goes, its absent fields filled by free bytes (assumption 8), unless a RESTART stands; and with nothing to send it is free (R180,
R183, R188). At a line that is not DISABLED or LOST the answer goes first, then the display, then the status (R82), and a
service answer that begins to be sent ends its request's service (R72); a window's copy lines carry no second count (assumption
31), and a status line's minutes and flash are optional fields (assumption 41). A DISABLED or LOST line neither receives nor
sends; that the events change nothing there is the model's choice (assumption 14). -/
def Obligations.FramesDiscardedAndSent : Prop :=
  (∀ (s : State) (f : HostFrameFault), ∃ t, exec (.hostFrameDiscarded f) s = .next t ∧ OnlyTouches [.channel] s t ∧
    t.channel = { s.channel with
      linkError := true
      rx := if f = .strayStart then some { bytes := [], escape := false } else none }) ∧
  (∀ (s : State) (k : Fin 32) (f : LineFault), (s.line k).state.receiving = true →
    ∃ t, exec (.terminalFrameDiscarded k f) s = .next t ∧ OnlyTouches [.lines] s t ∧ SameLinesBut k s t ∧
      let old := (s.line k).latches
      t.line k = { s.line k with rx := [], latches := (t.line k).latches, lamp := (t.line k).lamp } ∧
      (t.line k).latches =
        (match f with
        | .framing => { old with framing := true }
        | .overrun => { old with overrun := true }
        | .longFrame => { old with longFrame := true }
        | .check => { old with check := true }) ∧
      (t.line k).lamp =
        if (s.line k).lampSource = .error ∧ (t.line k).latches ≠ old then t.lampLit k (t.line k) else (s.line k).lamp) ∧
  (∀ (s : State) (r : Reply) (rest : List Reply), s.channel.replies = r :: rest →
    ∃ t, exec .hostFrameSent s = .next t ∧ OnlyTouches [.channel] s t ∧
      t.channel = { s.channel with
        replies := rest
        intake := if r.overflow = true then s.channel.intake else s.channel.intake.tail
        tx := some (hostFrame 2 r.tag r.kind (byte r.status.code :: r.details)) }) ∧
  (∀ (s : State) (n : Notice) (rest : List Notice),
    s.channel.replies = [] → s.channel.notices = n :: rest → s.channel.restarting = false →
    ∃ t, exec .hostFrameSent s = .next t ∧ OnlyTouches [.channel, .choices] s t ∧ t.choices = s.choices + 1 ∧
      t.channel = { s.channel with notices := rest, tx := some (noticeFrame (Config.filler s.choices) n) }) ∧
  (∀ s : State, s.channel.replies = [] → (s.channel.notices = [] ∨ s.channel.restarting = true) →
    exec .hostFrameSent s = .next { s with channel := { s.channel with tx := none } }) ∧
  (∀ (s : State) (k : Fin 32), (s.line k).state.receiving = true →
    ∃ t, exec (.lineFrameSent k) s = .next t ∧ OnlyTouches [.lines] s t ∧ SameLinesBut k s t ∧
      t.line k =
        match (s.line k).answer, (s.line k).display, (s.line k).status with
        | some a, _, _ =>
          { s.line k with
            answer := none, tx := some (answerFrame a)
            service := if a.service = true then none else (s.line k).service }
        | none, some d, _ => { s.line k with display := none, tx := some (displayFrame d) }
        | none, none, some u => { s.line k with status := none, tx := some (statusFrame u) }
        | none, none, none => { s.line k with tx := none }) ∧
  ∀ (s : State) (k : Fin 32) (f : LineFault), (s.line k).state = .disabled ∨ (s.line k).state = .lost →
    exec (.terminalFrameDiscarded k f) s = .next s ∧ exec (.lineFrameSent k) s = .next s

/-! ### Replies, answers and notices -/

/-- A request answered with any status but DONE had no effect beyond its reply or answer (R182; R6, R88 for text). The host's
leaves the channel as it was but for its place in the intake and its reply, the one that joins the tail of the reply path; the
BUSY replies that a RESTART puts behind its own answer other requests. A terminal's leaves its line as the arrival of its frame
left it, where the frame arrives with it (R71, R80, R81, R93), but for the answer, the end of its service and an override that
any frame but ARM consumes (R27); a window or home screen is sent by none, a DIM line's wake apart (R81). The choice of a holder
to name counts as none: it is the model's own field (assumption 7). -/
def Obligations.RefusalHasNoEffect : Prop :=
  (∀ (i : Instr) (s t : State) (r : Reply), i.fromHost = true → s.takes i = true → exec i s = .next t →
    t.channel.replies[(s.offer i).channel.replies.length]? = some r → r.status ≠ .done →
    OnlyTouches [.channel, .choices] s t ∧ Raised [] s t ∧ Replied i r.status r.details s t) ∧
  ∀ (i : Instr) (k : Fin 32) (s t : State) (a : Answer), i.fromLine = some k → i.kind ≠ kindWord "SIGNON" →
    s.takesFrame k i = true → exec i s = .next t → (t.line k).answer = some a → a.status ≠ .done →
    OnlyTouches [.lines] s t ∧ SameLinesBut k s t ∧
      (t.line k).held = (s.line k).held ∧ (t.line k).window = (s.line k).window ∧ (t.line k).user = (s.line k).user ∧
      Served i k a.status a.details s t ∧
      (t.line k).override = (if i.kind = kindWord "ARM" then (s.line k).override else false) ∧
      t.line k =
        { (if s.waiting k i = true then s.line k else frameJudged t k i.kind (.request i) (s.line k)) with
          answer := (t.line k).answer, service := (t.line k).service, override := (t.line k).override } ∧
      (t.line k).lamp = (s.line k).lamp ∧ ((s.line k).state ≠ .dim → (t.line k).display = (s.line k).display)

/-- A request its block takes is refused with the status of the first of its ordered checks that fails, and answered DONE where
it passes them all: the checks of every request, host and terminal, in the order its rule lists them (R2, R9, R10, R12 to R17,
R27, R29 to R39, R45 to R48, R51, R62 to R64, R70, R76, R77, R87, R88, R92, R96, R100, R105, R106, R129 to R132, R135, R139,
R141 to R143, R146, R152 to R154, R162 to R164, R172, R173, R178). A refusal carries its status alone, and with HELD a holder
(R182, 11.1); which of several a RELEASE names is free (assumption 7), and a PLACE checks its page id first (assumption 33). A
terminal's request is taken at a line with a user signed on, as every READY line has one; a SIGNON that is not refused waits for
its verdict (R74). -/
def Obligations.RefusalsInOrder : Prop :=
  (∀ (s : State) (i : Instr), i.fromHost = true → s.takes i = true →
    ∃ t details, exec i s = .next t ∧ RefusalDetails s i details ∧
      t.channel.replies[(s.offer i).channel.replies.length]? = some {
        tag := i.tag, kind := i.kind, status := (s.checks i).refusal.getD .done, details := details, overflow := false }) ∧
  (∀ (s : State) (k : Fin 32) (i : Instr), i.fromLine = some k → i.kind ≠ kindWord "SIGNON" → s.takesFrame k i = true →
    (s.line k).user.isSome = true →
    ∃ t details, exec i s = .next t ∧ RefusalDetails s i details ∧
      Answered k i.kind ((s.checks i).refusal.getD .done) details t) ∧
  ∀ (s : State) (k : Fin 32) (user : Nat), s.takesFrame k (.signon k user) = true → user < 1 ∨ 9999 < user →
    ∃ t, exec (.signon k user) s = .next t ∧ OnlyTouches [.lines] s t ∧ SameLinesBut k s t ∧
      Answered k (kindWord "SIGNON") .badField [] t ∧ (t.line k).state = (s.line k).state ∧
      (t.line k).signonUser = (s.line k).signonUser ∧ (t.line k).outcome = (s.line k).outcome ∧
      (t.line k).signonTimer = (s.line k).signonTimer

/-- A notice raised takes the place of a waiting one of its kind and object; with none waiting it joins the tail of a queue of
fewer than 48; and otherwise it is dropped and sets the notices-lost flag (R184, R185). -/
def Obligations.NoticeRaised : Prop :=
  ∀ (s : State) (n : Notice), ChannelLaw s →
    (∀ before m after, s.channel.notices = before ++ m :: after → m.same n = true →
      s.channel.raise n = { s.channel with notices := before ++ n :: after }) ∧
    ((∀ m ∈ s.channel.notices, m.same n = false) → s.channel.notices.length < 48 →
      s.channel.raise n = { s.channel with notices := s.channel.notices ++ [n] }) ∧
    ((∀ m ∈ s.channel.notices, m.same n = false) → 48 ≤ s.channel.notices.length →
      s.channel.raise n = { s.channel with noticesLost := true })

/-! ### The copy directory and copy store (chapter 1) -/

/-- CREATE takes the lowest FREE record, makes the story in its desk's basket at the tail of its class with its fit STALE at the
tail of the fit queue, and answers its number; the arrival is noticed and told to the desk's lines (R9, R11, R23). -/
def Obligations.CreateMakesStory : Prop :=
  ∀ (s : State) (tag : Byte) (slug : List Byte) (desk style priority n : Nat) (p : Priority),
    let i : Instr := .create tag slug desk style priority
    s.takes i = true → slugOk slug = true → desk < 16 → style < 32 → Priority.ofCode priority = some p →
    1 ≤ n → n ≤ 512 → (s.story n).stage = .free → (∀ m, 1 ≤ m → m < n → (s.story m).stage ≠ .free) →
    ∃ t, exec i s = .next t ∧ Replied i .done (u16 n) s t ∧ Raised [.arrival desk n] s t ∧
      OnlyTouches [.stories, .desks, .fit, .lines, .channel] s t ∧
      t.story n =
        { slug := slug, desk := desk, priority := p, stage := .basket, style := style, holder := .absent, editCount := 0,
          text := [], chain := [], run := none, fit := .stale, changed := false, results := none } ∧
      SameStoriesBut n s t ∧
      t.fit = { s.fit with queue := s.fit.queue ++ [n] } ∧
      Joined t.rankOf n (s.desk desk).basket (t.desk desk).basket ∧
      (t.desk desk).urgent = countIn p (s.desk desk).urgent ∧ (t.desk desk).spikes = (s.desk desk).spikes ∧
      SameDesksBut desk s t ∧ DesksTold none [desk] (wokenBy p desk) s t

/-- NEW makes a story in the line's own desk as CREATE does, and the line holds it at once and is sent its window from copy line
0 (R10, R11). -/
def Obligations.NewMakesHeldStory : Prop :=
  ∀ (s : State) (k : Fin 32) (slug : List Byte) (style priority n : Nat) (p : Priority) (u : SignedOn),
    let i : Instr := .new k slug style priority
    s.takesFrame k i = true → slugOk slug = true → style < 32 → Priority.ofCode priority = some p →
    (s.line k).user = some u → u.desk < 16 → (s.line k).held = none →
    1 ≤ n → n ≤ 512 → (s.story n).stage = .free → (∀ m, 1 ≤ m → m < n → (s.story m).stage ≠ .free) →
    ∃ t, exec i s = .next t ∧ Served i k .done (u16 n) s t ∧ OnlyRaised [.arrival u.desk n] s t ∧
      OnlyTouches [.stories, .desks, .fit, .lines, .channel] s t ∧
      t.story n =
        { slug := slug, desk := u.desk, priority := p, stage := .basket, style := style, holder := .line k, editCount := 0,
          text := [], chain := [], run := none, fit := .stale, changed := false, results := none } ∧
      SameStoriesBut n s t ∧
      t.fit = { s.fit with queue := s.fit.queue ++ [n] } ∧
      Joined t.rankOf n (s.desk u.desk).basket (t.desk u.desk).basket ∧
      (t.desk u.desk).urgent = countIn p (s.desk u.desk).urgent ∧ (t.desk u.desk).spikes = (s.desk u.desk).spikes ∧
      SameDesksBut u.desk s t ∧ DesksTold (some k.val) [u.desk] (wokenBy p u.desk) s t ∧
      (t.line k).held = some n ∧ WindowShown k n 0 t

/-- A TEXT on a story in BASKET, or on a page in MAKEUP, that no line holds is carried out when the new text is within 999 lines
and a stored length of 32,768 and its blocks are free: APPEND adds the lines, REPLACE puts them in place of every line, REPLACE
RANGE in place of lines f to f+k-1. The reply carries the edit count, the line count and the block count (R3 to R8, R12 to R14).
The STORE notice goes before the FIT notice of R134 by inference (assumption 13). -/
def Obligations.TextChangesStory : Prop :=
  ∀ (s : State) (i : Instr) (n : Nat) (style : Option Nat) (new text : List CopyLine),
    s.takes i = true → 1 ≤ n → n ≤ 512 → optWithin 0 31 style = true → (∀ l ∈ new, lineOk l = true) →
    ((∃ tag, i = .textAppend tag n style new ∧ text = (s.story n).text ++ new) ∨
      (∃ tag, i = .textReplace tag n style new ∧ text = new) ∨
      ∃ tag f k, i = .textReplaceRange tag n style f k new ∧ f + k ≤ (s.story n).text.length ∧
        text = (s.story n).text.take f ++ new ++ (s.story n).text.drop (f + k)) →
    ((s.story n).stage = .basket ∨ (s.story n).stage = .placed) → (s.story n).holder.atLine = false →
    (∀ run ∈ (s.story n).run, (s.page run.page).state = .makeup) →
    text.length ≤ 999 → storedLength text ≤ 32768 →
    blocksFor (storedLength text) ≤ (s.story n).chain.length + s.store.free →
    ∃ t, exec i s = .next t ∧
      Replied i .done (u16 (t.story n).editCount ++ u16 text.length ++ u8 (t.story n).chain.length) s t ∧
      OnlyTouches [.stories, .store, .fit, .pages, .channel] s t ∧
      TextChanged n text style s t

/-- READ is refused with BAD FIELD on a story number no story could have or a first line past the line count, and with NO SUCH
on a FREE story. Otherwise it returns the longest run of whole lines from line f whose stored length is at most 4,080, so the
body never exceeds 4,096 bytes, and at least one line where f is below the line count; it changes no record (R15). The number of
lines returned is the count of their list, and takes two bytes at every length, the model's reading (assumptions 15, 31). -/
def Obligations.ReadReturnsLines : Prop :=
  ∀ (s : State) (tag : Byte) (n f : Nat),
    let i : Instr := .read tag n f
    let r := s.story n
    s.takes i = true →
    ∃ t, exec i s = .next t ∧ OnlyTouches [.channel] s t ∧ Raised [] s t ∧
      if n < 1 ∨ 512 < n then Replied i .badField [] s t
      else if r.stage = .free then Replied i .noSuch [] s t
      else if r.text.length < f then Replied i .badField [] s t
      else ∃ out rest, r.text.drop f = out ++ rest ∧ storedLength out ≤ 4080 ∧
        (∀ l ∈ rest.head?, 4080 < storedLength out + (l.length + 1)) ∧
        ((∀ l ∈ r.text, l.length ≤ 80) → f < r.text.length → out ≠ []) ∧
        let details := u16 n ++ u16 r.editCount ++ u16 r.text.length ++ u16 f ++ u16 out.length
          ++ out.flatMap (fun l => byte l.length :: l)
        details.length + 1 ≤ 4096 ∧ Replied i .done details s t

/-- PURGE frees a SPIKED or SET story: it leaves its spike list, or its slots stand empty at their depth and measure and its
page is judged afresh; its chain returns to the pool, which may clear the store-low latch; its record takes the FREE values; the
reply carries the blocks returned (R17). -/
def Obligations.PurgeFreesStory : Prop :=
  ∀ (s : State) (tag : Byte) (n : Nat),
    let i : Instr := .purge tag n
    let r := s.story n
    s.takes i = true → 1 ≤ n → n ≤ 512 → (r.stage = .spiked ∧ r.run = none ∨ r.stage = .set ∧ r.run.isSome = true) →
    ∃ t, exec i s = .next t ∧ Replied i .done (u8 r.chain.length) s t ∧
      OnlyTouches [.stories, .desks, .store, .pages, .channel] s t ∧
      t.story n = Story.freed ∧ SameStoriesBut n s t ∧
      t.store.free = s.store.free + r.chain.length ∧
      (t.store.low = if 512 ≤ t.store.free then false else s.store.low) ∧
      (r.stage = .spiked →
        t.desks = (s.updDesk r.desk fun d => { d with spikes := d.spikes.erase n }).desks ∧ t.pages = s.pages ∧
          Raised [] s t) ∧
      ∀ run ∈ r.run, t.desks = s.desks ∧ SamePagesBut run.page s t ∧ Raised (fitNotice run.page s t) s t ∧
        ∃ slots, t.page run.page = { s.page run.page with slots := slots, fit := t.judgement (t.page run.page) } ∧
          ∀ k, (t.page run.page).slot k = ((s.page run.page).slot k).map fun sl =>
            if sl.occupant.map Prod.fst = some n then { sl with occupant := none } else sl

/-! ### Desks, baskets and stages (chapter 2) -/

/-- ROUTE moves a story in BASKET, held by no one or by the requester, to the tail of its class in the basket of the desk named:
a departure and an arrival, or an arrival alone where the desk is its own. The requester's hold is released first, and a line
whose hold goes this way has its window record cleared and is sent its home screen (R28 to R30). -/
def Obligations.RouteMovesStory : Prop :=
  (∀ (s : State) (tag : Byte) (n desk : Nat),
    let i : Instr := .hostRoute tag n desk
    let r := s.story n
    s.takes i = true → 1 ≤ n → n ≤ 512 → desk < 16 → r.desk < 16 → r.stage = .basket →
    (r.holder = .absent ∨ r.holder = .channel) →
    ∃ t, exec i s = .next t ∧ Replied i .done (u16 n ++ u8 desk) s t ∧ Raised [.arrival desk n] s t ∧
      Routed none n desk s t) ∧
  ∀ (s : State) (k : Fin 32) (n desk : Nat),
    let i : Instr := .terminalRoute k n desk
    let r := s.story n
    s.takesFrame k i = true → 1 ≤ n → n ≤ 512 → desk < 16 → r.desk < 16 → r.stage = .basket →
    (r.holder = .absent ∧ (s.line k).onDesk r.desk = true ∨ r.holder = .line k) →
    ∃ t, exec i s = .next t ∧ Served i k .done (u16 n ++ u8 desk) s t ∧ OnlyRaised [.arrival desk n] s t ∧
      Routed (some k.val) n desk s t ∧ HoldAfterMove k (r.holder = .line k) s t

/-- PRIORITY changes the class of a story, and in BASKET the story arrives at the tail of its new class in its own basket, an
arrival and no departure; elsewhere only the field changes. The host names any story that is not FREE, a terminal the one it
holds (R31, R32). -/
def Obligations.PriorityReclasses : Prop :=
  (∀ (s : State) (tag : Byte) (n priority : Nat) (p : Priority),
    let i : Instr := .hostPriority tag n priority
    let r := s.story n
    s.takes i = true → Priority.ofCode priority = some p → 1 ≤ n → n ≤ 512 → r.stage ≠ .free → r.desk < 16 →
    ∃ t, exec i s = .next t ∧ Replied i .done [] s t ∧
      Raised (if r.stage = .basket then [.arrival r.desk n] else []) s t ∧ Reclassed none n p s t) ∧
  ∀ (s : State) (k : Fin 32) (n priority : Nat) (p : Priority),
    let i : Instr := .terminalPriority k priority
    let r := s.story n
    s.takesFrame k i = true → Priority.ofCode priority = some p → (s.line k).held = some n → 1 ≤ n → n ≤ 512 → r.desk < 16 →
    ∃ t, exec i s = .next t ∧ Served i k .done [] s t ∧
      OnlyRaised (if r.stage = .basket then [.arrival r.desk n] else []) s t ∧ Reclassed (some k.val) n p s t ∧
      (t.line k).held = some n ∧ (t.line k).window = (s.line k).window

/-- SPIKE takes a story out of its basket to the tail of its desk's spike list with fit NONE: off the fit queue, and its
computation in flight marked to be discarded. The requester's hold is released first; a terminal's role must not be REPORTER
(R33, R34, R24, R25). UNSPIKE takes a SPIKED story off its spike list to the tail of its class in its desk's basket, its fit
STALE at the tail of the fit queue; its text, edit count, class and last fit results are kept (R35). -/
def Obligations.SpikeAndUnspike : Prop :=
  (∀ (s : State) (tag : Byte) (n : Nat),
    let i : Instr := .hostSpike tag n
    let r := s.story n
    s.takes i = true → 1 ≤ n → n ≤ 512 → r.desk < 16 → r.stage = .basket → r.run = none →
    (r.holder = .absent ∨ r.holder = .channel) →
    ∃ t, exec i s = .next t ∧ Replied i .done [] s t ∧ Raised [] s t ∧ Spiked none n s t) ∧
  (∀ (s : State) (k : Fin 32) (n : Nat),
    let i : Instr := .terminalSpike k n
    let r := s.story n
    s.takesFrame k i = true → 1 ≤ n → n ≤ 512 → r.desk < 16 → r.stage = .basket → r.run = none →
    (s.line k).hasRole .reporter = false → (r.holder = .absent ∨ r.holder = .line k) →
    ∃ t, exec i s = .next t ∧ Served i k .done [] s t ∧ OnlyRaised [] s t ∧ Spiked (some k.val) n s t ∧
      HoldAfterMove k (r.holder = .line k) s t) ∧
  ∀ (s : State) (tag : Byte) (n : Nat),
    let i : Instr := .unspike tag n
    let r := s.story n
    s.takes i = true → 1 ≤ n → n ≤ 512 → r.desk < 16 → r.stage = .spiked → r.fit = .none → r.holder = .absent →
    ∃ t, exec i s = .next t ∧ Replied i .done [] s t ∧ Raised [.arrival r.desk n] s t ∧
      OnlyTouches [.stories, .desks, .fit, .lines, .channel] s t ∧
      t.story n = { r with stage := .basket, fit := .stale } ∧ SameStoriesBut n s t ∧
      t.fit = { s.fit with queue := s.fit.queue ++ [n] } ∧
      Joined t.rankOf n (s.desk r.desk).basket (t.desk r.desk).basket ∧
      (t.desk r.desk).spikes = (s.desk r.desk).spikes.erase n ∧
      (t.desk r.desk).urgent = countIn r.priority (s.desk r.desk).urgent ∧ SameDesksBut r.desk s t ∧
      DesksTold none [r.desk] (wokenBy r.priority r.desk) s t

/-- KILL returns the story's page to MAKEUP, whatever its state past it, then spikes the story off it: the slots it filled stand
empty at their depth and measure, its fit is NONE, off the fit queue or its computation marked to be discarded, the other
stories of the page are PLACED on their runs, those of a SET page out of date; a job of the page leaves the queue, or its port
with the FIFO flushed and the abort code pending, its record CANCELLED; the trim flag is clear; and the page is judged once,
with one FIT notice at most. No line is told of it but the killer's own. A terminal's role must not be REPORTER, and on a page
past MAKEUP must be SLOT with the override armed (R25, R36 to R38, R123, R140, R141, R150, R158). A job the port then takes is
placed in the units of assumption 35; that the FIFO of a job begun is filled in the same step, until it holds 448 codes or
nothing is left, is the model's choice (assumption 23). -/
def Obligations.KillSpikesPlacedStory : Prop :=
  (∀ (s : State) (tag : Byte) (n : Nat) (run : Run),
    let i : Instr := .hostKill tag n
    let r := s.story n
    s.takes i = true → 1 ≤ n → n ≤ 512 → r.desk < 16 → r.stage.onPage = true → r.run = some run →
    (r.holder = .absent ∨ r.holder = .channel) →
    1 ≤ run.page → run.page ≤ 48 → (s.page run.page).state ≠ .closed → PageAgrees run.page s →
    ((s.page run.page).state = .setting → ∃ p, JobAt run.page p s) →
    ∃ t, exec i s = .next t ∧ Replied i .done [] s t ∧ Raised (fitNotice run.page s t) s t ∧
      OnlyTouches [.stories, .desks, .fit, .pages, .output, .channel] s t ∧ Killed n run.page s t) ∧
  ∀ (s : State) (k : Fin 32) (n : Nat) (run : Run),
    let i : Instr := .terminalKill k n
    let r := s.story n
    s.takesFrame k i = true → 1 ≤ n → n ≤ 512 → r.desk < 16 → r.stage.onPage = true → r.run = some run →
    (s.line k).hasRole .reporter = false → (r.holder = .absent ∨ r.holder = .line k) →
    1 ≤ run.page → run.page ≤ 48 → (s.page run.page).state ≠ .closed → PageAgrees run.page s →
    ((s.page run.page).state ≠ .makeup → (s.line k).hasRole .slot = true ∧ (s.line k).override = true) →
    ((s.page run.page).state = .setting → ∃ p, JobAt run.page p s) →
    ∃ t, exec i s = .next t ∧ Served i k .done [] s t ∧ OnlyRaised (fitNotice run.page s t) s t ∧
      OnlyTouches [.stories, .desks, .fit, .pages, .output, .lines, .channel] s t ∧ Killed n run.page s t ∧
      SameLinesBut k s t ∧ HoldAfterMove k (r.holder = .line k) s t

/-! ### Holds on open copy (chapter 3) -/

/-- OPEN gives an unheld story in BASKET, or on a page in MAKEUP, to the requester. At a terminal the line holds it, or goes on
holding it, and is sent its window from copy line 0; a REPORTER opens its own desk's stories alone. The host's OPEN sends
nothing. Both answer the story number, edit count and line count (R44 to R46). -/
def Obligations.OpenTakesHold : Prop :=
  (∀ (s : State) (tag : Byte) (n : Nat),
    let i : Instr := .hostOpen tag n
    let r := s.story n
    s.takes i = true → 1 ≤ n → n ≤ 512 → (r.stage = .basket ∨ r.stage = .placed) →
    (∀ run ∈ r.run, (s.page run.page).state = .makeup) → (r.holder = .absent ∨ r.holder = .channel) →
    ∃ t, exec i s = .next t ∧ Replied i .done (u16 n ++ u16 r.editCount ++ u16 r.text.length) s t ∧ Raised [] s t ∧
      OnlyTouches [.stories, .channel] s t ∧ t.story n = { r with holder := .channel } ∧ SameStoriesBut n s t) ∧
  ∀ (s : State) (k : Fin 32) (n : Nat),
    let i : Instr := .terminalOpen k n
    let r := s.story n
    s.takesFrame k i = true → 1 ≤ n → n ≤ 512 → (r.stage = .basket ∨ r.stage = .placed) →
    (∀ run ∈ r.run, (s.page run.page).state = .makeup) →
    ((s.line k).hasRole .reporter = true → (s.line k).onDesk r.desk = true) →
    (r.holder = .absent ∧ (s.line k).held = none ∨ r.holder = .line k ∧ (s.line k).held = some n) →
    ∃ t, exec i s = .next t ∧ Served i k .done (u16 n ++ u16 r.editCount ++ u16 r.text.length) s t ∧
      OnlyTouches [.stories, .lines] s t ∧ SameLinesBut k s t ∧
      t.story n = { r with holder := .line k } ∧ SameStoriesBut n s t ∧
      (t.line k).held = some n ∧ WindowShown k n 0 t

/-- A host CLOSE is refused with BAD FIELD on a number no story could have, with NO SUCH on a FREE story and with STATE where
the channel is not the holder; otherwise the channel's hold on that story is released and nothing else changes. -/
def Obligations.HostCloseReleasesChannelHold : Prop :=
  ∀ (s : State) (tag : Byte) (n : Nat),
    let i : Instr := .hostClose tag n
    s.takes i = true →
    ∃ t, exec i s = .next t ∧ Raised [] s t ∧
      if n < 1 ∨ 512 < n then Replied i .badField [] s t ∧ OnlyTouches [.channel] s t
      else if (s.story n).stage = .free then Replied i .noSuch [] s t ∧ OnlyTouches [.channel] s t
      else if (s.story n).holder ≠ .channel then Replied i .state [] s t ∧ OnlyTouches [.channel] s t
      else Replied i .done [] s t ∧ OnlyTouches [.stories, .channel] s t ∧
        t.story n = { s.story n with holder := .absent } ∧ SameStoriesBut n s t

/-- CLOSE lets go of the line's held story: no holder, no held story, an empty window record, the dim timer set to the dim time
and the home screen sent (R44, R47). FREE withdraws whatever hold a story has and names its holder: a live line is told of it in
a status line that keeps the story, an orphan goes with no ORPHAN notice (R51, R93). An orphan whose timer has at most a second
left expires: its hold is released and the ORPHAN notice raised (R54); that a timer with more left does not expire is the
model's reading (assumption 10). -/
def Obligations.HoldsReleased : Prop :=
  (∀ (s : State) (k : Fin 32) (n : Nat),
    let i : Instr := .terminalClose k
    s.takesFrame k i = true → (s.line k).held = some n → 1 ≤ n → n ≤ 512 → (s.story n).holder = .line k →
    ∃ t, exec i s = .next t ∧ Served i k .done (u16 n) s t ∧ OnlyTouches [.stories, .lines] s t ∧ SameLinesBut k s t ∧
      t.story n = { s.story n with holder := .absent } ∧ SameStoriesBut n s t ∧
      (t.line k).held = none ∧ (t.line k).window = none ∧ HomeShown k t ∧
      ((t.line k).state = .ready →
        (t.line k).dimTimer = if (s.line k).dimTime = 0 then none else some (s.line k).dimTime)) ∧
  (∀ (s : State) (tag : Byte) (n : Nat),
    let i : Instr := .free tag n
    let h := (s.story n).holder
    s.takes i = true → 1 ≤ n → n ≤ 512 → (s.story n).stage ≠ .free → h ≠ .absent →
    ∃ t, exec i s = .next t ∧ Replied i .done (holderBytes h) s t ∧ Raised [] s t ∧
      OnlyTouches [.stories, .lines, .channel] s t ∧
      t.story n = { s.story n with holder := .absent } ∧ SameStoriesBut n s t ∧
      (h = .channel → t.lines = s.lines) ∧
      (∀ k user seconds, k < 32 → h = .orphan k user seconds → SameLinesBut k s t ∧
        t.line k = { s.line k with held := none, lamp := (t.line k).lamp }) ∧
      ∀ k < 32, h = .line k → (s.line k).state = .ready → SameLinesBut k s t ∧
        t.line k = { s.line k with
          held := none, window := none, withdrawn := some n
          dimTimer := if (s.line k).dimTime = 0 then none else some (s.line k).dimTime
          status := (t.line k).status, lamp := (t.line k).lamp } ∧
        ∀ u ∈ (s.line k).user, (t.line k).status = some (t.statusLine k u (some n))) ∧
  ∀ (s : State) (n k user seconds : Nat),
    (s.story n).holder = .orphan k user seconds → 1 ≤ n → n ≤ 512 → k < 32 →
    ∃ t, exec (.orphanExpiry n) s = .next t ∧
      if 1 < seconds then t = s
      else OnlyTouches [.stories, .lines, .channel] s t ∧ OnlyRaised [.orphan n user k] s t ∧
        t.story n = { s.story n with holder := .absent } ∧ SameStoriesBut n s t ∧ SameLinesBut k s t ∧
        t.line k = { s.line k with held := none, lamp := (t.line k).lamp }

/-- HOLDTIME sets the orphan window, clamped to 10 to 600, answers the window now in force, and moves no orphan timer that runs.
A hold orphaned by a carrier drop starts at the window in force. The window is 120 at power reset and RESTART keeps it. -/
def Obligations.HoldtimeSetsOrphanWindow : Prop :=
  (∀ (s : State) (tag : Byte) (seconds : Nat),
    let i : Instr := .holdtime tag seconds
    s.takes i = true →
    ∃ t, exec i s = .next t ∧ Replied i .done (u16 t.orphanWindow) s t ∧ Raised [] s t ∧
      OnlyTouches [.orphanWindow, .channel] s t ∧
      t.orphanWindow = if seconds < 10 then 10 else if 600 < seconds then 600 else seconds) ∧
  (∀ (s : State) (k : Fin 32) (n : Nat) (u : SignedOn),
    (s.line k).state = .ready → (s.line k).held = some n → (s.line k).user = some u → 1 ≤ n → n ≤ 512 →
    ∃ t, exec (.carrierDrop k) s = .next t ∧ (t.story n).holder = .orphan k u.user s.orphanWindow) ∧
  (∀ s : State, ∃ t, exec .powerReset s = .next t ∧ t.orphanWindow = 120) ∧
  ∀ s : State, ∃ t, exec .restartTakesEffect s = .next t ∧ t.orphanWindow = s.orphanWindow

/-! ### Terminal lines (chapter 4) -/

/-- LINESET gives the fields present their new values, the dim time clamped, and answers the configuration; speed and model only
on a DISABLED line; a dim time carried for a READY line sets its dim timer (R62), one already in force as well, the model's
reading (assumption 19). A wake flag's code is 0 for on and 1 for off (assumption 2). LINESTAT answers the line as it stands, in
the form of assumption 30, then clears its five latches and sets an ERROR lamp anew (R70). -/
def Obligations.LineSettings : Prop :=
  (∀ (s : State) (tag : Byte) (k : Nat) (speed model dimTime wakeFlash wakeUrgent : Option Nat),
    let i : Instr := .lineset tag k speed model dimTime wakeFlash wakeUrgent
    let l := s.line k
    s.takes i = true → k < 32 → (∀ v ∈ speed, v ∈ [1200, 2400, 4800, 9600, 19200]) → (∀ m ∈ model, m ≤ 1) →
    (∀ c ∈ wakeFlash, c ≤ 1) → (∀ c ∈ wakeUrgent, c ≤ 1) →
    (l.state = .disabled ∨ speed = none ∧ model = none) →
    ∃ t, exec i s = .next t ∧ Replied i .done (configBytes (t.line k)) s t ∧ Raised [] s t ∧
      OnlyTouches [.lines, .channel] s t ∧ SameLinesBut k s t ∧
      let dim := match dimTime with
        | none => l.dimTime
        | some v => if v = 0 then 0 else if v < 60 then 60 else if 3600 < v then 3600 else v
      t.line k = { l with
        speed := speed.getD l.speed, model := model.getD l.model, dimTime := dim
        wakeFlash := (wakeFlash.map fun c => c == 0).getD l.wakeFlash
        wakeUrgent := (wakeUrgent.map fun c => c == 0).getD l.wakeUrgent
        dimTimer := if l.state = .ready ∧ dimTime.isSome = true then dimSet dim else l.dimTimer }) ∧
  ∀ (s : State) (tag : Byte) (k : Nat),
    let i : Instr := .linestat tag k
    s.takes i = true → k < 32 →
    ∃ t, exec i s = .next t ∧ Replied i .done (lineBytes s (s.line k)) s t ∧ Raised [] s t ∧
      OnlyTouches [.lines, .channel] s t ∧ SameLinesBut k s t ∧
      t.line k = { s.line k with latches := .clear, lamp := (t.line k).lamp } ∧
      (t.line k).lamp =
        if (s.line k).latches.any = true ∧ (s.line k).lampSource = .error then false else (s.line k).lamp

/-- LINEON enables a DISABLED line: with carrier to IDLE and a BLANK frame, without it to LOST and the LINE notice (R63).
LINEOFF disables a line from any state, its session ended, its hold released with no ORPHAN notice, its latches clear and its
lamp off, with the LINE notice only for a LOST line; a DISABLED line it leaves as it is (R52, R64, R67). -/
def Obligations.LineonAndLineoff : Prop :=
  (∀ (s : State) (tag : Byte) (k : Nat),
    let i : Instr := .lineon tag k
    let l := s.line k
    s.takes i = true → k < 32 → l.state = .disabled →
    ∃ t, exec i s = .next t ∧ Replied i .done (u8 (if l.carrier = true then 1 else 5)) s t ∧
      Raised (if l.carrier = true then [] else [.line k .lost 0]) s t ∧
      OnlyTouches [.lines, .channel] s t ∧ SameLinesBut k s t ∧
      t.line k = { l with
        state := if l.carrier = true then .idle else .lost
        display := if l.carrier = true then some .blank else l.display
        lamp := t.lampLit k (t.line k) }) ∧
  ∀ (s : State) (tag : Byte) (k : Nat),
    let i : Instr := .lineoff tag k
    let l := s.line k
    s.takes i = true → k < 32 → HoldAgrees k s →
    ∃ t, exec i s = .next t ∧ Replied i .done [] s t ∧
      if l.state = .disabled then OnlyTouches [.channel] s t ∧ Raised [] s t
      else OnlyTouches [.stories, .lines, .flashes, .channel] s t ∧
        Raised (if l.state = .lost then [.line k .disabled 0] else []) s t ∧ SameLinesBut k s t ∧
        t.line k = { l.sessionless with state := .disabled, held := none, latches := .clear, lamp := false } ∧
        HeldStoryFreed k s t ∧ t.flashes = unseenWithout k s.flashes

/-- A carrier drop sends a line in IDLE, SIGNING, READY or DIM to LOST: its session ended, its latches kept, a READY line's hold
made an orphan of its user at the orphan window, the LINE notice raised with the story it stands for; elsewhere only the input
falls (R53, R65, R67). A carrier return sends a LOST line to IDLE with a BLANK frame and the LINE notice; elsewhere only the
input rises (R66). A drop at a LOST line, or a return at one in IDLE, SIGNING, READY or DIM, cannot happen by the reference;
that only the input moves there is the model's choice (assumption 14). -/
def Obligations.CarrierDropAndReturn : Prop :=
  (∀ (s : State) (k : Fin 32),
    let l := s.line k
    HoldAgrees k s →
    ∃ t, exec (.carrierDrop k) s = .next t ∧ SameLinesBut k s t ∧
      if l.state = .disabled ∨ l.state = .lost then OnlyTouches [.lines] s t ∧ t.line k = { l with carrier := false }
      else OnlyTouches [.stories, .lines, .flashes, .channel] s t ∧
        OnlyRaised [.line k .lost (l.held.getD 0)] s t ∧
        t.line k = { l.sessionless with state := .lost, carrier := false, lamp := t.lampLit k (t.line k) } ∧
        t.flashes = unseenWithout k s.flashes ∧
        (∀ n u, l.state = .ready → l.held = some n → l.user = some u →
          t.story n = { s.story n with holder := .orphan k u.user s.orphanWindow } ∧ SameStoriesBut n s t) ∧
        (l.state ≠ .ready ∨ l.held = none → t.stories = s.stories)) ∧
  ∀ (s : State) (k : Fin 32),
    let l := s.line k
    ∃ t, exec (.carrierReturn k) s = .next t ∧ OnlyTouches [.lines, .channel] s t ∧ SameLinesBut k s t ∧
      if l.state = .lost then OnlyRaised [.line k .idle 0] s t ∧
        t.line k = { l with state := .idle, carrier := true, display := some .blank, lamp := t.lampLit k (t.line k) }
      else OnlyRaised [] s t ∧ t.line k = { l with carrier := true }

/-- SIGNON of a user number 1 to 9,999 on an IDLE line sends it to SIGNING with 30 seconds to wait, the request in service with
no answer yet, and the SIGNON notice (R74, R75). DENY of a SIGNING line answers DENIED, and a timeout NO ANSWER: the line is
back in IDLE, its orphan, if any, untouched (R77, R78). A VERDICT for a line not in SIGNING changes nothing: TOO LATE after a
timeout or an abandonment, STATE otherwise (R77). -/
def Obligations.SignonDenyAndTimeout : Prop :=
  (∀ (s : State) (k : Fin 32) (user : Nat),
    let i : Instr := .signon k user
    s.takesFrame k i = true → (s.line k).state = .idle → (∀ v ∈ (s.line k).service, v.kind = i.kind) →
    1 ≤ user → user ≤ 9999 →
    ∃ t, exec i s = .next t ∧ OnlyTouches [.lines, .channel] s t ∧ OnlyRaised [.signon k user] s t ∧ SameLinesBut k s t ∧
      t.line k = { s.line k with
        state := .signing, signonUser := some user, outcome := .pending, signonTimer := some 30
        service := some { kind := kindWord "SIGNON", cmd := some i, stage := .taken } }) ∧
  (∀ (s : State) (tag : Byte) (k : Nat),
    let i : Instr := .verdictDeny tag k
    s.takes i = true → k < 32 → (s.line k).state = .signing →
    ∃ t, exec i s = .next t ∧ Replied i .done [] s t ∧ Raised [] s t ∧ OnlyTouches [.lines, .channel] s t ∧
      SameLinesBut k s t ∧ SignonEnded k .denied .denied s t) ∧
  (∀ (s : State) (k : Fin 32) (seconds : Nat),
    (s.line k).state = .signing → (s.line k).signonTimer = some seconds → seconds ≤ 1 →
    ∃ t, exec (.signonTimeout k) s = .next t ∧ OnlyTouches [.lines] s t ∧ SameLinesBut k s t ∧
      SignonEnded k .timedOut .noAnswer s t) ∧
  ∀ (s : State) (i : Instr) (k : Nat),
    ((∃ tag, i = .verdictDeny tag k) ∨ ∃ tag desk role, i = .verdictGrant tag k desk role ∧ desk < 16 ∧ role ≤ 2) →
    s.takes i = true → k < 32 → (s.line k).state ≠ .signing →
    ∃ t, exec i s = .next t ∧ OnlyTouches [.channel] s t ∧
      Replied i
        (if (s.line k).outcome = .timedOut ∨ (s.line k).outcome = .abandoned then .tooLate else .state) [] s t

/-- GRANT signs the user on at a SIGNING line, in one event: an orphan of another user at the line is released, the user's own
orphan (at this line, else at the lowest-numbered) resumes here as a live hold, the line is READY with the user, desk and role,
it joins the unseen set of each flash of its desk, the SIGNON is answered, and the home screen, a status line, the dim timer and
the lamp follow; the reply names the story released and the story resumed (R55, R56, R76). With none resumed the answer ends
after the story number 0, the model's reading (assumption 25). -/
def Obligations.GrantSignsUserOn : Prop :=
  ∀ (s : State) (tag : Byte) (k desk user : Nat) (role : Nat) (r : Role),
    let i : Instr := .verdictGrant tag k desk role
    s.takes i = true → k < 32 → desk < 16 → Role.ofCode role = some r →
    (s.line k).state = .signing → (s.line k).signonUser = some user →
    (∀ m < 32, HoldAgrees m s) → (∀ n, (s.story n).holder ≠ .line k) →
    ∃ t released resumed,
      (∀ n, released = some n ↔ (s.line k).held = some n ∧ ∃ u v, u ≠ user ∧ OrphanOf u k v n s) ∧
      (∀ n v, OrphanOf user k v n s → resumed = some n) ∧
      (∀ m n v, m < 32 → OrphanOf user m v n s → (∀ q < 32, q < m ∨ q = k → ∀ p w, ¬OrphanOf user q w p s) →
        resumed = some n) ∧
      ((∀ m < 32, ∀ n v, ¬OrphanOf user m v n s) → resumed = none) ∧
      exec i s = .next t ∧ Replied i .done (u16 (released.getD 0) ++ u16 (resumed.getD 0)) s t ∧ Raised [] s t ∧
      OnlyTouches [.stories, .lines, .flashes, .channel] s t ∧
      (t.line k).state = .ready ∧ (t.line k).user = some { user := user, desk := desk, role := r } ∧
      (t.line k).outcome = .granted ∧ (t.line k).signonTimer = none ∧
      (t.line k).dimTimer = dimSet (s.line k).dimTime ∧ (t.line k).override = false ∧
      Answered k (kindWord "SIGNON") .done
        (u8 desk ++ u8 r.code ++
          ((resumed.map fun n => u16 n ++ u16 (s.story n).editCount).getD (u16 0))) t ∧
      HomeShown k t ∧
      (t.line k).status =
        some (t.statusLine k { user := user, desk := desk, role := r } (s.line k).withdrawn) ∧
      (t.line k).lamp = t.lampLit k (t.line k) ∧
      (t.line k).held = resumed ∧
      (∀ n ∈ resumed, t.story n = { s.story n with holder := .line k }) ∧
      (∀ n ∈ released, resumed ≠ some n → t.story n = { s.story n with holder := .absent }) ∧
      (∀ n, resumed ≠ some n → released ≠ some n → t.story n = s.story n) ∧
      (∀ m < 32, m ≠ k → t.line m =
        if resumed.isSome = true ∧ (s.line m).held = resumed then
          { s.line m with held := none, lamp := (t.line m).lamp } else s.line m) ∧
      t.flashes.next = s.flashes.next ∧
      t.flashes.list = s.flashes.list.map fun e =>
        if maskHas e.mask desk = true then { e with unseen := insertLine k e.unseen } else e

/-- SIGNOFF releases the held story, drops the user, override, window record and dim timer, takes the line out of every unseen
set, and sends it to IDLE with a BLANK frame in place of any other and no status line (R52, R79). ARM on a SLOT line arms the
override, and on any other line is answered DENIED (R27). A READY line that holds nothing and serves nothing goes to DIM with a
BLANK frame when its dim timer reaches 0, its user and flash marks kept (R80). -/
def Obligations.SignoffArmAndDim : Prop :=
  (∀ (s : State) (k : Fin 32),
    let i : Instr := .signoff k
    s.takesFrame k i = true → HoldAgrees k s →
    ∃ t, exec i s = .next t ∧ OnlyTouches [.stories, .lines, .flashes] s t ∧ SameLinesBut k s t ∧
      Answered k i.kind .done [] t ∧ HeldStoryFreed k s t ∧ t.flashes = unseenWithout k s.flashes ∧
      t.line k = { s.line k with
        state := .idle, user := none, held := none, window := none, override := false, dimTimer := none
        withdrawn := none, display := some .blank, status := none, lamp := t.lampLit k (t.line k)
        answer := (t.line k).answer, service := (t.line k).service } ∧
      (t.line k).service.map (fun v => v.stage) = some .answered) ∧
  (∀ (s : State) (k : Fin 32),
    let i : Instr := .arm k
    s.takesFrame k i = true →
    ∃ t, exec i s = .next t ∧ OnlyTouches [.lines] s t ∧ SameLinesBut k s t ∧
      (if (s.line k).hasRole .slot = true then Served i k .done [] s t ∧ (t.line k).override = true
       else Served i k .denied [] s t ∧ (t.line k).override = (s.line k).override) ∧
      (t.line k).held = (s.line k).held ∧ (t.line k).window = (s.line k).window) ∧
  ∀ (s : State) (k : Fin 32) (seconds : Nat),
    (s.line k).state = .ready → (s.line k).held = none → (s.line k).service = none → (s.line k).dimTime ≠ 0 →
    (s.line k).dimTimer = some seconds → seconds ≤ 1 →
    ∃ t, exec (.dim k) s = .next t ∧ OnlyTouches [.lines] s t ∧ SameLinesBut k s t ∧
      t.line k = { s.line k with state := .dim, dimTimer := none, display := some .blank }

/-! ### Screens, flashes and lamps (chapter 5) -/

/-- WINDOW sends the held story from line f, or with f absent from the window record's first line, 0 for an empty record (R86,
R87). RETURN puts the new lines in place of k lines from f, or of the lines the window record shows, as one text change, and
sends the window from f again (R86, R88, R89, with R3 and R5 to R8 for the text), with the STORE notice of R7 before the FIT
notice of R134 by inference (assumption 13), and the OVERSET lamp of the line set anew (R89). -/
def Obligations.WindowAndReturn : Prop :=
  (∀ (s : State) (k : Fin 32) (first : Option Nat) (n f : Nat),
    let i : Instr := .window k first
    s.takesFrame k i = true → (s.line k).held = some n →
    (first = some f ∧ f ≤ 999 ∧ f ≤ (s.story n).text.length ∨
      first = none ∧ f = ((s.line k).window.map fun w => w.first).getD 0) →
    ∃ t, exec i s = .next t ∧
      Served i k .done (u16 f ++ u8 (min (s.line k).windowSize ((s.story n).text.length - f))) s t ∧
      OnlyTouches [.lines] s t ∧ SameLinesBut k s t ∧ (t.line k).held = some n ∧ WindowShown k n f t) ∧
  ∀ (s : State) (k : Fin 32) (range : Option (Nat × Nat)) (new text : List CopyLine) (n f c : Nat),
    let i : Instr := .ret k range new
    let r := s.story n
    s.takesFrame k i = true → (s.line k).held = some n → 1 ≤ n → n ≤ 512 →
    (range = some (f, c) ∨ range = none ∧ (s.line k).window = some { first := f, shown := c }) →
    f ≤ 999 → c ≤ (s.line k).windowSize → new.length ≤ 40 → (∀ l ∈ new, lineOk l = true) → f + c ≤ r.text.length →
    (r.stage = .basket ∨ r.stage = .placed ∧ ∃ run, r.run = some run ∧ (s.page run.page).state = .makeup) →
    text = r.text.take f ++ new ++ r.text.drop (f + c) →
    text.length ≤ 999 → storedLength text ≤ 32768 → blocksFor (storedLength text) ≤ r.chain.length + s.store.free →
    ∃ t, exec i s = .next t ∧ Served i k .done (u16 (t.story n).editCount ++ u16 text.length) s t ∧
      OnlyTouches [.stories, .store, .fit, .pages, .lines, .channel] s t ∧
      TextChanged n text none s t ∧ HolderTold (some k.val) n t s t ∧
      ((t.line k).lamp = if r.holder = .line k ∧ (s.line k).lampSource = .overset then t.lampLit k (t.line k)
        else (s.line k).lamp) ∧ (t.line k).held = some n ∧ WindowShown k n f t

/-- HOME is refused with BAD FIELD on a desk above 15 or a position past the basket's length; otherwise the home screen of that
desk (its own when none is carried) from that position (0 when none is carried) enters the display slot, in place of any, and
the answer carries the desk and the basket's length; the window record, the hold and every story stand (R92). A refused HOME
leaves the display slot as it stands, where no DIM line's wake fills it. -/
def Obligations.HomeListsBasket : Prop :=
  ∀ (s : State) (k : Fin 32) (desk first : Option Nat) (u : SignedOn),
    let i : Instr := .home k desk first
    let d := desk.getD u.desk
    let p := first.getD 0
    s.takesFrame k i = true → (s.line k).user = some u →
    ∃ t, exec i s = .next t ∧ OnlyTouches [.lines] s t ∧ SameLinesBut k s t ∧
      (t.line k).held = (s.line k).held ∧ (t.line k).window = (s.line k).window ∧
      if 15 < d ∨ (s.desk d).basket.length < p then
        Served i k .badField [] s t ∧ ((s.line k).state ≠ .dim → (t.line k).display = (s.line k).display)
      else Served i k .done (u8 d ++ u16 (s.desk d).basket.length) s t ∧
        (t.line k).display = some (.home (s.homeScreen d p (s.line k).windowSize))

/-- SEEN is taken into service from a READY line in every role and from a DIM line after its wake; it removes the line from
every unseen set, answers how many held it, puts a status line with no unseen flash into the slot, and sets a FLASH lamp anew
(R97). -/
def Obligations.SeenAcknowledgesFlashes : Prop :=
  (∀ (s : State) (k : Fin 32),
    ((s.line k).state = .ready ∨ (s.line k).state = .dim) → (s.line k).service = none →
    s.takesFrame k (.seen k) = true) ∧
  ∀ (s : State) (k : Fin 32),
    let i : Instr := .seen k
    s.takesFrame k i = true →
    ∃ t, exec i s = .next t ∧ OnlyTouches [.lines, .flashes] s t ∧ SameLinesBut k s t ∧
      Served i k .done (u8 (s.flashes.list.countP fun e => e.unseen.contains k.val)) s t ∧
      t.flashes = unseenWithout k s.flashes ∧
      (t.line k).held = (s.line k).held ∧ (t.line k).window = (s.line k).window ∧
      ((t.line k).state = .ready → ∀ u ∈ (t.line k).user,
        (t.line k).status = some (t.statusLine k u (t.line k).withdrawn) ∧
        (t.statusLine k u (t.line k).withdrawn).flash = none) ∧
      (t.line k).lamp = if (s.line k).lampSource = .flash then false else (s.line k).lamp

/-- FLASH puts a new entry at the head of the flash list, the oldest dropping out of a full one, unseen by every READY or DIM
line whose desk is in the mask; READY lines whose newest unseen flash has changed get a status line, DIM ones with wake-on-flash
wake to the home screen of their own desk with the dim timer set, FLASH lamps are set anew; the reply carries the new number,
the removed one or 0, and how many lines are to see it (R95, R96, R81). -/
def Obligations.FlashReachesDesks : Prop :=
  ∀ (s : State) (tag : Byte) (text : List Byte) (mask : BitVec 16) (unseen : List Nat),
    let i : Instr := .flash tag text mask
    let gone := if 8 ≤ s.flashes.list.length then s.flashes.list.getLast? else none
    s.takes i = true → 1 ≤ text.length → text.length ≤ 60 → (∀ c ∈ text, 32 ≤ c.toNat ∧ c.toNat ≤ 126) → mask ≠ 0 →
    unseen = (List.range 32).filter (fun k =>
      ((s.line k).state == .ready || (s.line k).state == .dim) && (s.line k).user.any fun u => mask.getLsbD u.desk) →
    ∃ t, exec i s = .next t ∧
      Replied i .done (u8 s.flashes.next ++ u8 ((gone.map fun e => e.number).getD 0) ++ u8 unseen.length) s t ∧
      Raised [] s t ∧ OnlyTouches [.flashes, .lines, .channel] s t ∧
      t.flashes.next = (if s.flashes.next = 255 then 1 else s.flashes.next + 1) ∧
      t.flashes.list = { number := s.flashes.next, text := text, mask := mask, unseen := unseen } ::
        (if 8 ≤ s.flashes.list.length then s.flashes.list.dropLast else s.flashes.list) ∧
      ∀ k < 32,
        (s.line k).sameSession (t.line k) ∧
        (if (s.line k).state = .dim ∧ k ∈ unseen ∧ (s.line k).wakeFlash = true then
          (t.line k).state = .ready ∧ (t.line k).dimTimer = dimSet (s.line k).dimTime ∧
          ∀ u ∈ (s.line k).user, (t.line k).display = some (.home (t.homeScreen u.desk 0 (s.line k).windowSize))
        else (t.line k).state = (s.line k).state ∧ (t.line k).dimTimer = (s.line k).dimTimer ∧
          (t.line k).display = (s.line k).display) ∧
        ((t.line k).state = .ready → (k ∈ unseen ∨ gone.isSome = true ∧ s.newestUnseen k = gone) →
          ∀ u ∈ (s.line k).user, (t.line k).status = some (t.statusLine k u (s.line k).withdrawn)) ∧
        ((s.line k).lampSource = .flash → (k ∈ unseen ∨ ∃ e ∈ gone, k ∈ e.unseen) →
          (t.line k).lamp = t.lampLit k (t.line k)) ∧
        (gone = none → k ∉ unseen → t.line k = s.line k)

/-- Each source lights the lamp as the table of R98 gives: BASKET, URGENT, FLASH, DEADLINE and OVERSET only with a user signed
on, and none on a DISABLED line. LAMP is refused with BAD FIELD on a line above 31 or a source other than the eight; otherwise
the source takes the new value and the lamp is set anew from it at once, in every state of the line, and the reply says whether
it is lit. LINEOFF and RESTART keep the source; power reset returns it to BASKET (R98 to R100). The reply's code of lit and the
codes of the sources follow assumption 2. -/
def Obligations.LampFollowsItsSource : Prop :=
  (∀ (s : State) (k : Nat) (l : Line), s.lampLit k l = true ↔ LampLights s k l) ∧
  (∀ (s : State) (tag : Byte) (k source : Nat),
    let i : Instr := .lamp tag k source
    s.takes i = true →
    ∃ t, exec i s = .next t ∧ Raised [] s t ∧
      if 31 < k ∨ 7 < source then Replied i .badField [] s t ∧ OnlyTouches [.channel] s t
      else OnlyTouches [.lines, .channel] s t ∧ SameLinesBut k s t ∧
        Replied i .done (u8 (if (t.line k).lamp = true then 1 else 0)) s t ∧
        (t.line k).lampSource.code = source ∧
        t.line k = { s.line k with lampSource := (t.line k).lampSource, lamp := t.lampLit k (t.line k) } ∧
        ((s.line k).state = .disabled → (t.line k).lamp = false)) ∧
  (∀ (s : State) (tag : Byte) (m k : Nat), ∃ t, exec (.lineoff tag m) s = .next t ∧
    (t.line k).lampSource = (s.line k).lampSource) ∧
  (∀ (s : State) (k : Nat), ∃ t, exec .restartTakesEffect s = .next t ∧
    (t.line k).lampSource = (s.line k).lampSource) ∧
  ∀ (s : State) (k : Nat), ∃ t, exec .powerReset s = .next t ∧ (t.line k).lampSource = .basket

/-! ### Copyfitting (chapter 6) and the translation table (chapter 8) -/

/-- STYLE and WIDTHS, with no page in RELEASING, QUEUED or SETTING, store their fields and make every story in BASKET or PLACED
out of date as one step; XLATE stores its entries and touches no fit. Each leaves the rest of its table as it was (R102 to R106,
R145, R146). FIT notices of one load in page order are the model's choice (assumption 9). -/
def Obligations.TablesLoaded : Prop :=
  (∀ (s : State) (tag : Byte) (n : Nat) (f : StyleFields) (y : Style),
    let i : Instr := .style tag n f
    s.takes i = true → n < 32 → s.tablesFrozen = false → y = (s.style n).merge f → y.ok = true →
    ∃ t, exec i s = .next t ∧
      Replied i .done (u8 y.font ++ u8 y.size ++ u16 y.leading ++ u8 y.indent ++ u8 y.wordSpace ++ u8 y.paraSpace
        ++ u16 y.measure ++ s.loadReport) s t ∧
      OnlyTouches [.stories, .fit, .pages, .lines, .channel] s t ∧
      t.style n = y ∧ (∀ m, m ≠ n → t.style m = s.style m) ∧ t.fit.widths = s.fit.widths ∧ TableLoaded s t) ∧
  (∀ (s : State) (tag : Byte) (font c : Nat) (values : List Nat),
    let i : Instr := .widths tag font c values
    s.takes i = true → font < 8 → 33 ≤ c → values ≠ [] → c + values.length ≤ 127 → s.tablesFrozen = false →
    ∃ t, exec i s = .next t ∧
      Replied i .done (u8 font ++ u8 c ++ u8 values.length ++ u8 (values.countP fun w => decide (72 < w))
        ++ s.loadReport) s t ∧
      OnlyTouches [.stories, .fit, .pages, .lines, .channel] s t ∧
      (∀ f code, f < 8 → 33 ≤ code → code ≤ 126 →
        ((t.fit.widths[f]?).bind fun v => v[code - 33]?) =
          if f = font ∧ c ≤ code ∧ code < c + values.length then (values[code - c]?).map (min 72)
          else (s.fit.widths[f]?).bind fun v => v[code - 33]?) ∧
      t.fit.styles = s.fit.styles ∧ TableLoaded s t) ∧
  ∀ (s : State) (tag : Byte) (c : Nat) (entries : List (List Nat)),
    let i : Instr := .xlate tag c entries
    s.takes i = true → entries ≠ [] → c + entries.length ≤ 128 → (32 < c ∨ c + entries.length ≤ 32) →
    (∀ e ∈ entries, e.length ≤ 2 ∧ ∀ v ∈ e, v ≤ 255) → s.tablesFrozen = false →
    ∃ t, exec i s = .next t ∧ Replied i .done (u8 c ++ u8 entries.length) s t ∧ Raised [] s t ∧
      OnlyTouches [.output, .channel] s t ∧
      t.output = { s.output with xlate := t.output.xlate } ∧
      ∀ code < 128, t.entry code =
        if c ≤ code ∧ code < c + entries.length then ((entries[code - c]?).getD []).map byte else s.entry code

/-- The engine takes the head of the fit queue when nothing is in flight: COMPUTING with its changed mark clear, the results
those of the records as they stand (R121). At completion a discarded computation changes no story; a story changed meanwhile
goes STALE to the tail with its old results; any other gets its results and is CURRENT, its page judged with a FIT notice if
that changes (R122, R124, R134). Every change of fit state is handed to the page's judgement and to the OVERSET lamp of the line
that holds the story (R99, R124). -/
def Obligations.FitTakenAndCompleted : Prop :=
  (∀ (s : State) (n : Nat) (rest : List Nat),
    s.fit.inFlight = none → s.fit.queue = n :: rest → 1 ≤ n → n ≤ 512 →
    ∃ t, exec .fitTake s = .next t ∧ OnlyTouches [.stories, .fit, .pages, .lines] s t ∧
      t.story n = { s.story n with fit := .computing, changed := false } ∧ SameStoriesBut n s t ∧
      t.fit = { s.fit with
        queue := rest, inFlight := some { story := n, discard := false, results := s.fitResults n } } ∧
      PageJudged n s t ∧ HolderTold none n t s t) ∧
  (∀ (s : State) (c : InFlight), s.fit.inFlight = some c → c.discard = true →
    exec .fitCompletion s = .next { s with fit := { s.fit with inFlight := none } }) ∧
  (∀ (s : State) (c : InFlight), s.fit.inFlight = some c → c.discard = false → 1 ≤ c.story → c.story ≤ 512 →
    (s.story c.story).changed = true →
    ∃ t, exec .fitCompletion s = .next t ∧ OnlyTouches [.stories, .fit, .pages, .lines] s t ∧
      t.story c.story = { s.story c.story with fit := .stale, changed := false } ∧ SameStoriesBut c.story s t ∧
      t.fit = { s.fit with queue := s.fit.queue ++ [c.story], inFlight := none } ∧
      PageJudged c.story s t ∧ HolderTold none c.story t s t) ∧
  ∀ (s : State) (c : InFlight), s.fit.inFlight = some c → c.discard = false → 1 ≤ c.story → c.story ≤ 512 →
    (s.story c.story).changed = false →
    (∀ run ∈ (s.story c.story).run, (s.page run.page).state ≠ .releasing) →
    ∃ t, exec .fitCompletion s = .next t ∧ OnlyTouches [.stories, .fit, .pages, .lines, .channel] s t ∧
      t.story c.story = { s.story c.story with fit := .current, results := some c.results } ∧ SameStoriesBut c.story s t ∧
      t.fit = { s.fit with inFlight := none } ∧ OnlyRaised (runNotice (s.story c.story).run s t) s t ∧
      PageJudged c.story s t ∧ HolderTold none c.story t s t

/-- A job's total counts the codes its builder sends, one for one, whatever the translation table holds (R148, R155). -/
def Obligations.JobTotalCountsItsCodes : Prop :=
  ∀ (s : State) (g : Nat), s.jobTotal g = (s.jobUnits g).flatten.length

/-! ### Pages and makeup (chapter 7) -/

/-- PAGEOPEN takes the CLOSED page of the lowest id, its tolerance clamped or 12, its edition the one carried or the clock's
(R129). SLOT defines a slot of a page in MAKEUP or changes its depth and measure, its occupant kept and made out of date if
either changes, and UNDEFINE undefines one that has no occupant (R130); the reply carries the slot in PAGEINFO's form
(assumption 37). PAGESHUT closes a page in MAKEUP or SET with no occupant (R142). -/
def Obligations.PagesOpenedAndShut : Prop :=
  (∀ (s : State) (tag : Byte) (label : Nat) (edition tolerance : Option Nat) (g : Nat),
    let i : Instr := .pageopen tag label edition tolerance
    s.takes i = true → 1 ≤ label → label ≤ 999 → (∀ e ∈ edition, 1 ≤ e ∧ e ≤ 15) →
    1 ≤ g → g ≤ 48 → (s.page g).state = .closed → (∀ h, 1 ≤ h → h < g → (s.page h).state ≠ .closed) →
    let e := edition.getD s.clock.edition
    let tol := match tolerance with
      | none => 12
      | some v => if 48 < v then 48 else v
    ∃ t, exec i s = .next t ∧ Replied i .done (u8 g ++ u8 e ++ u8 tol) s t ∧ Raised [] s t ∧
      OnlyTouches [.pages, .channel] s t ∧ SamePagesBut g s t ∧
      t.page g = { label := label, edition := e, state := .makeup, tolerance := tol, choice := .either, trim := false,
                   slots := Vector.replicate 16 none, fit := .fits, job := none, margin := none }) ∧
  (∀ (s : State) (tag : Byte) (g k depth measure : Nat),
    let i : Instr := .slotDefine tag g k depth measure
    let old := (s.page g).slot k
    s.takes i = true → 1 ≤ g → g ≤ 48 → 1 ≤ k → k ≤ 16 → 24 ≤ depth → depth ≤ 3600 → 36 ≤ measure → measure ≤ 720 →
    (s.page g).state = .makeup →
    ∃ t, exec i s = .next t ∧ Replied i .done (slotBytes ((t.page g).slot k)) s t ∧ Raised (fitNotice g s t) s t ∧
      OnlyTouches [.stories, .fit, .pages, .lines, .channel] s t ∧
      (t.page g).slot k = some { depth := depth, measure := measure, occupant := old.bind fun sl => sl.occupant } ∧
      (∀ j, j ≠ k → (t.page g).slot j = (s.page g).slot j) ∧
      ∃ slots, t.page g = { s.page g with slots := slots, fit := (t.page g).fit } ∧
        match old.bind fun sl => sl.occupant with
        | some (n, _) =>
          if old.any (fun sl => sl.depth == depth && sl.measure == measure) = true then
            t.stories = s.stories ∧ t.fit = s.fit ∧ t.lines = s.lines ∧ (t.page g).fit = (s.page g).fit
          else SameStoriesBut n s t ∧ (1 ≤ n → n ≤ 512 → t.story n = (s.story n).outdated) ∧
            t.fit = { s.fit with queue := queuedStale s.fit.queue n (s.story n) } ∧
            (t.page g).fit = t.judgement (t.page g) ∧
            (if (s.story n).fit = .none ∨ (s.story n).fit = .current then HolderTold none n t s t else t.lines = s.lines)
        | none => t.stories = s.stories ∧ t.fit = s.fit ∧ t.lines = s.lines ∧ (t.page g).fit = (s.page g).fit) ∧
  (∀ (s : State) (tag : Byte) (g k : Nat),
    let i : Instr := .slotUndefine tag g k
    s.takes i = true → 1 ≤ g → g ≤ 48 → 1 ≤ k → k ≤ 16 → (s.page g).state = .makeup → (s.page g).occupied k = false →
    ∃ t, exec i s = .next t ∧ Replied i .done [0] s t ∧ Raised [] s t ∧ OnlyTouches [.pages, .channel] s t ∧
      SamePagesBut g s t ∧ (t.page g).slot k = none ∧ (∀ j, j ≠ k → (t.page g).slot j = (s.page g).slot j) ∧
      ∃ slots, t.page g = { s.page g with slots := slots }) ∧
  ∀ (s : State) (tag : Byte) (g : Nat),
    let i : Instr := .pageshut tag g
    s.takes i = true → 1 ≤ g → g ≤ 48 → ((s.page g).state = .makeup ∨ (s.page g).state = .set) →
    (∀ k, (s.page g).occupied k = false) →
    ∃ t, exec i s = .next t ∧ Replied i .done [] s t ∧ Raised [] s t ∧ OnlyTouches [.pages, .channel] s t ∧
      SamePagesBut g s t ∧
      t.page g = { label := 0, edition := 0, state := .closed, tolerance := 0, choice := .either, trim := false,
                   slots := Vector.replicate 16 none, fit := .fits, job := none, margin := none }

/-- PLACE gives a story from its basket, or one PLACED on the page, the run named: its slots take it in order, those it leaves
stand empty, its fit is out of date and the page is judged. UNPLACE empties the run's slots and the story arrives in its own
desk's basket, out of date, the page judged over the stories that remain. Holds stand. The departure (R24) and the arrival (R23)
are told to the desk's lines, and the move to the holder's OVERSET lamp (R131 to R134). -/
def Obligations.PlaceAndUnplace : Prop :=
  (∀ (s : State) (tag : Byte) (n g : Nat) (run : List Nat),
    let i : Instr := .place tag n g run
    let r := s.story n
    s.takes i = true → 1 ≤ n → n ≤ 512 → 1 ≤ g → g ≤ 48 → r.desk < 16 →
    1 ≤ run.length → run.length ≤ 4 → run.Nodup → (∀ k ∈ run, 1 ≤ k ∧ k ≤ 16) →
    (r.stage = .basket ∧ (∀ k, ∀ sl ∈ (s.page g).slot k, sl.occupant.map Prod.fst ≠ some n) ∨
      r.stage = .placed ∧ ∃ old, r.run = some old ∧ old.page = g) →
    (s.page g).state = .makeup →
    (∀ k ∈ run, ∃ sl, (s.page g).slot k = some sl ∧ (sl.occupant = none ∨ sl.occupant.map Prod.fst = some n)) →
    ∃ t, exec i s = .next t ∧ Replied i .done (u16 n ++ u8 g ++ u8 run.length ++ run.flatMap u8) s t ∧
      Raised (fitNotice g s t) s t ∧ OnlyTouches [.stories, .desks, .fit, .pages, .lines, .channel] s t ∧
      t.story n = Story.outdated { r with stage := .placed, run := some { page := g, slots := run } } ∧
      SameStoriesBut n s t ∧
      t.fit = { s.fit with queue := queuedStale s.fit.queue n r } ∧
      (r.stage = .basket → SameDesksBut r.desk s t ∧ t.desk r.desk = { s.desk r.desk with
        basket := (s.desk r.desk).basket.erase n, urgent := countOut r.priority (s.desk r.desk).urgent }) ∧
      (r.stage = .placed → t.desks = s.desks) ∧
      SamePagesBut g s t ∧ (∀ k, (t.page g).slot k = ((s.page g).slot k).map fun sl =>
        if k ∈ run then { sl with occupant := some (n, run.idxOf k + 1) }
        else if sl.occupant.map Prod.fst = some n then { sl with occupant := none } else sl) ∧
      (∃ slots, t.page g = { s.page g with slots := slots, fit := t.judgement (t.page g) }) ∧
      MoveTold n (if r.stage = .basket then [r.desk] else []) none s t) ∧
  ∀ (s : State) (tag : Byte) (n : Nat) (run : Run),
    let i : Instr := .unplace tag n
    let r := s.story n
    s.takes i = true → 1 ≤ n → n ≤ 512 → r.desk < 16 → r.stage = .placed → r.run = some run →
    1 ≤ run.page → run.page ≤ 48 → (s.page run.page).state = .makeup →
    ∃ t, exec i s = .next t ∧ Replied i .done (u16 n ++ u8 r.desk) s t ∧
      Raised (.arrival r.desk n :: fitNotice run.page s t) s t ∧
      OnlyTouches [.stories, .desks, .fit, .pages, .lines, .channel] s t ∧
      t.story n = Story.outdated { r with stage := .basket, run := none } ∧ SameStoriesBut n s t ∧
      t.fit = { s.fit with queue := queuedStale s.fit.queue n r } ∧
      Joined t.rankOf n (s.desk r.desk).basket (t.desk r.desk).basket ∧
      (t.desk r.desk).urgent = countIn r.priority (s.desk r.desk).urgent ∧
      (t.desk r.desk).spikes = (s.desk r.desk).spikes ∧ SameDesksBut r.desk s t ∧
      SamePagesBut run.page s t ∧
      (∀ k, (t.page run.page).slot k = ((s.page run.page).slot k).map fun sl =>
        if sl.occupant.map Prod.fst = some n then { sl with occupant := none } else sl) ∧
      (∃ slots, t.page run.page = { s.page run.page with slots := slots, fit := t.judgement (t.page run.page) }) ∧
      MoveTold n [r.desk] (wokenBy r.priority r.desk) s t

/-- RELEASE of a page in MAKEUP whose defined slots are all filled, with no story held, is carried out. A PENDING page waits in
RELEASING. Otherwise the outcome is decided: a page with overset lines and no trim returns OVERSET, one that finds 16 jobs
queued returns QUEUE FULL, its stories PLACED, and any other is queued with its job built and its stories SETTING, or taken at
once by a READY port that its choice allows, port A before port B. The reply carries the page's state (R135 to R138, R140,
R150), SETTING where a port has taken the job, the model's reading (assumption 32); a port places whole units of codes
(assumption 35), and that the FIFO of a job begun is filled in the same step, until it holds 448 codes or nothing is left, is
the model's choice (assumption 23). A wait ends in the same way at the completion of the page's last fit (R122, R136), the FIT
notice before the RELEASE notice (R134). The trim flag's code is 0 for set and 1 for clear (assumption 2). -/
def Obligations.ReleaseSendsPage : Prop :=
  (∀ (s : State) (tag : Byte) (g choice trim : Nat) (c : PortChoice) (b : Bool),
    let i : Instr := .release tag g choice trim
    let u := s.updPage g fun p => { p with state := .releasing, choice := c, trim := b }
    s.takes i = true → 1 ≤ g → g ≤ 48 → PortChoice.ofCode choice = some c → firstOfTwo trim = some b →
    (s.page g).state = .makeup → (∃ k, (s.page g).occupied k = true) →
    (∀ k, ∀ sl ∈ (s.page g).slot k, sl.occupant.isSome = true) →
    (∀ n ∈ (s.page g).stories, (s.story n).holder = .absent) → (∀ x, PortWaits x s) →
    ∃ t, exec i s = .next t ∧ Replied i .done (u8 (t.page g).state.code) s t ∧
      OnlyTouches [.stories, .pages, .output, .channel] s t ∧
      if (s.page g).fit = .pending then
        Raised [] s t ∧ t.stories = s.stories ∧ t.output = s.output ∧ t.pages = u.pages
      else ReleaseDecided g [] u t) ∧
  ∀ (s : State) (c : InFlight) (run : Run),
    let g := run.page
    let u := s.fitted c g
    s.fit.inFlight = some c → c.discard = false → 1 ≤ c.story → c.story ≤ 512 → (s.story c.story).changed = false →
    (s.story c.story).stage = .placed → (s.story c.story).run = some run → 1 ≤ g → g ≤ 48 →
    (s.page g).state = .releasing → (∀ x, PortWaits x s) →
    ∃ t, exec .fitCompletion s = .next t ∧ OnlyTouches [.stories, .fit, .pages, .output, .lines, .channel] s t ∧
      t.fit = u.fit ∧ HolderTold none c.story u s t ∧
      if (u.page g).fit = .pending then
        OnlyRaised (fitNotice g s u) s t ∧ t.stories = u.stories ∧ t.output = s.output ∧ t.pages = u.pages
      else ReleaseDecided g (fitNotice g s u) u t ∧
        t.channel = { s.channel with notices := t.channel.notices, noticesLost := t.channel.noticesLost }

/-- CANCEL ends a release: a RELEASING page returns to MAKEUP; a QUEUED one with its job out of the queue; a SETTING one with
its job off the port, the FIFO flushed, the abort code pending, the port READY or with its next job. Each job's last record
keeps its remaining count with outcome CANCELLED, and the reply carries the state the page was in (R139, R140, R150, R158). A
job the port then takes is placed in the units of assumption 35; that the FIFO of a job begun is filled in the same step, until
it holds 448 codes or nothing is left, is the model's choice (assumption 23). REOPEN returns a SET page to MAKEUP, its SET
stories PLACED and out of date, its margin and last job record kept (R141). -/
def Obligations.CancelAndReopen : Prop :=
  (∀ (s : State) (tag : Byte) (g : Nat),
    let i : Instr := .cancel tag g
    s.takes i = true → 1 ≤ g → g ≤ 48 → (s.page g).state = .releasing →
    ∃ t, exec i s = .next t ∧ Replied i .done [2] s t ∧ Raised [] s t ∧
      OnlyTouches [.stories, .pages, .channel] s t ∧ PageReturned g none s t ∧ SamePagesBut g s t) ∧
  (∀ (s : State) (tag : Byte) (g : Nat),
    let i : Instr := .cancel tag g
    s.takes i = true → 1 ≤ g → g ≤ 48 → (s.page g).state = .queued →
    ∃ t, exec i s = .next t ∧ Replied i .done [3] s t ∧ Raised [] s t ∧
      OnlyTouches [.stories, .pages, .output, .channel] s t ∧ PageReturned g (some .cancelled) s t ∧ SamePagesBut g s t ∧
      t.output = { s.output with queue := s.output.queue.filter fun j => j.page ≠ g }) ∧
  (∀ (s : State) (tag : Byte) (g : Nat) (p : Port),
    let i : Instr := .cancel tag g
    s.takes i = true → 1 ≤ g → g ≤ 48 → (s.page g).state = .setting → JobAt g p s →
    ∃ t, exec i s = .next t ∧ Replied i .done [4] s t ∧ Raised [] s t ∧
      OnlyTouches [.stories, .pages, .output, .channel] s t ∧ PageReturned g (some .cancelled) s t ∧
      (t.port p).abort = true ∧
      PortFreed p { s.port p with state := .ready, job := none, fifo := [], abort := true, lossTimer := none } (some g) s t) ∧
  ∀ (s : State) (tag : Byte) (g : Nat),
    let i : Instr := .reopen tag g
    s.takes i = true → 1 ≤ g → g ≤ 48 → (s.page g).state = .set →
    (∀ n ∈ (s.page g).stories, 1 ≤ n ∧ n ≤ 512 ∧ (s.story n).stage = .set ∧ ∃ run, (s.story n).run = some run ∧ run.page = g) →
    (s.page g).stories.Nodup →
    ∃ t, exec i s = .next t ∧ Replied i .done (u8 (s.page g).stories.length) s t ∧ Raised (fitNotice g s t) s t ∧
      OnlyTouches [.stories, .fit, .pages, .lines, .channel] s t ∧ LampsOnly s t ∧ SamePagesBut g s t ∧
      ((∀ n ∈ (s.page g).stories, (s.story n).holder = .absent) → t.lines = s.lines) ∧
      t.page g = { s.page g with state := .makeup, trim := false, fit := t.judgement (t.page g) } ∧
      (∀ n, t.story n =
        if n ∈ (s.page g).stories then Story.outdated { s.story n with stage := .placed } else s.story n) ∧
      t.fit = { s.fit with queue := s.fit.queue ++ (s.page g).stories.filter fun n =>
        (s.story n).fit == .none || (s.story n).fit == .current }

/-! ### Setter ports and output (chapter 8) -/

/-- PORTSET sets the loss time, clamped to 5 to 120, and the failover flag of an OFFLINE port (R152). PORTCLR clears the loss
latch in every state and answers the value it had (R162). PORTOFF takes a port out of service, a job on it cancelled first, and
a pending abort code is kept; an OFFLINE port it leaves as it is (R154, R158). Ports are coded 0 A and 1 B; flags 0 for their
first named value (assumption 2). -/
def Obligations.PortSettings : Prop :=
  (∀ (s : State) (tag : Byte) (port : Nat) (p : Port) (lossTime failover : Option Nat),
    let i : Instr := .portset tag port lossTime failover
    s.takes i = true → portOfCode port = some p → (∀ c ∈ failover, c ≤ 1) → (s.port p).state = .offline →
    ∃ t, exec i s = .next t ∧ Replied i .done (u16 (t.port p).lossTime ++ u8 (flagCode (t.port p).failover)) s t ∧
      Raised [] s t ∧ OnlyTouches [.output, .channel] s t ∧ SameOutputBut p s t ∧
      t.port p = { s.port p with
        lossTime := match lossTime with
          | none => (s.port p).lossTime
          | some v => if v < 5 then 5 else if 120 < v then 120 else v
        failover := (failover.map fun c => c == 0).getD (s.port p).failover }) ∧
  (∀ (s : State) (tag : Byte) (port : Nat) (p : Port),
    let i : Instr := .portclr tag port
    s.takes i = true → portOfCode port = some p →
    ∃ t, exec i s = .next t ∧ Replied i .done (u8 (flagCode (s.port p).lossLatch)) s t ∧
      Raised [] s t ∧ OnlyTouches [.output, .channel] s t ∧ SameOutputBut p s t ∧
      t.port p = { s.port p with lossLatch := false }) ∧
  (∀ (s : State) (tag : Byte) (port : Nat) (p : Port),
    let i : Instr := .portoff tag port
    s.takes i = true → portOfCode port = some p → (s.port p).state = .offline →
    ∃ t, exec i s = .next t ∧ Replied i .done [0] s t ∧ Raised [] s t ∧ OnlyTouches [.channel] s t) ∧
  (∀ (s : State) (tag : Byte) (port : Nat) (p : Port),
    let i : Instr := .portoff tag port
    s.takes i = true → portOfCode port = some p → (s.port p).state ≠ .offline → (s.port p).job = none →
    ∃ t, exec i s = .next t ∧ Replied i .done [0] s t ∧ Raised [] s t ∧ OnlyTouches [.output, .channel] s t ∧
      SameOutputBut p s t ∧ t.port p = { s.port p with state := .offline, fifo := [], lossTimer := none }) ∧
  ∀ (s : State) (tag : Byte) (port : Nat) (p : Port) (j : PortJob),
    let i : Instr := .portoff tag port
    s.takes i = true → portOfCode port = some p → (s.port p).state = .setting → (s.port p).job = some j →
    1 ≤ j.job.page → j.job.page ≤ 48 →
    ∃ t, exec i s = .next t ∧ Replied i .done (u8 j.job.page) s t ∧ Raised [] s t ∧
      OnlyTouches [.stories, .pages, .output, .channel] s t ∧ SameOutputBut p s t ∧
      t.port p = { s.port p with state := .offline, job := none, fifo := [], abort := true, lossTimer := none } ∧
      PageReturned j.job.page (some .cancelled) s t ∧ SamePagesBut j.job.page s t

/-- PORTON brings an OFFLINE port into service, and RESUME a RECOVERED or HALTED one: it goes to READY, or at once to SETTING
with the job nearest the head of the queue that its choice allows, whatever the ready lead; the loss timer of a job begun with
the lead low runs from the start (R150, R153, R155, R159, R163). Its codes are placed in the units of assumption 35; that the
FIFO of a job begun is filled in the same step, until it holds 448 codes or nothing is left, is the model's choice (assumption
23). The reply names page 0 where no job is taken, the model's reading (assumption 40). The other port, if READY, stands beside
no job it may serve. -/
def Obligations.PortBroughtIntoService : Prop :=
  ∀ (s : State) (i : Instr) (port : Nat) (p : Port),
    ((∃ tag, i = .porton tag port) ∧ (s.port p).state = .offline ∨
      (∃ tag, i = .resume tag port) ∧ ((s.port p).state = .recovered ∨ (s.port p).state = .halted)) →
    s.takes i = true → portOfCode port = some p → PortWaits (otherPort p) s →
    ∃ t, exec i s = .next t ∧ Replied i .done (portStateBytes (t.port p)) s t ∧ Raised [] s t ∧
      OnlyTouches [.pages, .output, .channel] s t ∧ PortFreed p { s.port p with state := .ready } none s t

/-- INFO, BASKET, PAGEINFO, PORTSTAT, QUEUE and CLKREAD return a story, up to 120 entries of a desk's list, a page, a port, the
output queue and the clock as they stand, and change no record (R16, R39, R143, R164, R165, R175). Codes of flags follow
assumption 2, CLKREAD's pending switch is one optional field (assumption 36), and so are PORTSTAT's loss timer and its job
(assumption 38); the count of QUEUE's list is its number of jobs (assumption 31). -/
def Obligations.RecordsRead : Prop :=
  ∀ (s : State) (i : Instr) (details : List Byte),
    ((∃ tag n, i = .info tag n ∧ 1 ≤ n ∧ n ≤ 512 ∧ (s.story n).stage ≠ .free ∧ details = infoBytes n (s.story n)) ∨
      (∃ tag desk list p stories, i = .basket tag desk list p ∧ desk < 16 ∧
        (list = 0 ∧ stories = (s.desk desk).basket ∨ list = 1 ∧ stories = (s.desk desk).spikes) ∧ p ≤ stories.length ∧
        details = u8 desk ++ u8 list ++ u16 stories.length ++ u16 (s.desk desk).urgent ++ u16 p
          ++ u8 ((stories.drop p).take 120).length
          ++ ((stories.drop p).take 120).flatMap fun n => basketEntryBytes n (s.story n)) ∨
      (∃ tag g, i = .pageinfo tag g ∧ 1 ≤ g ∧ g ≤ 48 ∧ details = pageBytes s g) ∨
      (∃ tag port p, i = .portstat tag port ∧ portOfCode port = some p ∧ details = portBytes (s.port p)) ∨
      (∃ tag, i = .queue tag ∧ details = u8 s.output.queue.length
        ++ s.output.queue.flatMap fun j => u8 j.page ++ u8 j.choice.code ++ u32 j.total ++ u8 j.restarts) ∨
      ∃ tag, i = .clkread tag ∧ details = u8 s.clock.state.code ++ u8 s.clock.edition ++ u16 s.clock.count
        ++ optional u16 s.clock.next ++ u16 s.clock.threshold ++ u8 (yesCode s.clock.fired)) →
    s.takes i = true →
    ∃ t, exec i s = .next t ∧ Replied i .done details s t ∧ Raised [] s t ∧ OnlyTouches [.channel] s t

/-- While a port is SENDING with its ready lead high and no abort code pending, the head code of its FIFO leaves and the
remaining count falls by 1; with none remaining the port awaits its result under the loss timer (R155, R159). A pending abort
code leaves when the lead is high (R158). The lead's rise stops the loss timer of a SENDING port and makes a LOST port
RECOVERED; its fall starts the timer (R159, R163). -/
def Obligations.CodesAndReadyLead : Prop :=
  (∀ (s : State) (p : Port) (j : PortJob) (code : Byte) (rest : List Byte),
    (s.port p).state = .setting → (s.port p).job = some j → j.phase = .sending → (s.port p).fifo = code :: rest →
    (s.port p).lead = true → (s.port p).abort = false →
    ∃ t, exec (.codeAccepted p) s = .next t ∧ OnlyTouches [.output, .pages] s t ∧ SameOutputBut p s t ∧
      SamePagesBut j.job.page s t ∧
      (∃ job, (t.port p).job = some job ∧ job.job = j.job ∧ job.remaining = j.remaining - 1 ∧
        job.phase = (if j.remaining ≤ 1 then .awaiting else .sending) ∧
        ∃ placed, j.unplaced = placed ++ job.unplaced ∧ (t.port p).fifo = rest ++ placed.flatten) ∧
      (t.port p).codeOut = some code ∧
      (t.port p).lossTimer = (if j.remaining ≤ 1 then some (s.port p).lossTime else (s.port p).lossTimer) ∧
      t.port p = { s.port p with
        fifo := (t.port p).fifo, job := (t.port p).job, codeOut := some code, lossTimer := (t.port p).lossTimer } ∧
      t.page j.job.page = { s.page j.job.page with
        job := (s.page j.job.page).job.map fun r => { r with remaining := j.remaining - 1 } }) ∧
  (∀ (s : State) (p : Port), (s.port p).abort = true → (s.port p).lead = true →
    ∃ t, exec (.abortCodeSent p) s = .next t ∧ OnlyTouches [.output] s t ∧ SameOutputBut p s t ∧
      t.port p = { s.port p with abort := false, codeOut := some 253 }) ∧
  (∀ (s : State) (p : Port), ∃ t, exec (.readyLeadRise p) s = .next t ∧ OnlyTouches [.output, .channel] s t ∧
    SameOutputBut p s t ∧
    (if (s.port p).state = .lost then
      OnlyRaised [.output p .recovered] s t ∧ t.port p = { s.port p with lead := true, state := .recovered }
    else OnlyRaised [] s t ∧ t.port p = { s.port p with
      lead := true
      lossTimer := if (s.port p).state = .setting ∧ (s.port p).job.any (fun j => j.phase == .sending) = true then none
        else (s.port p).lossTimer })) ∧
  ∀ (s : State) (p : Port), ∃ t, exec (.readyLeadFall p) s = .next t ∧ OnlyTouches [.output] s t ∧ SameOutputBut p s t ∧
    t.port p = { s.port p with
      lead := false
      lossTimer := if (s.port p).lead = true ∧ (s.port p).state = .setting ∧
          (s.port p).job.any (fun j => j.phase == .sending) = true then some (s.port p).lossTime
        else (s.port p).lossTimer }

/-- A DONE result of a port that awaits one sets the page with the clock's margin, its stories SET, and frees the port, which
takes the job that waits for it (R150, R156, R177), its codes placed in the units of assumption 35; a FAULT halts the port and
returns the page, its job ended with outcome FAULT (R157). That the FIFO of a job begun is filled in the same step, until it
holds 448 codes or nothing is left, is the model's choice (assumption 23). Every other value, and DONE or FAULT at any other
time, is ignored (R192). -/
def Obligations.ResultCodes : Prop :=
  (∀ (s : State) (p : Port) (j : PortJob),
    let g := j.job.page
    (s.port p).state = .setting → (s.port p).job = some j → j.phase = .awaiting → 1 ≤ g → g ≤ 48 →
    (∀ q ∈ s.output.queue, q.page ≠ g) → PortWaits (otherPort p) s →
    ∃ t, exec (.resultDone p) s = .next t ∧ OnlyTouches [.stories, .pages, .output, .channel] s t ∧
      OnlyRaised [.set g (t.page g).margin] s t ∧
      (t.page g).margin =
        (match s.clock.state with
        | .running => some { edition := s.clock.edition, seconds := (s.clock.count : Int) }
        | .overdue => some { edition := s.clock.edition, seconds := -(s.clock.count : Int) }
        | .stopped => none) ∧
      t.page g = { s.page g with
        state := .set, margin := (t.page g).margin
        job := (s.page g).job.map fun r => { r with remaining := 0, outcome := .done } } ∧
      StoriesMoved g .setting .set s t ∧
      PortFreed p { s.port p with state := .ready, job := none, lossTimer := none } (some g) s t) ∧
  (∀ (s : State) (p : Port) (j : PortJob),
    let g := j.job.page
    (s.port p).state = .setting → (s.port p).job = some j → j.phase = .awaiting → 1 ≤ g → g ≤ 48 →
    ∃ t, exec (.resultFault p) s = .next t ∧ OnlyTouches [.stories, .pages, .output, .channel] s t ∧
      OnlyRaised [.output p (.fault g)] s t ∧ SamePagesBut g s t ∧ PageReturned g (some .fault) s t ∧ SameOutputBut p s t ∧
      t.port p = { s.port p with state := .halted, job := none, lossTimer := none }) ∧
  (∀ (s : State) (p : Port) (value : Byte), exec (.resultCodeOther p value) s = .next s) ∧
  ∀ (s : State) (p : Port), ((s.port p).state ≠ .setting ∨ ∀ j ∈ (s.port p).job, j.phase = .sending) →
    exec (.resultDone p) s = .next s ∧ exec (.resultFault p) s = .next s

/-- A port whose loss timer runs out is lost: LOST, its FIFO and abort code gone, its latch set, the OUTPUT notice raised if the
latch was clear. Its job moves to the other port when failover is on and that port is READY, and begins there from its header.
Otherwise it goes back to the head of the queue, where the other port, if READY and allowed by the job's choice, takes it at
once (R150). With 16 jobs queued its page returns to MAKEUP, judged, its trim flag clear and its stories PLACED (R140, R159 to
R161). The OUTPUT LOST notice before FAILOVER and before RELEASE is read by inference (assumption 13), a job begins in the units
of assumption 35, and that the FIFO of a job begun is filled in the same step, until it holds 448 codes or nothing is left, is
the model's choice (assumption 23). The other port, if READY, stands beside no queued job it may serve (R150). -/
def Obligations.PortLossMovesJob : Prop :=
  ∀ (s : State) (p : Port) (j : PortJob) (seconds : Nat),
    let g := j.job.page
    let o := otherPort p
    let job : Job := { j.job with restarts := min 255 (j.job.restarts + 1) }
    let told (f : Fate) : List Notice := if (s.port p).lossLatch = true then [] else [.output p (.lost g f)]
    (s.port p).lossTimer = some seconds → seconds ≤ 1 → (s.port p).job = some j → 1 ≤ g → g ≤ 48 → PortWaits o s →
    ∃ t, exec (.portLoss p) s = .next t ∧ OnlyTouches [.stories, .pages, .output, .channel] s t ∧ SamePagesBut g s t ∧
      t.output.xlate = s.output.xlate ∧
      t.port p = { s.port p with
        state := .lost, job := none, fifo := [], abort := false, lossTimer := none, lossLatch := true } ∧
      if (s.port p).failover = true ∧ (s.port o).state = .ready then
        OnlyRaised (told .failover ++ [.output o (.failover g)]) s t ∧ t.stories = s.stories ∧
        t.output.queue = s.output.queue ∧ JobBegun o (s.port o) job (s.jobUnits g) s t
      else if s.output.queue.length < 16 then
        OnlyRaised (told .requeued) s t ∧ t.stories = s.stories ∧
        if (s.port o).state = .ready ∧ job.choice.allows o = true then
          t.output.queue = s.output.queue ∧ JobBegun o (s.port o) job (s.jobUnits g) s t
        else
          t.output.queue = job :: s.output.queue ∧ t.port o = s.port o ∧
          t.page g = { s.page g with state := .queued, job := some (freshRecord job none) }
      else
        OnlyRaised (told .returned ++ [.release g .queueFull]) s t ∧ t.output.queue = s.output.queue ∧
        t.port o = s.port o ∧ StoriesMoved g .setting .placed s t ∧
        t.page g = { s.page g with
          state := .makeup, trim := false, fit := t.judgement (t.page g)
          job := some { freshRecord job none with outcome := .cancelled } }

/-! ### The edition clock (chapter 9) -/

/-- A seconds tick raises the notices of the clock, of the orphans that expire and of the ports that are lost, in that order
(assumptions 10, 13; for ports within their law), and hands on status lines at the whole minutes and DEADLINE lamps as R168 to
R171 give; at the terminal count it makes the pending switch or begins OVERDUE (R169). It moves every timer that runs by one
second: the countdown down or the lateness up to 65,535 (R168, R170), the near warning firing once (R168), the sign-on timers
(R78), the dim timers of lines that may dim (R80), the orphan timers (R54) and the ports' loss timers (R159); a timer that
reaches 0 expires with it. That one command carries all of them is the model's reading (assumption 10). A READY line gets its
status line whatever its lamp source, the model's reading of R171 (assumption 44). -/
def Obligations.SecondsTickMovesTimers : Prop :=
  ∀ s : State, ∃ t, exec .secondsTick s = .next t ∧
    OnlyTouches [.clock, .channel, .lines, .stories, .output, .pages] s t ∧
    (s.clock.state = .stopped → t.clock = s.clock) ∧
    (s.clock.state = .overdue → t.clock = { s.clock with count := min 65535 (s.clock.count + 1) }) ∧
    (s.clock.state = .running → 1 < s.clock.count → t.clock = { s.clock with
      count := s.clock.count - 1
      fired := s.clock.fired || (decide (s.clock.threshold ≠ 0) && decide (s.clock.count - 1 ≤ s.clock.threshold)) }) ∧
    (s.clock.state = .running → s.clock.count ≤ 1 →
      match s.clock.next with
      | some c => EditionSwitched c s t
      | none => t.clock = { s.clock with state := .overdue, count := 0 }) ∧
    (OutputLaw s → OnlyRaised (s.clock.tickNotices ++ s.orphanNotices ++ s.portNotices) s t) ∧
    (∀ k < 32, (t.line k).status =
      if (s.line k).state = .ready ∧ s.clock.tickTold = true then
        ((s.line k).user.map fun u => t.statusLine k u (s.line k).withdrawn).or (s.line k).status
      else (s.line k).status) ∧
    (∀ k < 32,
      if (s.line k).lampSource = .deadline ∧ s.clock.tickLamps = true then (t.line k).lamp = t.lampLit k (t.line k)
      else (t.line k).lamp = (s.line k).lamp ∨
        (s.line k).lampSource = .overset ∧ (t.line k).held = none ∧ (t.line k).lamp = t.lampLit k (t.line k)) ∧
    (∀ k < 32, ∀ v, (s.line k).state = .signing → (s.line k).signonTimer = some v →
      if 1 < v then (t.line k).state = .signing ∧ (t.line k).signonTimer = some (v - 1)
      else (t.line k).state = .idle ∧ (t.line k).outcome = .timedOut ∧ (t.line k).signonTimer = none ∧
        Answered k (kindWord "SIGNON") .noAnswer [] t) ∧
    (∀ k < 32, ∀ v, (s.line k).dimRuns = true → (s.line k).dimTimer = some v →
      if 1 < v then (t.line k).state = .ready ∧ (t.line k).dimTimer = some (v - 1)
      else (t.line k).state = .dim ∧ (t.line k).dimTimer = none ∧ (t.line k).display = some .blank) ∧
    (∀ k < 32, (s.line k).state ≠ .signing → (s.line k).dimRuns = false → (t.line k).dimTimer = (s.line k).dimTimer) ∧
    (∀ n ∈ storyIds, ∀ k user v, (s.story n).holder = .orphan k user v →
      (t.story n).holder = if 1 < v then .orphan k user (v - 1) else .absent) ∧
    ∀ p v j, (s.port p).state = .setting → (s.port p).job = some j → (s.port p).lossTimer = some v →
      if 1 < v then (t.port p).state = .setting ∧ (t.port p).lossTimer = some (v - 1)
      else (t.port p).state = .lost ∧ (t.port p).job = none

/-- The terminal count of a RUNNING clock makes the pending switch, the near warning after it if that is due, or with no switch
pending begins OVERDUE with lateness 0; READY lines get a status line and DEADLINE lamps are set anew (R169, R171). A READY line
gets its status line whatever its lamp source, the model's reading of R171 (assumption 44). -/
def Obligations.TerminalCountSwitchesEdition : Prop :=
  ∀ s : State, s.clock.state = .running → s.clock.count ≤ 1 →
    ∃ t, exec .terminalCount s = .next t ∧ OnlyTouches [.clock, .channel, .lines] s t ∧ ClockTold s t ∧
      match s.clock.next with
      | some c => EditionSwitched c s t ∧
        OnlyRaised (switchNotices (s.clock.edition + 1) c s.clock.threshold) s t
      | none => t.clock = { s.clock with state := .overdue, count := 0 } ∧
        OnlyRaised [.edition .overdue s.clock.edition 0] s t

/-- CLKSTART starts a STOPPED clock on an edition and countdown (R172). CLKNEXT keeps the next deadline of a RUNNING clock and
switches an OVERDUE one at once (R173). CLKSTOP stops the clock with count 0 and no pending switch (R174). WARN sets the
threshold, clamped to 3,600 (R176). Each fires the near warning where it is due and tells the lines what changed. A READY line
gets its status line whatever its lamp source, the model's reading of R171 (assumption 44). -/
def Obligations.ClockRequests : Prop :=
  (∀ (s : State) (tag : Byte) (edition countdown : Nat),
    let i : Instr := .clkstart tag edition countdown
    let near := s.clock.threshold ≠ 0 ∧ countdown ≤ s.clock.threshold
    s.takes i = true → 1 ≤ edition → edition ≤ 15 → 1 ≤ countdown → countdown ≤ 65535 → s.clock.state = .stopped →
    ∃ t, exec i s = .next t ∧ Replied i .done (clockBytes t.clock) s t ∧ OnlyTouches [.clock, .lines, .channel] s t ∧
      t.clock = { state := .running, edition := edition, count := countdown, next := none,
                  threshold := s.clock.threshold, fired := decide near } ∧
      Raised (if near then [.edition .near edition countdown] else []) s t ∧ ClockTold s t) ∧
  (∀ (s : State) (tag : Byte) (countdown : Nat),
    let i : Instr := .clknext tag countdown
    s.takes i = true → 1 ≤ countdown → countdown ≤ 65535 → s.clock.edition ≠ 15 → s.clock.state ≠ .stopped →
    ∃ t, exec i s = .next t ∧ Replied i .done (clockBytes t.clock) s t ∧
      if s.clock.state = .running then
        OnlyTouches [.clock, .channel] s t ∧ Raised [] s t ∧ t.clock = { s.clock with next := some countdown }
      else OnlyTouches [.clock, .lines, .channel] s t ∧ EditionSwitched countdown s t ∧ ClockTold s t ∧
        Raised (switchNotices (s.clock.edition + 1) countdown s.clock.threshold) s t) ∧
  (∀ (s : State) (tag : Byte),
    let i : Instr := .clkstop tag
    s.takes i = true →
    ∃ t, exec i s = .next t ∧ Replied i .done [] s t ∧ Raised [] s t ∧
      if s.clock.state = .stopped then OnlyTouches [.channel] s t
      else OnlyTouches [.clock, .lines, .channel] s t ∧ ClockTold s t ∧
        t.clock = { s.clock with state := .stopped, count := 0, next := none }) ∧
  ∀ (s : State) (tag : Byte) (seconds : Nat),
    let i : Instr := .warn tag seconds
    let w := if 3600 < seconds then 3600 else seconds
    let near := s.clock.state = .running ∧ w ≠ 0 ∧ s.clock.count ≤ w ∧ s.clock.fired = false
    s.takes i = true →
    ∃ t, exec i s = .next t ∧ Replied i .done (u16 w) s t ∧ OnlyTouches [.clock, .lines, .channel] s t ∧
      t.clock = { s.clock with threshold := w, fired := s.clock.fired || decide near } ∧
      Raised (if near then [.edition .near s.clock.edition s.clock.count] else []) s t ∧
      ∀ k < 32, t.line k =
        if (s.line k).lampSource = .deadline then { s.line k with lamp := t.lampLit k (t.line k) } else s.line k

/-! ### The host channel's own requests (chapter 10) -/

/-- SWEEP returns the summary of the records as they stand and clears the link error latch and the notices-lost flag (R186);
IDENT returns the part code, revision and capacities (R187); a request whose kind word names none is answered BAD FIELD (R178).
Codes of flags in the summary follow assumption 2; the states of the lines have no count before them (assumption 42). -/
def Obligations.SweepIdentAndUnknown : Prop :=
  (∀ (s : State) (tag : Byte),
    let i : Instr := .sweep tag
    s.takes i = true →
    ∃ t, exec i s = .next t ∧ OnlyTouches [.channel] s t ∧
      t.channel = { (s.offer i).channel with
        intake := markAnswered (s.offer i).channel.intake
        replies := (s.offer i).channel.replies ++
          [{ tag := tag, kind := kindWord "SWEEP", status := .done, details := sweepBytes s, overflow := false }]
        linkError := false, noticesLost := false }) ∧
  (∀ (s : State) (tag : Byte),
    let i : Instr := .ident tag
    s.takes i = true →
    ∃ t, exec i s = .next t ∧ OnlyTouches [.channel] s t ∧ Raised [] s t ∧
      Replied i .done (u16 3200 ++ u8 1 ++ u8 32 ++ u8 16 ++ u16 512 ++ u16 8192 ++ u16 256 ++ u8 32 ++ u8 8 ++ u8 48 ++ u8 16
        ++ u8 16 ++ u16 512 ++ u8 8 ++ u8 48 ++ u8 4 ++ u8 15) s t) ∧
  ∀ (s : State) (tag : Byte) (kind : List Byte),
    let i : Instr := .unknownRequest tag kind
    s.takes i = true →
    ∃ t, exec i s = .next t ∧ OnlyTouches [.channel] s t ∧ Raised [] s t ∧ Replied i .badField [] s t

/-- The two resets. Power reset leaves every record at its power-reset value (R18, R40, R83, and the values of R101, R125, R144,
R166, R167, R189); the input levels are the world's. RESTART is answered DONE, every request behind it BUSY in order of arrival,
and until it takes effect every request is discarded (R188; that a request given without its arrival is discarded too is
assumption 1). It takes effect once every reply has been sent, and at no other time, the model's choice (assumption 14): holds
released, lines DISABLED with their configuration kept, the flash list emptied; a computation in flight abandoned, its story, if
it has not left for SPIKED, STALE at the tail of the fit queue and its head taken no sooner than the next command (assumption
26), every other story's fit as it was; pages past MAKEUP but SET returned, with their stories PLACED; ports OFFLINE with an
interrupted job's abort code pending; the clock and the copy as they are; the channel's own records at their reset values but
for the receiver (R19, R41, R59, R84, R101, R125, R144, R166, R167, R189). -/
def Obligations.PowerResetAndRestart : Prop :=
  (∀ s : State, ∃ t, exec .powerReset s = .next t ∧
     (∀ n ∈ storyIds, t.story n = Story.freed) ∧
     (∀ d < 16, t.desk d = { basket := [], spikes := [], urgent := 0 }) ∧
     t.store.free = 8192 ∧ t.store.low = false ∧ t.orphanWindow = 120 ∧
     (∀ k < 32, ({ t.line k with carrier := false } : Line) =
       { state := .disabled, speed := 9600, model := 0, lampSource := .basket, dimTime := 900, wakeFlash := false,
         wakeUrgent := false, user := none, held := none, window := none, service := none, rx := [], answer := none,
         display := none, status := none, latches := .clear, override := false, signonUser := none, signonTimer := none,
         outcome := .none, dimTimer := none, withdrawn := none, lamp := false, carrier := false, tx := none }) ∧
     t.flashes = { list := [], next := 1 } ∧
     (∀ n < 32, t.style n =
       { font := 0, size := 20, leading := 24, indent := 36, wordSpace := 9, paraSpace := 0, measure := 144 }) ∧
     t.fit.widths = Vector.replicate 8 (Vector.replicate 94 18) ∧ (∀ c < 128, t.entry c = resetEntry c) ∧
     t.fit.queue = [] ∧ t.fit.inFlight = none ∧
     (∀ g ∈ pageIds, t.page g = Page.shut) ∧
     t.output.queue = [] ∧
     (∀ p, t.port p = { state := .offline, lossTime := 30, failover := false, job := none, fifo := [], abort := false,
                        lossTimer := none, lossLatch := false, lead := (s.port p).lead, codeOut := none }) ∧
     t.clock = { state := .stopped, edition := 1, count := 0, next := none, threshold := 600, fired := false } ∧
     t.channel = { rx := none, intake := [], replies := [], notices := [], linkError := false, noticesLost := false,
                   restarting := false, tx := none }) ∧
  (∀ (s : State) (tag : Byte),
    let i : Instr := .restart tag
    s.takes i = true →
    ∃ t, exec i s = .next t ∧ OnlyTouches [.channel] s t ∧ Raised [] s t ∧ t.channel.restarting = true ∧
      (∃ before behind, (s.offer i).channel.intake = before ++ { cmd := i, answered := false } :: behind ∧
        (∀ r ∈ before, r.answered = true) ∧
        t.channel.replies = (s.offer i).channel.replies ++
          [{ tag := tag, kind := kindWord "RESTART", status := .done, details := [], overflow := false }] ++
          (behind.filter fun r => !r.answered).map fun r =>
            { tag := r.cmd.tag, kind := r.cmd.kind, status := .busy, details := [], overflow := false }) ∧
      t.channel.intake = (s.offer i).channel.intake.map fun r => { r with answered := true }) ∧
  (∀ (s : State) (i : Instr), s.channel.restarting = true → i.fromHost = true → exec i s = .next s) ∧
  (∀ s : State, s.channel.restarting = false ∨ s.channel.replies ≠ [] ∨ s.channel.tx ≠ none →
    exec .restartTakesEffect s = .next s) ∧
  ∀ s : State, s.channel.restarting = true → s.channel.replies = [] → s.channel.tx = none →
    (∀ g ∈ pageIds, PageAgrees g s) →
    ∃ t, exec .restartTakesEffect s = .next t ∧
      OnlyTouches [.stories, .lines, .flashes, .fit, .pages, .output, .channel] s t ∧
      t.channel = { rx := s.channel.rx, intake := [], replies := [], notices := [], linkError := false,
                    noticesLost := false, restarting := false, tx := none } ∧
      (∀ n ∈ storyIds,
        let stopped := s.fit.inFlight.any (fun c => !c.discard && c.story == n) = true
        let returned := ∃ g ∈ pageIds, n ∈ (s.page g).stories ∧ (s.story n).stage = .setting
        t.story n = { s.story n with
          holder := .absent
          stage := if returned then .placed else (s.story n).stage
          fit := if stopped then .stale else (s.story n).fit
          changed := if stopped then false else (s.story n).changed }) ∧
      (∀ k < 32, t.line k = { (s.line k).sessionless with
        state := .disabled, held := none, latches := .clear, lamp := false }) ∧
      t.flashes = { s.flashes with list := [] } ∧
      t.fit = { s.fit with
        inFlight := none
        queue := match s.fit.inFlight with
          | some c => if c.discard = true then s.fit.queue else s.fit.queue ++ [c.story]
          | none => s.fit.queue } ∧
      (∀ g ∈ pageIds, t.page g =
        if (s.page g).state = .releasing ∨ (s.page g).state = .queued ∨ (s.page g).state = .setting then
          { s.page g with
            state := .makeup, trim := false, fit := t.judgement (s.page g)
            job := if (s.page g).state = .releasing then (s.page g).job
              else (s.page g).job.map fun j => { j with outcome := .cancelled } }
        else s.page g) ∧
      t.output.queue = [] ∧ t.output.xlate = s.output.xlate ∧
      ∀ p, t.port p = { s.port p with
        state := .offline, job := none, fifo := [], abort := (s.port p).abort || (s.port p).job.isSome
        lossTimer := none, lossLatch := false }
end

