-- ==== Sys2Proof/Laws/State.lean ====
section
/-! SUPPORT. One lemma per part of the state per update: what each update leaves alone, and what it gives. -/

namespace Sys2Proof.Machine

variable (s : State)

/-! #### setStory -/

@[simp] theorem State.setStory_desks (n : Nat) (r : Story) : (s.setStory n r).desks = s.desks := rfl
@[simp] theorem State.setStory_store (n : Nat) (r : Story) : (s.setStory n r).store = s.store := rfl
@[simp] theorem State.setStory_orphanWindow (n : Nat) (r : Story) : (s.setStory n r).orphanWindow = s.orphanWindow := rfl
@[simp] theorem State.setStory_lines (n : Nat) (r : Story) : (s.setStory n r).lines = s.lines := rfl
@[simp] theorem State.setStory_flashes (n : Nat) (r : Story) : (s.setStory n r).flashes = s.flashes := rfl
@[simp] theorem State.setStory_fit (n : Nat) (r : Story) : (s.setStory n r).fit = s.fit := rfl
@[simp] theorem State.setStory_pages (n : Nat) (r : Story) : (s.setStory n r).pages = s.pages := rfl
@[simp] theorem State.setStory_output (n : Nat) (r : Story) : (s.setStory n r).output = s.output := rfl
@[simp] theorem State.setStory_clock (n : Nat) (r : Story) : (s.setStory n r).clock = s.clock := rfl
@[simp] theorem State.setStory_channel (n : Nat) (r : Story) : (s.setStory n r).channel = s.channel := rfl
@[simp] theorem State.setStory_choices (n : Nat) (r : Story) : (s.setStory n r).choices = s.choices := rfl
@[simp] theorem State.setStory_pending (n : Nat) (r : Story) : (s.setStory n r).pending = s.pending := rfl
@[simp] theorem State.setStory_desk (n : Nat) (r : Story) (m : Nat) : (s.setStory n r).desk m = s.desk m := rfl
@[simp] theorem State.setStory_line (n : Nat) (r : Story) (m : Nat) : (s.setStory n r).line m = s.line m := rfl
@[simp] theorem State.setStory_page (n : Nat) (r : Story) (m : Nat) : (s.setStory n r).page m = s.page m := rfl
@[simp] theorem State.setStory_port (n : Nat) (r : Story) (z : Port) : (s.setStory n r).port z = s.port z := rfl

/-! #### updStory -/

@[simp] theorem State.updStory_desks (n : Nat) (f : Story → Story) : (s.updStory n f).desks = s.desks := rfl
@[simp] theorem State.updStory_store (n : Nat) (f : Story → Story) : (s.updStory n f).store = s.store := rfl
@[simp] theorem State.updStory_orphanWindow (n : Nat) (f : Story → Story) : (s.updStory n f).orphanWindow = s.orphanWindow := rfl
@[simp] theorem State.updStory_lines (n : Nat) (f : Story → Story) : (s.updStory n f).lines = s.lines := rfl
@[simp] theorem State.updStory_flashes (n : Nat) (f : Story → Story) : (s.updStory n f).flashes = s.flashes := rfl
@[simp] theorem State.updStory_fit (n : Nat) (f : Story → Story) : (s.updStory n f).fit = s.fit := rfl
@[simp] theorem State.updStory_pages (n : Nat) (f : Story → Story) : (s.updStory n f).pages = s.pages := rfl
@[simp] theorem State.updStory_output (n : Nat) (f : Story → Story) : (s.updStory n f).output = s.output := rfl
@[simp] theorem State.updStory_clock (n : Nat) (f : Story → Story) : (s.updStory n f).clock = s.clock := rfl
@[simp] theorem State.updStory_channel (n : Nat) (f : Story → Story) : (s.updStory n f).channel = s.channel := rfl
@[simp] theorem State.updStory_choices (n : Nat) (f : Story → Story) : (s.updStory n f).choices = s.choices := rfl
@[simp] theorem State.updStory_pending (n : Nat) (f : Story → Story) : (s.updStory n f).pending = s.pending := rfl
@[simp] theorem State.updStory_desk (n : Nat) (f : Story → Story) (m : Nat) : (s.updStory n f).desk m = s.desk m := rfl
@[simp] theorem State.updStory_line (n : Nat) (f : Story → Story) (m : Nat) : (s.updStory n f).line m = s.line m := rfl
@[simp] theorem State.updStory_page (n : Nat) (f : Story → Story) (m : Nat) : (s.updStory n f).page m = s.page m := rfl
@[simp] theorem State.updStory_port (n : Nat) (f : Story → Story) (z : Port) : (s.updStory n f).port z = s.port z := rfl

/-! #### updDesk -/

@[simp] theorem State.updDesk_stories (d : Nat) (f : Desk → Desk) : (s.updDesk d f).stories = s.stories := rfl
@[simp] theorem State.updDesk_store (d : Nat) (f : Desk → Desk) : (s.updDesk d f).store = s.store := rfl
@[simp] theorem State.updDesk_orphanWindow (d : Nat) (f : Desk → Desk) : (s.updDesk d f).orphanWindow = s.orphanWindow := rfl
@[simp] theorem State.updDesk_lines (d : Nat) (f : Desk → Desk) : (s.updDesk d f).lines = s.lines := rfl
@[simp] theorem State.updDesk_flashes (d : Nat) (f : Desk → Desk) : (s.updDesk d f).flashes = s.flashes := rfl
@[simp] theorem State.updDesk_fit (d : Nat) (f : Desk → Desk) : (s.updDesk d f).fit = s.fit := rfl
@[simp] theorem State.updDesk_pages (d : Nat) (f : Desk → Desk) : (s.updDesk d f).pages = s.pages := rfl
@[simp] theorem State.updDesk_output (d : Nat) (f : Desk → Desk) : (s.updDesk d f).output = s.output := rfl
@[simp] theorem State.updDesk_clock (d : Nat) (f : Desk → Desk) : (s.updDesk d f).clock = s.clock := rfl
@[simp] theorem State.updDesk_channel (d : Nat) (f : Desk → Desk) : (s.updDesk d f).channel = s.channel := rfl
@[simp] theorem State.updDesk_choices (d : Nat) (f : Desk → Desk) : (s.updDesk d f).choices = s.choices := rfl
@[simp] theorem State.updDesk_pending (d : Nat) (f : Desk → Desk) : (s.updDesk d f).pending = s.pending := rfl
@[simp] theorem State.updDesk_story (d : Nat) (f : Desk → Desk) (m : Nat) : (s.updDesk d f).story m = s.story m := rfl
@[simp] theorem State.updDesk_line (d : Nat) (f : Desk → Desk) (m : Nat) : (s.updDesk d f).line m = s.line m := rfl
@[simp] theorem State.updDesk_page (d : Nat) (f : Desk → Desk) (m : Nat) : (s.updDesk d f).page m = s.page m := rfl
@[simp] theorem State.updDesk_port (d : Nat) (f : Desk → Desk) (z : Port) : (s.updDesk d f).port z = s.port z := rfl

/-! #### updLine -/

@[simp] theorem State.updLine_stories (k : Nat) (f : Line → Line) : (s.updLine k f).stories = s.stories := rfl
@[simp] theorem State.updLine_desks (k : Nat) (f : Line → Line) : (s.updLine k f).desks = s.desks := rfl
@[simp] theorem State.updLine_store (k : Nat) (f : Line → Line) : (s.updLine k f).store = s.store := rfl
@[simp] theorem State.updLine_orphanWindow (k : Nat) (f : Line → Line) : (s.updLine k f).orphanWindow = s.orphanWindow := rfl
@[simp] theorem State.updLine_flashes (k : Nat) (f : Line → Line) : (s.updLine k f).flashes = s.flashes := rfl
@[simp] theorem State.updLine_fit (k : Nat) (f : Line → Line) : (s.updLine k f).fit = s.fit := rfl
@[simp] theorem State.updLine_pages (k : Nat) (f : Line → Line) : (s.updLine k f).pages = s.pages := rfl
@[simp] theorem State.updLine_output (k : Nat) (f : Line → Line) : (s.updLine k f).output = s.output := rfl
@[simp] theorem State.updLine_clock (k : Nat) (f : Line → Line) : (s.updLine k f).clock = s.clock := rfl
@[simp] theorem State.updLine_channel (k : Nat) (f : Line → Line) : (s.updLine k f).channel = s.channel := rfl
@[simp] theorem State.updLine_choices (k : Nat) (f : Line → Line) : (s.updLine k f).choices = s.choices := rfl
@[simp] theorem State.updLine_pending (k : Nat) (f : Line → Line) : (s.updLine k f).pending = s.pending := rfl
@[simp] theorem State.updLine_story (k : Nat) (f : Line → Line) (m : Nat) : (s.updLine k f).story m = s.story m := rfl
@[simp] theorem State.updLine_desk (k : Nat) (f : Line → Line) (m : Nat) : (s.updLine k f).desk m = s.desk m := rfl
@[simp] theorem State.updLine_page (k : Nat) (f : Line → Line) (m : Nat) : (s.updLine k f).page m = s.page m := rfl
@[simp] theorem State.updLine_port (k : Nat) (f : Line → Line) (z : Port) : (s.updLine k f).port z = s.port z := rfl

/-! #### mapLines -/

@[simp] theorem State.mapLines_stories (f : Nat → Line → Line) : (s.mapLines f).stories = s.stories := rfl
@[simp] theorem State.mapLines_desks (f : Nat → Line → Line) : (s.mapLines f).desks = s.desks := rfl
@[simp] theorem State.mapLines_store (f : Nat → Line → Line) : (s.mapLines f).store = s.store := rfl
@[simp] theorem State.mapLines_orphanWindow (f : Nat → Line → Line) : (s.mapLines f).orphanWindow = s.orphanWindow := rfl
@[simp] theorem State.mapLines_flashes (f : Nat → Line → Line) : (s.mapLines f).flashes = s.flashes := rfl
@[simp] theorem State.mapLines_fit (f : Nat → Line → Line) : (s.mapLines f).fit = s.fit := rfl
@[simp] theorem State.mapLines_pages (f : Nat → Line → Line) : (s.mapLines f).pages = s.pages := rfl
@[simp] theorem State.mapLines_output (f : Nat → Line → Line) : (s.mapLines f).output = s.output := rfl
@[simp] theorem State.mapLines_clock (f : Nat → Line → Line) : (s.mapLines f).clock = s.clock := rfl
@[simp] theorem State.mapLines_channel (f : Nat → Line → Line) : (s.mapLines f).channel = s.channel := rfl
@[simp] theorem State.mapLines_choices (f : Nat → Line → Line) : (s.mapLines f).choices = s.choices := rfl
@[simp] theorem State.mapLines_pending (f : Nat → Line → Line) : (s.mapLines f).pending = s.pending := rfl
@[simp] theorem State.mapLines_story (f : Nat → Line → Line) (m : Nat) : (s.mapLines f).story m = s.story m := rfl
@[simp] theorem State.mapLines_desk (f : Nat → Line → Line) (m : Nat) : (s.mapLines f).desk m = s.desk m := rfl
@[simp] theorem State.mapLines_page (f : Nat → Line → Line) (m : Nat) : (s.mapLines f).page m = s.page m := rfl
@[simp] theorem State.mapLines_port (f : Nat → Line → Line) (z : Port) : (s.mapLines f).port z = s.port z := rfl

/-! #### setPage -/

@[simp] theorem State.setPage_stories (g : Nat) (p : Page) : (s.setPage g p).stories = s.stories := rfl
@[simp] theorem State.setPage_desks (g : Nat) (p : Page) : (s.setPage g p).desks = s.desks := rfl
@[simp] theorem State.setPage_store (g : Nat) (p : Page) : (s.setPage g p).store = s.store := rfl
@[simp] theorem State.setPage_orphanWindow (g : Nat) (p : Page) : (s.setPage g p).orphanWindow = s.orphanWindow := rfl
@[simp] theorem State.setPage_lines (g : Nat) (p : Page) : (s.setPage g p).lines = s.lines := rfl
@[simp] theorem State.setPage_flashes (g : Nat) (p : Page) : (s.setPage g p).flashes = s.flashes := rfl
@[simp] theorem State.setPage_fit (g : Nat) (p : Page) : (s.setPage g p).fit = s.fit := rfl
@[simp] theorem State.setPage_output (g : Nat) (p : Page) : (s.setPage g p).output = s.output := rfl
@[simp] theorem State.setPage_clock (g : Nat) (p : Page) : (s.setPage g p).clock = s.clock := rfl
@[simp] theorem State.setPage_channel (g : Nat) (p : Page) : (s.setPage g p).channel = s.channel := rfl
@[simp] theorem State.setPage_choices (g : Nat) (p : Page) : (s.setPage g p).choices = s.choices := rfl
@[simp] theorem State.setPage_pending (g : Nat) (p : Page) : (s.setPage g p).pending = s.pending := rfl
@[simp] theorem State.setPage_story (g : Nat) (p : Page) (m : Nat) : (s.setPage g p).story m = s.story m := rfl
@[simp] theorem State.setPage_desk (g : Nat) (p : Page) (m : Nat) : (s.setPage g p).desk m = s.desk m := rfl
@[simp] theorem State.setPage_line (g : Nat) (p : Page) (m : Nat) : (s.setPage g p).line m = s.line m := rfl
@[simp] theorem State.setPage_port (g : Nat) (p : Page) (z : Port) : (s.setPage g p).port z = s.port z := rfl

/-! #### updPage -/

@[simp] theorem State.updPage_stories (g : Nat) (f : Page → Page) : (s.updPage g f).stories = s.stories := rfl
@[simp] theorem State.updPage_desks (g : Nat) (f : Page → Page) : (s.updPage g f).desks = s.desks := rfl
@[simp] theorem State.updPage_store (g : Nat) (f : Page → Page) : (s.updPage g f).store = s.store := rfl
@[simp] theorem State.updPage_orphanWindow (g : Nat) (f : Page → Page) : (s.updPage g f).orphanWindow = s.orphanWindow := rfl
@[simp] theorem State.updPage_lines (g : Nat) (f : Page → Page) : (s.updPage g f).lines = s.lines := rfl
@[simp] theorem State.updPage_flashes (g : Nat) (f : Page → Page) : (s.updPage g f).flashes = s.flashes := rfl
@[simp] theorem State.updPage_fit (g : Nat) (f : Page → Page) : (s.updPage g f).fit = s.fit := rfl
@[simp] theorem State.updPage_output (g : Nat) (f : Page → Page) : (s.updPage g f).output = s.output := rfl
@[simp] theorem State.updPage_clock (g : Nat) (f : Page → Page) : (s.updPage g f).clock = s.clock := rfl
@[simp] theorem State.updPage_channel (g : Nat) (f : Page → Page) : (s.updPage g f).channel = s.channel := rfl
@[simp] theorem State.updPage_choices (g : Nat) (f : Page → Page) : (s.updPage g f).choices = s.choices := rfl
@[simp] theorem State.updPage_pending (g : Nat) (f : Page → Page) : (s.updPage g f).pending = s.pending := rfl
@[simp] theorem State.updPage_story (g : Nat) (f : Page → Page) (m : Nat) : (s.updPage g f).story m = s.story m := rfl
@[simp] theorem State.updPage_desk (g : Nat) (f : Page → Page) (m : Nat) : (s.updPage g f).desk m = s.desk m := rfl
@[simp] theorem State.updPage_line (g : Nat) (f : Page → Page) (m : Nat) : (s.updPage g f).line m = s.line m := rfl
@[simp] theorem State.updPage_port (g : Nat) (f : Page → Page) (z : Port) : (s.updPage g f).port z = s.port z := rfl

/-! #### setPort -/

@[simp] theorem State.setPort_stories (p : Port) (v : SetterPort) : (s.setPort p v).stories = s.stories := rfl
@[simp] theorem State.setPort_desks (p : Port) (v : SetterPort) : (s.setPort p v).desks = s.desks := rfl
@[simp] theorem State.setPort_store (p : Port) (v : SetterPort) : (s.setPort p v).store = s.store := rfl
@[simp] theorem State.setPort_orphanWindow (p : Port) (v : SetterPort) : (s.setPort p v).orphanWindow = s.orphanWindow := rfl
@[simp] theorem State.setPort_lines (p : Port) (v : SetterPort) : (s.setPort p v).lines = s.lines := rfl
@[simp] theorem State.setPort_flashes (p : Port) (v : SetterPort) : (s.setPort p v).flashes = s.flashes := rfl
@[simp] theorem State.setPort_fit (p : Port) (v : SetterPort) : (s.setPort p v).fit = s.fit := rfl
@[simp] theorem State.setPort_pages (p : Port) (v : SetterPort) : (s.setPort p v).pages = s.pages := rfl
@[simp] theorem State.setPort_clock (p : Port) (v : SetterPort) : (s.setPort p v).clock = s.clock := rfl
@[simp] theorem State.setPort_channel (p : Port) (v : SetterPort) : (s.setPort p v).channel = s.channel := rfl
@[simp] theorem State.setPort_choices (p : Port) (v : SetterPort) : (s.setPort p v).choices = s.choices := rfl
@[simp] theorem State.setPort_pending (p : Port) (v : SetterPort) : (s.setPort p v).pending = s.pending := rfl
@[simp] theorem State.setPort_story (p : Port) (v : SetterPort) (m : Nat) : (s.setPort p v).story m = s.story m := rfl
@[simp] theorem State.setPort_desk (p : Port) (v : SetterPort) (m : Nat) : (s.setPort p v).desk m = s.desk m := rfl
@[simp] theorem State.setPort_line (p : Port) (v : SetterPort) (m : Nat) : (s.setPort p v).line m = s.line m := rfl
@[simp] theorem State.setPort_page (p : Port) (v : SetterPort) (m : Nat) : (s.setPort p v).page m = s.page m := rfl

/-! #### updPort -/

@[simp] theorem State.updPort_stories (p : Port) (f : SetterPort → SetterPort) : (s.updPort p f).stories = s.stories := rfl
@[simp] theorem State.updPort_desks (p : Port) (f : SetterPort → SetterPort) : (s.updPort p f).desks = s.desks := rfl
@[simp] theorem State.updPort_store (p : Port) (f : SetterPort → SetterPort) : (s.updPort p f).store = s.store := rfl
@[simp] theorem State.updPort_orphanWindow (p : Port) (f : SetterPort → SetterPort) : (s.updPort p f).orphanWindow = s.orphanWindow := rfl
@[simp] theorem State.updPort_lines (p : Port) (f : SetterPort → SetterPort) : (s.updPort p f).lines = s.lines := rfl
@[simp] theorem State.updPort_flashes (p : Port) (f : SetterPort → SetterPort) : (s.updPort p f).flashes = s.flashes := rfl
@[simp] theorem State.updPort_fit (p : Port) (f : SetterPort → SetterPort) : (s.updPort p f).fit = s.fit := rfl
@[simp] theorem State.updPort_pages (p : Port) (f : SetterPort → SetterPort) : (s.updPort p f).pages = s.pages := rfl
@[simp] theorem State.updPort_clock (p : Port) (f : SetterPort → SetterPort) : (s.updPort p f).clock = s.clock := rfl
@[simp] theorem State.updPort_channel (p : Port) (f : SetterPort → SetterPort) : (s.updPort p f).channel = s.channel := rfl
@[simp] theorem State.updPort_choices (p : Port) (f : SetterPort → SetterPort) : (s.updPort p f).choices = s.choices := rfl
@[simp] theorem State.updPort_pending (p : Port) (f : SetterPort → SetterPort) : (s.updPort p f).pending = s.pending := rfl
@[simp] theorem State.updPort_story (p : Port) (f : SetterPort → SetterPort) (m : Nat) : (s.updPort p f).story m = s.story m := rfl
@[simp] theorem State.updPort_desk (p : Port) (f : SetterPort → SetterPort) (m : Nat) : (s.updPort p f).desk m = s.desk m := rfl
@[simp] theorem State.updPort_line (p : Port) (f : SetterPort → SetterPort) (m : Nat) : (s.updPort p f).line m = s.line m := rfl
@[simp] theorem State.updPort_page (p : Port) (f : SetterPort → SetterPort) (m : Nat) : (s.updPort p f).page m = s.page m := rfl

/-! #### setQueue -/

@[simp] theorem State.setQueue_stories (q : List Job) : (s.setQueue q).stories = s.stories := rfl
@[simp] theorem State.setQueue_desks (q : List Job) : (s.setQueue q).desks = s.desks := rfl
@[simp] theorem State.setQueue_store (q : List Job) : (s.setQueue q).store = s.store := rfl
@[simp] theorem State.setQueue_orphanWindow (q : List Job) : (s.setQueue q).orphanWindow = s.orphanWindow := rfl
@[simp] theorem State.setQueue_lines (q : List Job) : (s.setQueue q).lines = s.lines := rfl
@[simp] theorem State.setQueue_flashes (q : List Job) : (s.setQueue q).flashes = s.flashes := rfl
@[simp] theorem State.setQueue_fit (q : List Job) : (s.setQueue q).fit = s.fit := rfl
@[simp] theorem State.setQueue_pages (q : List Job) : (s.setQueue q).pages = s.pages := rfl
@[simp] theorem State.setQueue_clock (q : List Job) : (s.setQueue q).clock = s.clock := rfl
@[simp] theorem State.setQueue_channel (q : List Job) : (s.setQueue q).channel = s.channel := rfl
@[simp] theorem State.setQueue_choices (q : List Job) : (s.setQueue q).choices = s.choices := rfl
@[simp] theorem State.setQueue_pending (q : List Job) : (s.setQueue q).pending = s.pending := rfl
@[simp] theorem State.setQueue_story (q : List Job) (m : Nat) : (s.setQueue q).story m = s.story m := rfl
@[simp] theorem State.setQueue_desk (q : List Job) (m : Nat) : (s.setQueue q).desk m = s.desk m := rfl
@[simp] theorem State.setQueue_line (q : List Job) (m : Nat) : (s.setQueue q).line m = s.line m := rfl
@[simp] theorem State.setQueue_page (q : List Job) (m : Nat) : (s.setQueue q).page m = s.page m := rfl

/-! #### setFitQueue -/

@[simp] theorem State.setFitQueue_stories (q : List Nat) : (s.setFitQueue q).stories = s.stories := rfl
@[simp] theorem State.setFitQueue_desks (q : List Nat) : (s.setFitQueue q).desks = s.desks := rfl
@[simp] theorem State.setFitQueue_store (q : List Nat) : (s.setFitQueue q).store = s.store := rfl
@[simp] theorem State.setFitQueue_orphanWindow (q : List Nat) : (s.setFitQueue q).orphanWindow = s.orphanWindow := rfl
@[simp] theorem State.setFitQueue_lines (q : List Nat) : (s.setFitQueue q).lines = s.lines := rfl
@[simp] theorem State.setFitQueue_flashes (q : List Nat) : (s.setFitQueue q).flashes = s.flashes := rfl
@[simp] theorem State.setFitQueue_pages (q : List Nat) : (s.setFitQueue q).pages = s.pages := rfl
@[simp] theorem State.setFitQueue_output (q : List Nat) : (s.setFitQueue q).output = s.output := rfl
@[simp] theorem State.setFitQueue_clock (q : List Nat) : (s.setFitQueue q).clock = s.clock := rfl
@[simp] theorem State.setFitQueue_channel (q : List Nat) : (s.setFitQueue q).channel = s.channel := rfl
@[simp] theorem State.setFitQueue_choices (q : List Nat) : (s.setFitQueue q).choices = s.choices := rfl
@[simp] theorem State.setFitQueue_pending (q : List Nat) : (s.setFitQueue q).pending = s.pending := rfl
@[simp] theorem State.setFitQueue_story (q : List Nat) (m : Nat) : (s.setFitQueue q).story m = s.story m := rfl
@[simp] theorem State.setFitQueue_desk (q : List Nat) (m : Nat) : (s.setFitQueue q).desk m = s.desk m := rfl
@[simp] theorem State.setFitQueue_line (q : List Nat) (m : Nat) : (s.setFitQueue q).line m = s.line m := rfl
@[simp] theorem State.setFitQueue_page (q : List Nat) (m : Nat) : (s.setFitQueue q).page m = s.page m := rfl
@[simp] theorem State.setFitQueue_port (q : List Nat) (z : Port) : (s.setFitQueue q).port z = s.port z := rfl

/-! #### raise -/

@[simp] theorem State.raise_stories (n : Notice) : (s.raise n).stories = s.stories := rfl
@[simp] theorem State.raise_desks (n : Notice) : (s.raise n).desks = s.desks := rfl
@[simp] theorem State.raise_store (n : Notice) : (s.raise n).store = s.store := rfl
@[simp] theorem State.raise_orphanWindow (n : Notice) : (s.raise n).orphanWindow = s.orphanWindow := rfl
@[simp] theorem State.raise_lines (n : Notice) : (s.raise n).lines = s.lines := rfl
@[simp] theorem State.raise_flashes (n : Notice) : (s.raise n).flashes = s.flashes := rfl
@[simp] theorem State.raise_fit (n : Notice) : (s.raise n).fit = s.fit := rfl
@[simp] theorem State.raise_pages (n : Notice) : (s.raise n).pages = s.pages := rfl
@[simp] theorem State.raise_output (n : Notice) : (s.raise n).output = s.output := rfl
@[simp] theorem State.raise_clock (n : Notice) : (s.raise n).clock = s.clock := rfl
@[simp] theorem State.raise_choices (n : Notice) : (s.raise n).choices = s.choices := rfl
@[simp] theorem State.raise_pending (n : Notice) : (s.raise n).pending = s.pending := rfl
@[simp] theorem State.raise_story (n : Notice) (m : Nat) : (s.raise n).story m = s.story m := rfl
@[simp] theorem State.raise_desk (n : Notice) (m : Nat) : (s.raise n).desk m = s.desk m := rfl
@[simp] theorem State.raise_line (n : Notice) (m : Nat) : (s.raise n).line m = s.line m := rfl
@[simp] theorem State.raise_page (n : Notice) (m : Nat) : (s.raise n).page m = s.page m := rfl
@[simp] theorem State.raise_port (n : Notice) (z : Port) : (s.raise n).port z = s.port z := rfl

/-! #### refresh -/

@[simp] theorem State.refresh_stories (p : Nat → Line → Bool) : (s.refresh p).stories = s.stories := rfl
@[simp] theorem State.refresh_desks (p : Nat → Line → Bool) : (s.refresh p).desks = s.desks := rfl
@[simp] theorem State.refresh_store (p : Nat → Line → Bool) : (s.refresh p).store = s.store := rfl
@[simp] theorem State.refresh_orphanWindow (p : Nat → Line → Bool) : (s.refresh p).orphanWindow = s.orphanWindow := rfl
@[simp] theorem State.refresh_flashes (p : Nat → Line → Bool) : (s.refresh p).flashes = s.flashes := rfl
@[simp] theorem State.refresh_fit (p : Nat → Line → Bool) : (s.refresh p).fit = s.fit := rfl
@[simp] theorem State.refresh_pages (p : Nat → Line → Bool) : (s.refresh p).pages = s.pages := rfl
@[simp] theorem State.refresh_output (p : Nat → Line → Bool) : (s.refresh p).output = s.output := rfl
@[simp] theorem State.refresh_clock (p : Nat → Line → Bool) : (s.refresh p).clock = s.clock := rfl
@[simp] theorem State.refresh_channel (p : Nat → Line → Bool) : (s.refresh p).channel = s.channel := rfl
@[simp] theorem State.refresh_choices (p : Nat → Line → Bool) : (s.refresh p).choices = s.choices := rfl
@[simp] theorem State.refresh_pending (p : Nat → Line → Bool) : (s.refresh p).pending = s.pending := rfl
@[simp] theorem State.refresh_story (p : Nat → Line → Bool) (m : Nat) : (s.refresh p).story m = s.story m := rfl
@[simp] theorem State.refresh_desk (p : Nat → Line → Bool) (m : Nat) : (s.refresh p).desk m = s.desk m := rfl
@[simp] theorem State.refresh_page (p : Nat → Line → Bool) (m : Nat) : (s.refresh p).page m = s.page m := rfl
@[simp] theorem State.refresh_port (p : Nat → Line → Bool) (z : Port) : (s.refresh p).port z = s.port z := rfl

/-! #### wake -/

@[simp] theorem State.wake_stories (p : Nat → Line → Bool) : (s.wake p).stories = s.stories := rfl
@[simp] theorem State.wake_desks (p : Nat → Line → Bool) : (s.wake p).desks = s.desks := rfl
@[simp] theorem State.wake_store (p : Nat → Line → Bool) : (s.wake p).store = s.store := rfl
@[simp] theorem State.wake_orphanWindow (p : Nat → Line → Bool) : (s.wake p).orphanWindow = s.orphanWindow := rfl
@[simp] theorem State.wake_flashes (p : Nat → Line → Bool) : (s.wake p).flashes = s.flashes := rfl
@[simp] theorem State.wake_fit (p : Nat → Line → Bool) : (s.wake p).fit = s.fit := rfl
@[simp] theorem State.wake_pages (p : Nat → Line → Bool) : (s.wake p).pages = s.pages := rfl
@[simp] theorem State.wake_output (p : Nat → Line → Bool) : (s.wake p).output = s.output := rfl
@[simp] theorem State.wake_clock (p : Nat → Line → Bool) : (s.wake p).clock = s.clock := rfl
@[simp] theorem State.wake_channel (p : Nat → Line → Bool) : (s.wake p).channel = s.channel := rfl
@[simp] theorem State.wake_choices (p : Nat → Line → Bool) : (s.wake p).choices = s.choices := rfl
@[simp] theorem State.wake_pending (p : Nat → Line → Bool) : (s.wake p).pending = s.pending := rfl
@[simp] theorem State.wake_story (p : Nat → Line → Bool) (m : Nat) : (s.wake p).story m = s.story m := rfl
@[simp] theorem State.wake_desk (p : Nat → Line → Bool) (m : Nat) : (s.wake p).desk m = s.desk m := rfl
@[simp] theorem State.wake_page (p : Nat → Line → Bool) (m : Nat) : (s.wake p).page m = s.page m := rfl
@[simp] theorem State.wake_port (p : Nat → Line → Bool) (z : Port) : (s.wake p).port z = s.port z := rfl

/-! #### lamps -/

@[simp] theorem State.lamps_stories (p : Nat → Line → Bool) : (s.lamps p).stories = s.stories := rfl
@[simp] theorem State.lamps_desks (p : Nat → Line → Bool) : (s.lamps p).desks = s.desks := rfl
@[simp] theorem State.lamps_store (p : Nat → Line → Bool) : (s.lamps p).store = s.store := rfl
@[simp] theorem State.lamps_orphanWindow (p : Nat → Line → Bool) : (s.lamps p).orphanWindow = s.orphanWindow := rfl
@[simp] theorem State.lamps_flashes (p : Nat → Line → Bool) : (s.lamps p).flashes = s.flashes := rfl
@[simp] theorem State.lamps_fit (p : Nat → Line → Bool) : (s.lamps p).fit = s.fit := rfl
@[simp] theorem State.lamps_pages (p : Nat → Line → Bool) : (s.lamps p).pages = s.pages := rfl
@[simp] theorem State.lamps_output (p : Nat → Line → Bool) : (s.lamps p).output = s.output := rfl
@[simp] theorem State.lamps_clock (p : Nat → Line → Bool) : (s.lamps p).clock = s.clock := rfl
@[simp] theorem State.lamps_channel (p : Nat → Line → Bool) : (s.lamps p).channel = s.channel := rfl
@[simp] theorem State.lamps_choices (p : Nat → Line → Bool) : (s.lamps p).choices = s.choices := rfl
@[simp] theorem State.lamps_pending (p : Nat → Line → Bool) : (s.lamps p).pending = s.pending := rfl
@[simp] theorem State.lamps_story (p : Nat → Line → Bool) (m : Nat) : (s.lamps p).story m = s.story m := rfl
@[simp] theorem State.lamps_desk (p : Nat → Line → Bool) (m : Nat) : (s.lamps p).desk m = s.desk m := rfl
@[simp] theorem State.lamps_page (p : Nat → Line → Bool) (m : Nat) : (s.lamps p).page m = s.page m := rfl
@[simp] theorem State.lamps_port (p : Nat → Line → Bool) (z : Port) : (s.lamps p).port z = s.port z := rfl

/-! #### unseeLine -/

@[simp] theorem State.unseeLine_stories (k : Nat) : (s.unseeLine k).stories = s.stories := rfl
@[simp] theorem State.unseeLine_desks (k : Nat) : (s.unseeLine k).desks = s.desks := rfl
@[simp] theorem State.unseeLine_store (k : Nat) : (s.unseeLine k).store = s.store := rfl
@[simp] theorem State.unseeLine_orphanWindow (k : Nat) : (s.unseeLine k).orphanWindow = s.orphanWindow := rfl
@[simp] theorem State.unseeLine_lines (k : Nat) : (s.unseeLine k).lines = s.lines := rfl
@[simp] theorem State.unseeLine_fit (k : Nat) : (s.unseeLine k).fit = s.fit := rfl
@[simp] theorem State.unseeLine_pages (k : Nat) : (s.unseeLine k).pages = s.pages := rfl
@[simp] theorem State.unseeLine_output (k : Nat) : (s.unseeLine k).output = s.output := rfl
@[simp] theorem State.unseeLine_clock (k : Nat) : (s.unseeLine k).clock = s.clock := rfl
@[simp] theorem State.unseeLine_channel (k : Nat) : (s.unseeLine k).channel = s.channel := rfl
@[simp] theorem State.unseeLine_choices (k : Nat) : (s.unseeLine k).choices = s.choices := rfl
@[simp] theorem State.unseeLine_pending (k : Nat) : (s.unseeLine k).pending = s.pending := rfl
@[simp] theorem State.unseeLine_story (k : Nat) (m : Nat) : (s.unseeLine k).story m = s.story m := rfl
@[simp] theorem State.unseeLine_desk (k : Nat) (m : Nat) : (s.unseeLine k).desk m = s.desk m := rfl
@[simp] theorem State.unseeLine_line (k : Nat) (m : Nat) : (s.unseeLine k).line m = s.line m := rfl
@[simp] theorem State.unseeLine_page (k : Nat) (m : Nat) : (s.unseeLine k).page m = s.page m := rfl
@[simp] theorem State.unseeLine_port (k : Nat) (z : Port) : (s.unseeLine k).port z = s.port z := rfl

end Sys2Proof.Machine
end

