-- ==== Sys2Proof/Laws/Access.lean ====
section
/-! SUPPORT. What each record reads as after an update of one of its kind. -/

namespace Sys2Proof.Machine

variable (s : State)

/-! ### Stories -/

theorem storyOk_iff (n : Nat) : storyOk n = true ↔ 1 ≤ n ∧ n ≤ 512 := by
  simp only [storyOk, within, Bool.and_eq_true, decide_eq_true_eq]
  exact Iff.rfl

theorem State.story_setStory (n m : Nat) (r : Story) :
    (s.setStory n r).story m = if m = n ∧ 1 ≤ n ∧ n ≤ 512 then r else s.story m := by
  cases n with
  | zero => simp [State.setStory]
  | succ k =>
    cases m with
    | zero => simp [State.story]
    | succ j =>
      simp only [State.story, State.setStory, Vector.getElem?_setIfInBounds]
      by_cases h : k = j
      · subst h
        by_cases hk : k < 512 <;> simp [hk]
      · have : ¬ j = k := by omega
        simp [h, this]

@[simp] theorem State.story_setStory_self {n : Nat} (h : 1 ≤ n ∧ n ≤ 512) (r : Story) : (s.setStory n r).story n = r := by
  simp [State.story_setStory, h]

theorem State.story_setStory_ne {n m : Nat} (h : m ≠ n) (r : Story) : (s.setStory n r).story m = s.story m := by
  simp [State.story_setStory, h]

theorem State.story_updStory (n m : Nat) (f : Story → Story) :
    (s.updStory n f).story m = if m = n ∧ 1 ≤ n ∧ n ≤ 512 then f (s.story n) else s.story m :=
  s.story_setStory n m _

@[simp] theorem State.story_updStory_self {n : Nat} (h : 1 ≤ n ∧ n ≤ 512) (f : Story → Story) :
    (s.updStory n f).story n = f (s.story n) := s.story_setStory_self h _

theorem State.story_updStory_ne {n m : Nat} (h : m ≠ n) (f : Story → Story) :
    (s.updStory n f).story m = s.story m := s.story_setStory_ne h _

/-- A number no story has reads as a FREE record, so a record that is not FREE has a story's number. -/
theorem State.story_range {n : Nat} (h : s.story n ≠ Story.freed) : 1 ≤ n ∧ n ≤ 512 := by
  cases n with
  | zero => exact absurd rfl h
  | succ k =>
    refine ⟨by omega, ?_⟩
    by_contra hk
    have : 512 ≤ k := by omega
    exact h (by simp [State.story, this])

theorem State.story_range_of_stage {n : Nat} (h : (s.story n).stage ≠ .free) : 1 ≤ n ∧ n ≤ 512 :=
  s.story_range fun e => h (by rw [e]; rfl)

/-! ### Desks -/

theorem State.desk_updDesk (d e : Nat) (f : Desk → Desk) :
    (s.updDesk d f).desk e = if e = d ∧ d < 16 then f (s.desk d) else s.desk e := by
  simp only [State.desk, State.updDesk, Vector.getElem?_setIfInBounds]
  by_cases h : d = e
  · subst h
    by_cases hd : d < 16 <;> simp [hd]
  · have : ¬ e = d := fun x => h x.symm
    simp [h, this]

@[simp] theorem State.desk_updDesk_self {d : Nat} (h : d < 16) (f : Desk → Desk) :
    (s.updDesk d f).desk d = f (s.desk d) := by simp [State.desk_updDesk, h]

theorem State.desk_updDesk_ne {d e : Nat} (h : e ≠ d) (f : Desk → Desk) : (s.updDesk d f).desk e = s.desk e := by
  simp [State.desk_updDesk, h]

/-! ### Lines -/

theorem State.line_updLine (k m : Nat) (f : Line → Line) :
    (s.updLine k f).line m = if m = k ∧ k < 32 then f (s.line k) else s.line m := by
  simp only [State.line, State.updLine, Vector.getElem?_setIfInBounds]
  by_cases h : k = m
  · subst h
    by_cases hk : k < 32 <;> simp [hk]
  · have : ¬ m = k := fun x => h x.symm
    simp [h, this]

@[simp] theorem State.line_updLine_self {k : Nat} (h : k < 32) (f : Line → Line) :
    (s.updLine k f).line k = f (s.line k) := by simp [State.line_updLine, h]

theorem State.line_updLine_ne {k m : Nat} (h : m ≠ k) (f : Line → Line) : (s.updLine k f).line m = s.line m := by
  simp [State.line_updLine, h]

theorem State.line_mapLines (f : Nat → Line → Line) (k : Nat) :
    (s.mapLines f).line k = if k < 32 then f k (s.line k) else Line.reset := by
  simp only [State.line, State.mapLines]
  by_cases hk : k < 32 <;> simp [hk]

theorem State.line_eq_reset {k : Nat} (h : ¬ k < 32) : s.line k = Line.reset := by simp [State.line, h]

theorem State.line_lamps (p : Nat → Line → Bool) (k : Nat) :
    (s.lamps p).line k =
      if k < 32 ∧ p k (s.line k) = true then { s.line k with lamp := s.lampLit k (s.line k) } else s.line k := by
  rw [State.lamps, State.line_mapLines]
  by_cases hk : k < 32
  · by_cases hp : p k (s.line k) = true <;> simp [hk, hp]
  · simp [hk, s.line_eq_reset hk]

theorem State.line_refresh (p : Nat → Line → Bool) (k : Nat) :
    (s.refresh p).line k =
      if k < 32 ∧ (s.line k).state = .ready ∧ p k (s.line k) = true then s.withStatus k (s.line k) else s.line k := by
  rw [State.refresh, State.line_mapLines]
  by_cases hk : k < 32
  · by_cases hs : (s.line k).state = .ready <;> by_cases hp : p k (s.line k) = true <;> simp [hk, hs, hp]
  · simp [hk, s.line_eq_reset hk]

theorem State.line_wake (p : Nat → Line → Bool) (k : Nat) :
    (s.wake p).line k =
      if k < 32 ∧ (s.line k).state = .dim ∧ p k (s.line k) = true then s.awake k (s.line k) else s.line k := by
  rw [State.wake, State.line_mapLines]
  by_cases hk : k < 32
  · by_cases hs : (s.line k).state = .dim <;> by_cases hp : p k (s.line k) = true <;> simp [hk, hs, hp]
  · simp [hk, s.line_eq_reset hk]

/-! ### Pages and slots -/

theorem State.page_setPage (g h : Nat) (p : Page) :
    (s.setPage g p).page h = if h = g ∧ 1 ≤ g ∧ g ≤ 48 then p else s.page h := by
  cases g with
  | zero => simp [State.setPage]
  | succ k =>
    cases h with
    | zero => simp [State.page]
    | succ j =>
      simp only [State.page, State.setPage, Vector.getElem?_setIfInBounds]
      by_cases e : k = j
      · subst e
        by_cases hk : k < 48 <;> simp [hk]
      · have : ¬ j = k := by omega
        simp [e, this]

@[simp] theorem State.page_setPage_self {g : Nat} (h : 1 ≤ g ∧ g ≤ 48) (p : Page) : (s.setPage g p).page g = p := by
  simp [State.page_setPage, h]

theorem State.page_setPage_ne {g h : Nat} (e : h ≠ g) (p : Page) : (s.setPage g p).page h = s.page h := by
  simp [State.page_setPage, e]

theorem State.page_updPage (g h : Nat) (f : Page → Page) :
    (s.updPage g f).page h = if h = g ∧ 1 ≤ g ∧ g ≤ 48 then f (s.page g) else s.page h := s.page_setPage g h _

@[simp] theorem State.page_updPage_self {g : Nat} (h : 1 ≤ g ∧ g ≤ 48) (f : Page → Page) :
    (s.updPage g f).page g = f (s.page g) := s.page_setPage_self h _

theorem State.page_updPage_ne {g h : Nat} (e : h ≠ g) (f : Page → Page) : (s.updPage g f).page h = s.page h :=
  s.page_setPage_ne e _

/-- An id no page has reads as a CLOSED page. -/
theorem State.page_range {g : Nat} (h : (s.page g).state ≠ .closed) : 1 ≤ g ∧ g ≤ 48 := by
  cases g with
  | zero => exact absurd rfl h
  | succ k =>
    refine ⟨by omega, ?_⟩
    by_contra hk
    have : 48 ≤ k := by omega
    exact h (by simp [State.page, this, Page.shut])

theorem Page.slot_setSlot (p : Page) (k j : Nat) (v : Option Slot) :
    (p.setSlot k v).slot j = if j = k ∧ 1 ≤ k ∧ k ≤ 16 then v else p.slot j := by
  cases k with
  | zero => simp [Page.setSlot, Page.slot]
  | succ a =>
    cases j with
    | zero => simp [Page.slot]
    | succ b =>
      simp only [Page.slot, Page.setSlot, Vector.getElem?_setIfInBounds]
      by_cases e : a = b
      · subst e
        by_cases hk : a < 16 <;> simp [hk]
      · have : ¬ b = a := by omega
        simp [e, this]

/-! ### Ports -/

theorem State.port_setPort (p q : Port) (v : SetterPort) :
    (s.setPort p v).port q = if q = p then v else s.port q := by
  cases p <;> cases q <;> simp [State.setPort, State.port]

@[simp] theorem State.port_setPort_self (p : Port) (v : SetterPort) : (s.setPort p v).port p = v := by
  simp [State.port_setPort]

theorem State.port_updPort (p q : Port) (f : SetterPort → SetterPort) :
    (s.updPort p f).port q = if q = p then f (s.port p) else s.port q := s.port_setPort p q _

@[simp] theorem State.port_updPort_self (p : Port) (f : SetterPort → SetterPort) :
    (s.updPort p f).port p = f (s.port p) := s.port_setPort_self p _

@[simp] theorem State.setPort_queue (p : Port) (v : SetterPort) :
    (s.setPort p v).output.queue = s.output.queue := rfl

@[simp] theorem State.setPort_xlate (p : Port) (v : SetterPort) :
    (s.setPort p v).output.xlate = s.output.xlate := rfl

@[simp] theorem State.updPort_queue (p : Port) (f : SetterPort → SetterPort) :
    (s.updPort p f).output.queue = s.output.queue := rfl

@[simp] theorem State.setQueue_queue (q : List Job) : (s.setQueue q).output.queue = q := rfl

@[simp] theorem State.setQueue_port (q : List Job) (p : Port) : (s.setQueue q).port p = s.port p := by cases p <;> rfl

@[simp] theorem State.setFitQueue_queue (q : List Nat) : (s.setFitQueue q).fit.queue = q := rfl

@[simp] theorem State.raise_channel (n : Notice) : (s.raise n).channel = s.channel.raise n := rfl

end Sys2Proof.Machine
end

