-- ==== Sys2Proof/Laws/Touch.lean ====
section
/-! SUPPORT. What each shared operation can touch: one lemma per operation, saying that it leaves every other part of the
state as it was. -/

namespace Sys2Proof.Machine

/-! ### The relation -/

theorem OnlyTouches.refl (ps : List Part) (s : State) : OnlyTouches ps s s := by
  intro p _; cases p <;> rfl

theorem State.agree.trans {s t u : State} {p : Part} (h : s.agree t p) (k : t.agree u p) : s.agree u p := by
  cases p <;> exact Eq.trans k h

theorem OnlyTouches.trans {ps qs : List Part} {s t u : State} (h : OnlyTouches ps s t) (k : OnlyTouches qs t u)
    (hq : qs ⊆ ps) : OnlyTouches ps s u :=
  fun p hp => (h p hp).trans (k p fun m => hp (hq m))

theorem OnlyTouches.mono {ps qs : List Part} {s t : State} (h : OnlyTouches ps s t) (hp : ps ⊆ qs) : OnlyTouches qs s t :=
  fun p hq => h p fun m => hq (hp m)

theorem OnlyTouches.foldl {α : Type} {ps : List Part} {f : State → α → State} (h : ∀ s a, OnlyTouches ps s (f s a))
    (l : List α) (s : State) : OnlyTouches ps s (l.foldl f s) := by
  induction l generalizing s with
  | nil => exact .refl ps s
  | cons a l ih => exact (h s a).trans (ih _) (List.Subset.refl ps)

section Parts
variable {ps : List Part} {s t : State} (h : OnlyTouches ps s t)
include h

theorem OnlyTouches.stories (hp : Part.stories ∉ ps := by decide) : t.stories = s.stories := h .stories hp
theorem OnlyTouches.desks (hp : Part.desks ∉ ps := by decide) : t.desks = s.desks := h .desks hp
theorem OnlyTouches.store (hp : Part.store ∉ ps := by decide) : t.store = s.store := h .store hp
theorem OnlyTouches.orphanWindow (hp : Part.orphanWindow ∉ ps := by decide) : t.orphanWindow = s.orphanWindow :=
  h .orphanWindow hp
theorem OnlyTouches.lines (hp : Part.lines ∉ ps := by decide) : t.lines = s.lines := h .lines hp
theorem OnlyTouches.flashes (hp : Part.flashes ∉ ps := by decide) : t.flashes = s.flashes := h .flashes hp
theorem OnlyTouches.fit (hp : Part.fit ∉ ps := by decide) : t.fit = s.fit := h .fit hp
theorem OnlyTouches.pages (hp : Part.pages ∉ ps := by decide) : t.pages = s.pages := h .pages hp
theorem OnlyTouches.output (hp : Part.output ∉ ps := by decide) : t.output = s.output := h .output hp
theorem OnlyTouches.clock (hp : Part.clock ∉ ps := by decide) : t.clock = s.clock := h .clock hp
theorem OnlyTouches.channel (hp : Part.channel ∉ ps := by decide) : t.channel = s.channel := h .channel hp
theorem OnlyTouches.choices (hp : Part.choices ∉ ps := by decide) : t.choices = s.choices := h .choices hp
theorem OnlyTouches.pending (hp : Part.pending ∉ ps := by decide) : t.pending = s.pending := h .pending hp

theorem OnlyTouches.story (n : Nat) (hp : Part.stories ∉ ps := by decide) : t.story n = s.story n := by
  cases n with
  | zero => rfl
  | succ k => simp only [State.story, h.stories hp]
theorem OnlyTouches.desk (d : Nat) (hp : Part.desks ∉ ps := by decide) : t.desk d = s.desk d := by
  simp only [State.desk, h.desks hp]
theorem OnlyTouches.line (k : Nat) (hp : Part.lines ∉ ps := by decide) : t.line k = s.line k := by
  simp only [State.line, h.lines hp]
theorem OnlyTouches.page (g : Nat) (hp : Part.pages ∉ ps := by decide) : t.page g = s.page g := by
  cases g with
  | zero => rfl
  | succ k => simp only [State.page, h.pages hp]
theorem OnlyTouches.port (p : Port) (hp : Part.output ∉ ps := by decide) : t.port p = s.port p := by
  cases p <;> simp only [State.port, h.output hp]

end Parts

/-! ### Single updates -/

variable (s : State)

theorem State.setStory_touches (n : Nat) (r : Story) : OnlyTouches [.stories] s (s.setStory n r) := by
  intro p hp; cases p <;> first | rfl | exact absurd (by decide) hp
theorem State.updStory_touches (n : Nat) (f : Story → Story) : OnlyTouches [.stories] s (s.updStory n f) :=
  s.setStory_touches n _
theorem State.updDesk_touches (d : Nat) (f : Desk → Desk) : OnlyTouches [.desks] s (s.updDesk d f) := by
  intro p hp; cases p <;> first | rfl | exact absurd (by decide) hp
theorem State.updLine_touches (k : Nat) (f : Line → Line) : OnlyTouches [.lines] s (s.updLine k f) := by
  intro p hp; cases p <;> first | rfl | exact absurd (by decide) hp
theorem State.mapLines_touches (f : Nat → Line → Line) : OnlyTouches [.lines] s (s.mapLines f) := by
  intro p hp; cases p <;> first | rfl | exact absurd (by decide) hp
theorem State.setPage_touches (g : Nat) (v : Page) : OnlyTouches [.pages] s (s.setPage g v) := by
  intro p hp; cases p <;> first | rfl | exact absurd (by decide) hp
theorem State.updPage_touches (g : Nat) (f : Page → Page) : OnlyTouches [.pages] s (s.updPage g f) :=
  s.setPage_touches g _
theorem State.setPort_touches (q : Port) (v : SetterPort) : OnlyTouches [.output] s (s.setPort q v) := by
  intro p hp; cases p <;> first | rfl | exact absurd (by decide) hp
theorem State.updPort_touches (q : Port) (f : SetterPort → SetterPort) : OnlyTouches [.output] s (s.updPort q f) :=
  s.setPort_touches q _
theorem State.setQueue_touches (q : List Job) : OnlyTouches [.output] s (s.setQueue q) := by
  intro p hp; cases p <;> first | rfl | exact absurd (by decide) hp
theorem State.setFitQueue_touches (q : List Nat) : OnlyTouches [.fit] s (s.setFitQueue q) := by
  intro p hp; cases p <;> first | rfl | exact absurd (by decide) hp
theorem State.raise_touches (n : Notice) : OnlyTouches [.channel] s (s.raise n) := by
  intro p hp; cases p <;> first | rfl | exact absurd (by decide) hp
theorem State.unseeLine_touches (k : Nat) : OnlyTouches [.flashes] s (s.unseeLine k) := by
  intro p hp; cases p <;> first | rfl | exact absurd (by decide) hp
theorem State.offer_touches (i : Instr) : OnlyTouches [.channel] s (s.offer i) := by
  unfold State.offer
  split
  · exact .refl _ s
  · split
    · exact .refl _ s
    · intro p hp; cases p <;> first | rfl | exact absurd (by decide) hp
theorem State.storeRelief_touches : OnlyTouches [.store] s s.storeRelief := by
  unfold State.storeRelief
  split
  · intro p hp; cases p <;> first | rfl | exact absurd (by decide) hp
  · exact .refl _ s
theorem State.storeLatch_touches : OnlyTouches [.store, .channel] s s.storeLatch := by
  unfold State.storeLatch
  split
  · intro p hp; cases p <;> first | rfl | exact absurd (by decide) hp
  · split
    · intro p hp; cases p <;> first | rfl | exact absurd (by decide) hp
    · exact .refl _ s
theorem State.writeText_touches (n : Nat) (text : List CopyLine) (style : Option Nat) :
    OnlyTouches [.stories, .store] s (s.writeText n text style) := by
  intro p hp; cases p <;> first | rfl | exact absurd (by decide) hp

/-! ### Screens, status lines, lamps -/

theorem State.putWindow_touches (k n f : Nat) : OnlyTouches [.lines] s (s.putWindow k n f) := s.updLine_touches k _
theorem State.putHome_touches (k d p : Nat) : OnlyTouches [.lines] s (s.putHome k d p) := s.updLine_touches k _
theorem State.putOwnHome_touches (k : Nat) : OnlyTouches [.lines] s (s.putOwnHome k) := by
  unfold State.putOwnHome
  split
  · exact s.putHome_touches k _ 0
  · exact .refl _ s
theorem State.refresh_touches (p : Nat → Line → Bool) : OnlyTouches [.lines] s (s.refresh p) := s.mapLines_touches _
theorem State.refreshDesk_touches (d : Nat) : OnlyTouches [.lines] s (s.refreshDesk d) := s.mapLines_touches _
theorem State.refreshLine_touches (k : Nat) : OnlyTouches [.lines] s (s.refreshLine k) := s.mapLines_touches _
theorem State.refreshAll_touches : OnlyTouches [.lines] s s.refreshAll := s.mapLines_touches _
theorem State.lamps_touches (p : Nat → Line → Bool) : OnlyTouches [.lines] s (s.lamps p) := s.mapLines_touches _
theorem State.lampAnew_touches (k : Nat) : OnlyTouches [.lines] s (s.lampAnew k) := s.mapLines_touches _
theorem State.lampIf_touches (k : Nat) (src : LampSource) : OnlyTouches [.lines] s (s.lampIf k src) := s.mapLines_touches _
theorem State.lampsDesk_touches (d : Nat) : OnlyTouches [.lines] s (s.lampsDesk d) := s.mapLines_touches _
theorem State.lampsDeadline_touches : OnlyTouches [.lines] s s.lampsDeadline := s.mapLines_touches _
theorem State.lampHolder_touches (n : Nat) : OnlyTouches [.lines] s (s.lampHolder n) := by
  unfold State.lampHolder
  split
  · exact s.lampIf_touches _ _
  · exact .refl _ s
theorem State.wake_touches (p : Nat → Line → Bool) : OnlyTouches [.lines] s (s.wake p) := s.mapLines_touches _

/-! ### Fits and judgements -/

theorem State.judge_touches (g : Nat) : OnlyTouches [.pages] s (s.judge g) := s.updPage_touches g _
theorem State.judgeStory_touches (n : Nat) : OnlyTouches [.pages] s (s.judgeStory n) := by
  unfold State.judgeStory
  dsimp only
  split
  · split
    · exact s.judge_touches _
    · exact .refl _ s
  · exact .refl _ s
theorem State.noticeFit_touches (before : State) (g : Nat) : OnlyTouches [.channel] s (State.noticeFit before g s) := by
  unfold State.noticeFit
  split
  · exact .refl _ s
  · exact s.raise_touches _
theorem State.noticeFitOf_touches (before : State) (n : Nat) : OnlyTouches [.channel] s (State.noticeFitOf before n s) := by
  unfold State.noticeFitOf
  split
  · exact s.noticeFit_touches before _
  · exact .refl _ s
theorem State.noticeFits_touches (before : State) : OnlyTouches [.channel] s (State.noticeFits before s) :=
  .foldl (fun t g => t.noticeFit_touches before g) pageIds s
theorem State.handOff_touches (n : Nat) : OnlyTouches [.pages, .lines] s (s.handOff n) :=
  ((s.judgeStory_touches n).mono (by decide)).trans (State.lampHolder_touches _ n) (by decide)
theorem State.makeStale_touches (n : Nat) : OnlyTouches [.stories, .fit, .pages, .lines] s (s.makeStale n) := by
  have stale : OnlyTouches [.stories, .fit, .pages, .lines] s
      (State.handOff ((s.updStory n fun r => { r with fit := .stale }).setFitQueue (s.fit.queue ++ [n])) n) :=
    (((s.updStory_touches n _).mono (by decide)).trans (State.setFitQueue_touches _ _) (by decide)).trans
      (State.handOff_touches _ n) (by decide)
  unfold State.makeStale
  split
  · exact .refl _ s
  · exact (s.updStory_touches n _).mono (by decide)
  · exact stale
  · exact stale
theorem State.tableLoad_touches (before : State) :
    OnlyTouches [.stories, .fit, .pages, .lines, .channel] s (State.tableLoad before s) := by
  have h : OnlyTouches [.stories, .fit, .pages, .lines, .channel] s
      { s with
        stories := s.stories.map Story.afterTableLoad
        fit := { s.fit with queue := s.fit.queue ++ s.tableStale } } := by
    intro p hp; cases p <;> first | rfl | exact absurd (by decide) hp
  refine (h.trans (?_ : OnlyTouches [.pages] _ _) (by decide)).trans
    (((State.lamps_touches _ _).mono (qs := [.lines, .channel]) (by decide)).trans (State.noticeFits_touches _ before)
      (by decide)) (by decide)
  intro p hp; cases p <;> first | rfl | exact absurd (by decide) hp
theorem State.changeText_touches (n : Nat) (text : List CopyLine) (style : Option Nat) :
    OnlyTouches [.stories, .store, .channel, .fit, .pages, .lines] s (s.changeText n text style) :=
  (((((s.writeText_touches n text style).mono (by decide)).trans (State.storeLatch_touches _) (by decide)).trans
    (State.makeStale_touches _ n) (by decide)).trans (State.lampHolder_touches _ n) (by decide)).trans
    (State.noticeFitOf_touches _ s n) (by decide)

/-! ### Baskets and holds -/

theorem State.joinBasket_touches (n : Nat) : OnlyTouches [.desks] s (s.joinBasket n) := s.updDesk_touches _ _
theorem State.leaveBasket_touches (n : Nat) : OnlyTouches [.desks] s (s.leaveBasket n) := s.updDesk_touches _ _
theorem State.leaveSpikes_touches (n : Nat) : OnlyTouches [.desks] s (s.leaveSpikes n) := s.updDesk_touches _ _
theorem State.announce_touches (n : Nat) : OnlyTouches [.channel, .lines] s (s.announce n) := by
  have h : OnlyTouches [.channel, .lines] s
      ((s.raise (.arrival (s.story n).desk n)).refreshDesk (s.story n).desk) :=
    ((s.raise_touches _).mono (by decide)).trans (State.refreshDesk_touches _ _) (by decide)
  unfold State.announce
  dsimp only
  split
  · exact (h.trans (State.wake_touches _ _) (by decide)).trans (State.lampsDesk_touches _ _) (by decide)
  · exact h.trans (State.lampsDesk_touches _ _) (by decide)
theorem State.arrive_touches (n : Nat) : OnlyTouches [.desks, .channel, .lines] s (s.arrive n) :=
  ((s.joinBasket_touches n).mono (by decide)).trans (State.announce_touches _ n) (by decide)
theorem State.depart_touches (n : Nat) : OnlyTouches [.desks, .lines] s (s.depart n) :=
  (((s.leaveBasket_touches n).mono (by decide)).trans (State.refreshDesk_touches _ _) (by decide)).trans
    (State.lampsDesk_touches _ _) (by decide)
theorem State.emptySlots_touches (g n : Nat) : OnlyTouches [.pages] s (s.emptySlots g n) := s.updPage_touches g _
theorem State.stopFit_touches (n : Nat) : OnlyTouches [.fit] s (s.stopFit n) := by
  intro p hp; cases p <;> first | rfl | exact absurd (by decide) hp
theorem State.enterSpiked_touches (n : Nat) : OnlyTouches [.fit, .pages, .stories, .desks] s (s.enterSpiked n) := by
  have h : OnlyTouches [.fit, .pages, .stories, .desks] s (s.stopFit n) := (s.stopFit_touches n).mono (by decide)
  unfold State.enterSpiked
  dsimp only
  split
  · exact ((h.trans (State.emptySlots_touches _ _ n) (by decide)).trans (State.updStory_touches _ n _) (by decide)).trans
      (State.updDesk_touches _ _ _) (by decide)
  · exact (h.trans (State.updStory_touches _ n _) (by decide)).trans (State.updDesk_touches _ _ _) (by decide)
theorem State.releaseHold_touches (n : Nat) : OnlyTouches [.stories, .lines] s (s.releaseHold n) := by
  have h : OnlyTouches [.stories, .lines] s (s.updStory n fun r => { r with holder := .absent }) :=
    (s.updStory_touches n _).mono (by decide)
  unfold State.releaseHold
  dsimp only
  split
  · exact h
  · exact h
  · exact (h.trans (State.updLine_touches _ _ _) (by decide)).trans (State.lampIf_touches _ _ _) (by decide)
  · exact (h.trans (State.updLine_touches _ _ _) (by decide)).trans (State.lampIf_touches _ _ _) (by decide)
theorem State.takeHold_touches (k n : Nat) : OnlyTouches [.stories, .lines] s (s.takeHold k n) :=
  (((s.updStory_touches n _).mono (by decide)).trans (State.updLine_touches _ k _) (by decide)).trans
    (State.lampIf_touches _ k _) (by decide)
theorem State.releaseOwn_touches (k n : Nat) : OnlyTouches [.stories, .lines] s (s.releaseOwn k n) := by
  unfold State.releaseOwn
  split
  · exact (s.releaseHold_touches n).trans (State.putOwnHome_touches _ k) (by decide)
  · exact .refl _ s
theorem State.releaseChannel_touches (n : Nat) : OnlyTouches [.stories, .lines] s (s.releaseChannel n) := by
  unfold State.releaseChannel
  split
  · exact s.releaseHold_touches n
  · exact .refl _ s

/-! ### Jobs, ports and pages -/

theorem State.recordJob_touches (g : Nat) (j : JobRecord) : OnlyTouches [.pages] s (s.recordJob g j) :=
  s.updPage_touches g _
theorem State.endRecord_touches (g : Nat) (o : JobOutcome) : OnlyTouches [.pages] s (s.endRecord g o) :=
  s.updPage_touches g _
theorem State.beginJob_touches (p : Port) (j : Job) : OnlyTouches [.output, .pages] s (s.beginJob p j) :=
  (((s.updPort_touches p _).mono (by decide)).trans (State.recordJob_touches _ _ _) (by decide)).trans
    (State.updPage_touches _ _ _) (by decide)
theorem State.portTakes_touches (p : Port) : OnlyTouches [.output, .pages] s (s.portTakes p) := by
  unfold State.portTakes
  split
  · split
    · exact ((s.setQueue_touches _).mono (by decide)).trans (State.beginJob_touches _ p _) (by decide)
    · exact .refl _ s
  · exact .refl _ s
theorem State.arbitrate_touches : OnlyTouches [.output, .pages] s s.arbitrate :=
  (s.portTakes_touches .a).trans (State.portTakes_touches _ .b) (by decide)
theorem State.moveStories_touches (g : Nat) (old new : Stage) : OnlyTouches [.stories] s (s.moveStories g old new) :=
  .foldl (fun t n => t.updStory_touches n _) _ s
theorem State.returnPage_touches (g : Nat) : OnlyTouches [.stories, .pages] s (s.returnPage g) :=
  (((s.moveStories_touches g _ _).mono (by decide)).trans (State.updPage_touches _ g _) (by decide)).trans
    (State.judge_touches _ g) (by decide)
theorem State.cancelQueued_touches (g : Nat) : OnlyTouches [.output, .stories, .pages] s (s.cancelQueued g) :=
  (((s.setQueue_touches _).mono (by decide)).trans (State.endRecord_touches _ g _) (by decide)).trans
    (State.returnPage_touches _ g) (by decide)
theorem State.cancelAtPort_touches (p : Port) (g : Nat) (next : PortState) :
    OnlyTouches [.output, .stories, .pages] s (s.cancelAtPort p g next) :=
  (((s.updPort_touches p _).mono (by decide)).trans (State.endRecord_touches _ g _) (by decide)).trans
    (State.returnPage_touches _ g) (by decide)
theorem State.cancelSetting_touches (g : Nat) : OnlyTouches [.output, .stories, .pages] s (s.cancelSetting g) := by
  unfold State.cancelSetting
  split
  · exact (s.cancelAtPort_touches _ g _).trans (State.arbitrate_touches _) (by decide)
  · exact (s.returnPage_touches g).mono (by decide)
theorem State.reopenPage_touches (g : Nat) :
    OnlyTouches [.stories, .fit, .pages, .lines] s (s.reopenPage g) :=
  ((((s.moveStories_touches g _ _).mono (by decide)).trans (State.updPage_touches _ g _) (by decide)).trans
    (.foldl (fun t n => t.makeStale_touches n) _ _) (by decide)).trans (State.judge_touches _ g) (by decide)
theorem State.queuePage_touches (g : Nat) : OnlyTouches [.output, .stories, .pages, .channel] s (s.queuePage g) :=
  ((((((s.setQueue_touches _).mono (by decide)).trans (State.recordJob_touches _ g _) (by decide)).trans
    (State.updPage_touches _ g _) (by decide)).trans (State.moveStories_touches _ g _ _) (by decide)).trans
    (State.raise_touches _ _) (by decide)).trans (State.arbitrate_touches _) (by decide)
theorem State.decideRelease_touches (g : Nat) :
    OnlyTouches [.output, .stories, .pages, .channel] s (s.decideRelease g) := by
  unfold State.decideRelease
  dsimp only
  split
  · exact ((s.returnPage_touches g).mono (by decide)).trans (State.raise_touches _ _) (by decide)
  · split
    · exact ((s.returnPage_touches g).mono (by decide)).trans (State.raise_touches _ _) (by decide)
    · exact s.queuePage_touches g
theorem State.endWait_touches (g : Nat) : OnlyTouches [.output, .stories, .pages, .channel] s (s.endWait g) := by
  unfold State.endWait
  dsimp only
  split
  · exact s.decideRelease_touches g
  · exact .refl _ s
theorem State.endWaitOf_touches (n : Nat) : OnlyTouches [.output, .stories, .pages, .channel] s (s.endWaitOf n) := by
  unfold State.endWaitOf
  split
  · exact s.endWait_touches _
  · exact .refl _ s
theorem State.killReturn_touches (g : Nat) :
    OnlyTouches [.output, .stories, .pages, .fit, .lines] s (s.killReturn g) := by
  unfold State.killReturn
  split
  · exact (s.returnPage_touches g).mono (by decide)
  · exact (s.cancelQueued_touches g).mono (by decide)
  · exact (s.cancelSetting_touches g).mono (by decide)
  · exact (s.reopenPage_touches g).mono (by decide)
  · exact .refl _ s
  · exact .refl _ s
theorem State.kill_touches (before : State) (n : Nat) :
    OnlyTouches [.output, .stories, .pages, .fit, .lines, .desks, .channel] s (State.kill before s n) := by
  unfold State.kill
  split
  · exact (s.enterSpiked_touches n).mono (by decide)
  · exact ((((s.killReturn_touches _).mono (by decide)).trans (State.enterSpiked_touches _ n) (by decide)).trans
      (State.judge_touches _ _) (by decide)).trans (State.noticeFit_touches _ before _) (by decide)
theorem State.losePort_touches (p : Port) (j : PortJob) :
    OnlyTouches [.output, .stories, .pages, .channel] s (s.losePort p j) := by
  have h : OnlyTouches [.output, .stories, .pages, .channel] s
      (if (s.port p).lossLatch then s.updPort p SetterPort.loseJob
        else (s.updPort p SetterPort.loseJob).raise (.output p (.lost j.job.page (s.lossFate p)))) := by
    split
    · exact (s.updPort_touches p _).mono (by decide)
    · exact ((s.updPort_touches p _).mono (by decide)).trans (State.raise_touches _ _) (by decide)
  unfold State.losePort
  dsimp only
  split
  · exact (h.trans (State.beginJob_touches _ _ _) (by decide)).trans (State.raise_touches _ _) (by decide)
  · exact (((h.trans (State.setQueue_touches _ _) (by decide)).trans (State.recordJob_touches _ _ _) (by decide)).trans
      (State.updPage_touches _ _ _) (by decide)).trans (State.arbitrate_touches _) (by decide)
  · exact ((h.trans (State.recordJob_touches _ _ _) (by decide)).trans (State.returnPage_touches _ _) (by decide)).trans
      (State.raise_touches _ _) (by decide)

/-! ### Lines -/

theorem State.answerService_touches (k : Nat) (kind : List Byte) (st : Status) (d : List Byte) :
    OnlyTouches [.lines] s (s.answerService k kind st d) := s.updLine_touches k _
theorem State.answerAtOnce_touches (k : Nat) (kind : List Byte) (st : Status) :
    OnlyTouches [.lines] s (s.answerAtOnce k kind st) :=
  (s.updLine_touches k _).trans (State.answerService_touches _ k _ _ _) (by decide)
theorem State.answerPassing_touches (k : Nat) (kind : List Byte) (st : Status) :
    OnlyTouches [.lines] s (s.answerPassing k kind st) := s.updLine_touches k _
theorem State.clearWithdrawn_touches (k : Nat) : OnlyTouches [.lines] s (s.clearWithdrawn k) := by
  unfold State.clearWithdrawn
  split
  · exact (s.updLine_touches k _).trans (State.refreshLine_touches _ k) (by decide)
  · exact .refl _ s
theorem State.setLatch_touches (k : Nat) (f : Latches → Latches) : OnlyTouches [.lines] s (s.setLatch k f) := by
  unfold State.setLatch
  dsimp only
  split
  · exact s.updLine_touches k _
  · exact (s.updLine_touches k _).trans (State.lampIf_touches _ k _) (by decide)
theorem State.noteUnknown_touches (k : Nat) (f : TerminalFrame) : OnlyTouches [.lines] s (s.noteUnknown k f) := by
  unfold State.noteUnknown
  split
  · exact s.setLatch_touches k _
  · exact .refl _ s
theorem State.intoService_touches (k : Nat) (kind : List Byte) (i : Instr) :
    OnlyTouches [.lines] s (s.intoService k kind i) := s.updLine_touches k _
theorem State.frameIdle_touches (k : Nat) (kind : List Byte) (f : TerminalFrame) :
    OnlyTouches [.lines] s (s.frameIdle k kind f) := by
  unfold State.frameIdle
  split
  · exact s.answerPassing_touches k kind _
  · split
    · exact s.answerAtOnce_touches k kind _
    · exact s.answerAtOnce_touches k kind _
    · split
      · exact s.intoService_touches k kind _
      · exact s.answerAtOnce_touches k kind _
theorem State.frameSigning_touches (k : Nat) (kind : List Byte) (f : TerminalFrame) :
    OnlyTouches [.lines] s (s.frameSigning k kind f) := by
  unfold State.frameSigning
  split
  · exact s.answerPassing_touches k kind _
  · exact s.answerPassing_touches k kind _
theorem State.frameReady_touches (k : Nat) (kind : List Byte) (f : TerminalFrame) :
    OnlyTouches [.lines] s (s.frameReady k kind f) := by
  have h := s.updLine_touches k Line.armDim
  have c := h.trans (State.clearWithdrawn_touches _ k) (by decide)
  unfold State.frameReady
  dsimp only
  split
  · exact h.trans (State.answerPassing_touches _ k kind _) (by decide)
  · split
    · exact c.trans (State.answerAtOnce_touches _ k kind _) (by decide)
    · split
      · exact c.trans (State.answerAtOnce_touches _ k kind _) (by decide)
      · exact c.trans (State.answerAtOnce_touches _ k kind _) (by decide)
      · exact c.trans (State.intoService_touches _ k kind _) (by decide)
theorem State.frameIn_touches (k : Nat) (kind : List Byte) (f : TerminalFrame) :
    OnlyTouches [.lines] s (s.frameIn k kind f) := by
  unfold State.frameIn
  split
  · exact .refl _ s
  · exact .refl _ s
  · exact (s.noteUnknown_touches k f).trans (State.frameIdle_touches _ k kind f) (by decide)
  · exact (s.noteUnknown_touches k f).trans (State.frameSigning_touches _ k kind f) (by decide)
  · exact (s.noteUnknown_touches k f).trans (State.frameReady_touches _ k kind f) (by decide)
  · exact ((s.wake_touches _).trans (State.noteUnknown_touches _ k f) (by decide)).trans
      (State.frameReady_touches _ k kind f) (by decide)
theorem State.offerFrame_touches (k : Nat) (i : Instr) : OnlyTouches [.lines] s (s.offerFrame k i) := by
  unfold State.offerFrame
  split
  · exact .refl _ s
  · exact s.frameIn_touches k _ _
theorem State.gateFault_touches (k : Nat) (x : LineFault) : OnlyTouches [.lines] s (s.gateFault k x) :=
  (s.updLine_touches k _).trans (State.setLatch_touches _ k _) (by decide)
theorem State.frameDone_touches (k : Fin 32) (bs : List Byte) : OnlyTouches [.lines] s (s.frameDone k bs) := by
  unfold State.frameDone
  split
  · exact (s.updLine_touches _ _).trans (State.frameIn_touches _ _ _ _) (by decide)
  · exact s.gateFault_touches _ _
theorem State.receiveChar_touches (k : Fin 32) (b : Byte) : OnlyTouches [.lines] s (State.receiveChar k s b) := by
  unfold State.receiveChar
  dsimp only
  repeat' split
  all_goals
    first
      | exact .refl _ s
      | exact s.updLine_touches _ _
      | exact s.gateFault_touches _ _
      | exact s.frameDone_touches k _
theorem State.resumeOrphan_touches (k m n : Nat) : OnlyTouches [.stories, .lines] s (s.resumeOrphan k m n) :=
  (((s.updLine_touches m _).mono (by decide)).trans (State.lampIf_touches _ m _) (by decide)).trans
    (State.takeHold_touches _ k n) (by decide)
theorem State.signonExpires_touches (k : Nat) : OnlyTouches [.lines] s (s.signonExpires k) :=
  (s.updLine_touches k _).trans (State.answerService_touches _ k _ _ _) (by decide)
theorem State.goDim_touches (k : Nat) : OnlyTouches [.lines] s (s.goDim k) := s.updLine_touches k _
theorem State.lineTick_touches (k : Nat) : OnlyTouches [.lines] s (s.lineTick k) := by
  unfold State.lineTick
  dsimp only
  repeat' split
  all_goals
    first
      | exact .refl _ s
      | exact s.signonExpires_touches k
      | exact s.goDim_touches k
      | exact s.updLine_touches _ _
theorem State.orphanExpires_touches (n user k : Nat) :
    OnlyTouches [.stories, .lines, .channel] s (s.orphanExpires n user k) :=
  ((s.releaseHold_touches n).mono (by decide)).trans (State.raise_touches _ _) (by decide)
theorem State.orphanTick_touches (n : Nat) : OnlyTouches [.stories, .lines, .channel] s (s.orphanTick n) := by
  unfold State.orphanTick
  split
  · split
    · exact s.orphanExpires_touches n _ _
    · exact (s.updStory_touches n _).mono (by decide)
  · exact .refl _ s

/-! ### The loss timers and the clock -/

theorem State.lossFalls_touches (p : Port) : OnlyTouches [.output] s (s.lossFalls p) := s.updPort_touches p _
theorem State.lossExpires_touches (p : Port) : OnlyTouches [.output, .stories, .pages, .channel] s (s.lossExpires p) := by
  unfold State.lossExpires
  split
  · exact s.losePort_touches p _
  · exact .refl _ s
theorem State.lossTick_touches : OnlyTouches [.output, .stories, .pages, .channel] s s.lossTick := by
  have h : OnlyTouches [.output, .stories, .pages, .channel] s ((s.lossFalls .a).lossFalls .b) :=
    ((s.lossFalls_touches .a).mono (by decide)).trans (State.lossFalls_touches _ .b) (by decide)
  unfold State.lossTick
  dsimp only
  split <;> split
  · exact (h.trans (State.lossExpires_touches _ .a) (by decide)).trans (State.lossExpires_touches _ .b) (by decide)
  · exact h.trans (State.lossExpires_touches _ .b) (by decide)
  · exact h.trans (State.lossExpires_touches _ .a) (by decide)
  · exact h
theorem State.raiseEdition_touches (e : EditionEvent) : OnlyTouches [.channel] s (s.raiseEdition e) := s.raise_touches _
theorem State.warnNear_touches : OnlyTouches [.clock, .channel] s s.warnNear := by
  unfold State.warnNear
  split
  · intro p hp; cases p <;> first | rfl | exact absurd (by decide) hp
  · exact .refl _ s
theorem State.clockEvent_touches : OnlyTouches [.lines] s s.clockEvent :=
  s.refreshAll_touches.trans (State.lampsDeadline_touches _) (by decide)
theorem State.switchEdition_touches (c : Nat) : OnlyTouches [.clock, .channel, .lines] s (s.switchEdition c) := by
  have h : OnlyTouches [.clock, .channel, .lines] s { s with clock := { s.clock with
      state := .running, edition := s.clock.edition + 1, count := c, next := none, fired := false } } := by
    intro p hp; cases p <;> first | rfl | exact absurd (by decide) hp
  exact ((h.trans (State.raiseEdition_touches _ _) (by decide)).trans (State.warnNear_touches _) (by decide)).trans
    (State.clockEvent_touches _) (by decide)
theorem State.terminalCount_touches : OnlyTouches [.clock, .channel, .lines] s s.terminalCount := by
  have h : OnlyTouches [.clock, .channel, .lines] s { s with clock := { s.clock with state := .overdue, count := 0 } } := by
    intro p hp; cases p <;> first | rfl | exact absurd (by decide) hp
  unfold State.terminalCount
  split
  · exact s.switchEdition_touches _
  · exact (h.trans (State.raiseEdition_touches _ _) (by decide)).trans (State.clockEvent_touches _) (by decide)
theorem State.minutesPass_touches (old : Nat) : OnlyTouches [.lines] s (s.minutesPass old) := by
  unfold State.minutesPass
  split
  · exact .refl _ s
  · exact s.refreshAll_touches
theorem State.nearLamps_touches (due : Bool) : OnlyTouches [.lines] s (s.nearLamps due) := by
  unfold State.nearLamps
  split
  · exact s.lampsDeadline_touches
  · exact .refl _ s
theorem State.clockTick_touches : OnlyTouches [.clock, .channel, .lines] s s.clockTick := by
  have h (c : Nat) : OnlyTouches [.clock, .channel, .lines] s { s with clock := { s.clock with count := c } } := by
    intro p hp; cases p <;> first | rfl | exact absurd (by decide) hp
  unfold State.clockTick
  split
  · exact .refl _ s
  · split
    · exact s.terminalCount_touches
    · exact (((h _).trans (State.warnNear_touches _) (by decide)).trans (State.nearLamps_touches _ _) (by decide)).trans
        (State.minutesPass_touches _ _) (by decide)
  · exact (h _).trans (State.minutesPass_touches _ _) (by decide)

end Sys2Proof.Machine
end

