-- ==== Sys2Proof/Laws/Serve.lean ====
section
/-! SUPPORT. What serving a request does, said once: a host request its block takes (`host_served`), a host request that only
arrives, and a terminal request its block takes (`line_served`). The meanings' own effects are stated of `State.offer` and
`State.offerFrame`, which differ from the state before in the channel, or in the line, alone. -/

namespace Sys2Proof.Machine

/-! ### The intake -/

@[simp] theorem Channel.enqueue_notices (c : Channel) (i : Instr) : (c.enqueue i).notices = c.notices := by
  unfold Channel.enqueue; split
  · rfl
  · split <;> rfl
@[simp] theorem Channel.enqueue_noticesLost (c : Channel) (i : Instr) : (c.enqueue i).noticesLost = c.noticesLost := by
  unfold Channel.enqueue; split
  · rfl
  · split <;> rfl
@[simp] theorem Channel.enqueue_rx (c : Channel) (i : Instr) : (c.enqueue i).rx = c.rx := by
  unfold Channel.enqueue; split
  · rfl
  · split <;> rfl
@[simp] theorem Channel.enqueue_tx (c : Channel) (i : Instr) : (c.enqueue i).tx = c.tx := by
  unfold Channel.enqueue; split
  · rfl
  · split <;> rfl
@[simp] theorem Channel.enqueue_restarting (c : Channel) (i : Instr) : (c.enqueue i).restarting = c.restarting := by
  unfold Channel.enqueue; split
  · rfl
  · split <;> rfl

/-- What a notice leaves of the channel (R184, R185). -/
theorem Channel.raise_frame (c : Channel) (n : Notice) :
    (c.raise n).intake = c.intake ∧ (c.raise n).replies = c.replies ∧ (c.raise n).rx = c.rx ∧ (c.raise n).tx = c.tx ∧
      (c.raise n).linkError = c.linkError ∧ (c.raise n).restarting = c.restarting := by
  unfold Channel.raise; split
  · exact ⟨rfl, rfl, rfl, rfl, rfl, rfl⟩
  · split <;> exact ⟨rfl, rfl, rfl, rfl, rfl, rfl⟩

theorem Channel.foldl_raise_frame (ns : List Notice) (c : Channel) :
    (ns.foldl Channel.raise c).intake = c.intake ∧ (ns.foldl Channel.raise c).replies = c.replies ∧
      (ns.foldl Channel.raise c).rx = c.rx ∧ (ns.foldl Channel.raise c).tx = c.tx ∧
      (ns.foldl Channel.raise c).linkError = c.linkError ∧ (ns.foldl Channel.raise c).restarting = c.restarting := by
  induction ns generalizing c with
  | nil => exact ⟨rfl, rfl, rfl, rfl, rfl, rfl⟩
  | cons n ns ih =>
    obtain ⟨h1, h2, h3, h4, h5, h6⟩ := ih (c.raise n)
    obtain ⟨k1, k2, k3, k4, k5, k6⟩ := c.raise_frame n
    exact ⟨h1.trans k1, h2.trans k2, h3.trans k3, h4.trans k4, h5.trans k5, h6.trans k6⟩

/-- The notices of a channel depend on its notices alone. -/
theorem Channel.raise_congr {c d : Channel} (n : Notice) (h : c.notices = d.notices) (k : c.noticesLost = d.noticesLost) :
    (c.raise n).notices = (d.raise n).notices ∧ (c.raise n).noticesLost = (d.raise n).noticesLost := by
  unfold Channel.raise
  rw [h]
  split
  · exact ⟨rfl, k⟩
  · split
    · exact ⟨rfl, k⟩
    · exact ⟨rfl, rfl⟩

theorem Channel.foldl_raise_congr (ns : List Notice) {c d : Channel} (h : c.notices = d.notices)
    (k : c.noticesLost = d.noticesLost) :
    (ns.foldl Channel.raise c).notices = (ns.foldl Channel.raise d).notices ∧
      (ns.foldl Channel.raise c).noticesLost = (ns.foldl Channel.raise d).noticesLost := by
  induction ns generalizing c d with
  | nil => exact ⟨h, k⟩
  | cons n ns ih =>
    obtain ⟨h', k'⟩ := Channel.raise_congr n h k
    exact ih h' k'

/-! ### Host requests -/

variable {s : State}

/-- The state a host request's block finds differs from the one before in the channel alone. -/
theorem State.offer_eq (s : State) (i : Instr) : s.offer i = { s with channel := (s.offer i).channel } := by
  unfold State.offer
  split
  · rfl
  · split <;> rfl

theorem State.offer_channel (s : State) (i : Instr) :
    (s.offer i).channel = s.channel ∨ (s.offer i).channel = s.channel.enqueue i := by
  unfold State.offer
  split
  · exact .inl rfl
  · split
    · exact .inl rfl
    · exact .inr rfl

theorem State.offer_notices (s : State) (i : Instr) : (s.offer i).channel.notices = s.channel.notices := by
  rcases s.offer_channel i with h | h <;> simp [h]
theorem State.offer_noticesLost (s : State) (i : Instr) : (s.offer i).channel.noticesLost = s.channel.noticesLost := by
  rcases s.offer_channel i with h | h <;> simp [h]
theorem State.offer_rx (s : State) (i : Instr) : (s.offer i).channel.rx = s.channel.rx := by
  rcases s.offer_channel i with h | h <;> simp [h]
theorem State.offer_tx (s : State) (i : Instr) : (s.offer i).channel.tx = s.channel.tx := by
  rcases s.offer_channel i with h | h <;> simp [h]
theorem State.offer_restarting (s : State) (i : Instr) : (s.offer i).channel.restarting = s.channel.restarting := by
  rcases s.offer_channel i with h | h <;> simp [h]

theorem State.takes_oldest {i : Instr} (h : s.takes i = true) : (s.offer i).channel.oldest = some i := by
  simp only [State.takes, Bool.and_eq_true, beq_iff_eq] at h
  exact h.2

/-- A host request that is not taken only arrives. -/
theorem hostStep_not_taken {i : Instr} {act : State → Verdict} (h : s.takes i = false) :
    hostStep i act s = .next (s.offer i) := by
  simp [hostStep, State.serveHost, h]

/-- A host request its block takes: the block's verdict, its records, and the reply; the notices are those the block raised. -/
theorem host_served {i : Instr} {act : State → Verdict} {st : Status} {d : List Byte} {v : State} {ns : List Notice}
    {ps : List Part} (h : s.takes i = true) (hv : act (s.offer i) = (st, d, v))
    (hn : v.channel = ns.foldl Channel.raise (s.offer i).channel) (hp : OnlyTouches ps (s.offer i) v)
    (hc : Part.channel ∈ ps) :
    ∃ t, hostStep i act s = .next t ∧ Replied i st d s t ∧ Raised ns s t ∧ OnlyTouches ps s t ∧
      ∃ c, t = { v with channel := c } := by
  refine ⟨{ v with channel := v.channel.answer i st d }, ?_, ?_, ?_, ?_, _, rfl⟩
  · simp [hostStep, State.serveHost, h, hv]
  · obtain ⟨h1, h2, h3, h4, h5, h6⟩ := Channel.foldl_raise_frame ns (s.offer i).channel
    refine ⟨State.takes_oldest h, ?_, ?_, ?_, ?_, ?_, ?_⟩
    · simp only [Channel.answer, hn, h1]
    · simp only [Channel.answer, hn, h2]
    · simp only [Channel.answer, hn, h3, State.offer_rx]
    · simp only [Channel.answer, hn, h4, State.offer_tx]
    · simp only [Channel.answer, hn, h5]
    · simp only [Channel.answer, hn, h6, State.offer_restarting]
  · obtain ⟨h1, h2⟩ := Channel.foldl_raise_congr ns (s.offer_notices i) (s.offer_noticesLost i)
    exact ⟨by simp only [Channel.answer, hn]; exact h1, by simp only [Channel.answer, hn]; exact h2⟩
  · intro p hq
    have h1 := s.offer_touches i p (fun e => hq (by rw [List.mem_singleton.mp e]; exact hc))
    have h2 := hp p hq
    cases p
    case channel => exact absurd hc hq
    all_goals exact Eq.trans h2 h1

/-! ### Terminal requests -/

/-- What a frame taken into service leaves of its line: all but the wake, the dim timer, the withdrawn story and the request
in service (R71, R80, R81, R93). -/
def Line.asFound (l m : Line) : Prop :=
  m = { l with
    state := m.state, display := m.display, status := m.status, dimTimer := m.dimTimer, withdrawn := m.withdrawn,
    service := m.service }

theorem Line.asFound.refl (l : Line) : l.asFound l := rfl

theorem Line.asFound.trans {l m n : Line} (h : l.asFound m) (k : m.asFound n) : l.asFound n := by
  unfold Line.asFound at *
  rw [k, h]

theorem State.waiting_iff {k : Nat} {i : Instr} :
    s.waiting k i = true ↔ ∃ kind, (s.line k).service = some { kind := kind, cmd := some i, stage := .waiting } := by
  unfold State.waiting
  constructor
  · intro h
    split at h
    · rename_i v hv
      simp only [Bool.and_eq_true, beq_iff_eq] at h
      refine ⟨v.kind, ?_⟩
      rw [hv]
      cases v
      simp_all
    · exact absurd h (by decide)
  · rintro ⟨kind, h⟩
    rw [h]
    simp

/-- A terminal request its block takes: the block's verdict, its records, and the answer in the answer slot. -/
theorem line_served {k : Fin 32} {i : Instr} {act : State → Verdict} {st : Status} {d : List Byte} {v : State}
    (h : s.takesFrame k i = true) (hv : act (s.offerFrame k i) = (st, d, v)) :
    lineStep k i act s = .next (v.answerService k i.kind st d) := by
  simp only [lineStep, State.serveLine, h, hv, if_true]

/-- A terminal request that is not taken into service is answered by its line's state alone. -/
theorem lineStep_not_taken {k : Fin 32} {i : Instr} {act : State → Verdict} (h : s.takesFrame k i = false) :
    lineStep k i act s = .next (s.offerFrame k i) := by
  simp [lineStep, State.serveLine, h]

/-- The state a terminal request's block finds differs from the one before in the lines alone. -/
theorem State.offerFrame_eq (s : State) (k : Nat) (i : Instr) :
    s.offerFrame k i = { s with lines := (s.offerFrame k i).lines } := by
  have h := s.offerFrame_touches k i
  have e1 := h.stories; have e2 := h.desks; have e3 := h.store; have e4 := h.orphanWindow; have e5 := h.flashes
  have e6 := h.fit; have e7 := h.pages; have e8 := h.output; have e9 := h.clock; have e10 := h.channel
  have e11 := h.choices; have e12 := h.pending
  revert e1 e2 e3 e4 e5 e6 e7 e8 e9 e10 e11 e12
  generalize s.offerFrame k i = u
  intros
  cases u; cases s; simp_all

end Sys2Proof.Machine
end

