-- ==== Sys2Proof/Tests/Slice0.lean ====
section
/-! SUPPORT. The model's own tests: ill-formed commands that the well-formedness check refuses, a witness for every statement
that has hypotheses, and small tests of single steps whose expected values are the reference's (its worked sequences, or hand
calculation from a rule). -/

namespace Sys2Proof.Tests

open Sys2Proof Sys2Proof.Machine

-- One check at a time: whole states compared side by side take more memory than a check may have.
set_option Elab.async false

/-! ### A newsroom to test in -/

/-- Fit results with nothing overset. -/
def fitted : FitResults :=
  { lines := 1, linesSet := 1, overset := 0, perSlot := [1], depth := 24, underset := some 0, forcedBreaks := 0, limit := false }

/-- A CURRENT story of desk 0 in its basket, with one line of text in one block. -/
def copy (block : Nat) : Story :=
  { Story.freed with
    slug := ascii "LEAD", stage := .basket, text := [ascii "HELLO"], chain := [block], fit := .current, results := some fitted }

/-- A READY line of a signed-on user that holds nothing and serves nothing. -/
def readyLine (user desk : Nat) (role : Role) : Line :=
  { Line.reset with
    state := .ready, user := some { user := user, desk := desk, role := role }, dimTimer := some 900, carrier := true }

/-- A page whose slot 1 holds story `n`. -/
def pageOf (n : Nat) (state : PageState) : Page :=
  { Page.shut with
    label := 5, edition := 1, state := state, tolerance := 12
    slots := Page.shut.slots.set 0 (some { depth := 100, measure := 144, occupant := some (n, 1) }) }

/-- Port A's job: page 2, two codes still to be accepted. -/
def jobOfTwo : PortJob :=
  { job := { page := 2, choice := .either, total := 17, restarts := 0 }, remaining := 2, phase := .sending, unplaced := [] }

/-- A newsroom at work. Stories 1 and 2 in desk 0's basket (2 URGENT, held by line 1), 3 PLACED on page 1 and being fitted, 4 on
desk 0's spike list, 5 in type on page 2, 6 set on page 3, 7 and 8 in desk 1's basket (7 held by the channel, 8 an orphan of line
2). Line 0 SLOT, line 1 EDITOR, line 2 LOST, line 3 SIGNING, line 4 DIM, line 5 IDLE. Port A setting page 2. -/
def room : State :=
  let s := State.reset
  let s := s.setStory 1 (copy 0)
  let s := s.setStory 2 { copy 1 with priority := .urgent, holder := .line 1, fit := .stale }
  let s := s.setStory 3 { copy 2 with stage := .placed, run := some { page := 1, slots := [1] }, fit := .computing }
  let s := s.setStory 4 { copy 3 with stage := .spiked, fit := .none }
  let s := s.setStory 5 { copy 4 with stage := .setting, run := some { page := 2, slots := [1] }, results := some fitted }
  let s := s.setStory 6 { copy 5 with stage := .set, run := some { page := 3, slots := [1] }, results := some fitted }
  let s := s.setStory 7 { copy 6 with desk := 1, holder := .channel, fit := .stale }
  let s := s.setStory 8 { copy 7 with desk := 1, holder := .orphan 2 3 1, fit := .stale }
  let s := s.setPage 1 { pageOf 3 .makeup with
    fit := .pending
    slots := (pageOf 3 .makeup).slots.set 1 (some { depth := 48, measure := 72, occupant := none }) }
  let s := s.setPage 2 { pageOf 5 .setting with
    job := some { total := 17, remaining := 2, outcome := .none, restarts := 0, port := some .a } }
  let s := s.setPage 3 (pageOf 6 .set)
  let s := s.updDesk 0 fun _ => { basket := [2, 1], spikes := [4], urgent := 1 }
  let s := s.updDesk 1 fun _ => { basket := [7, 8], spikes := [], urgent := 0 }
  let s := s.updLine 0 fun _ => readyLine 1 0 .slot
  let s := s.updLine 1 fun _ => { readyLine 2 0 .editor with held := some 2, window := some { first := 0, shown := 1 } }
  let s := s.updLine 2 fun l => { l with state := .lost, held := some 8 }
  let s := s.updLine 3 fun l => { l with
    state := .signing, carrier := true, signonUser := some 4, signonTimer := some 1, outcome := .pending
    service := some { kind := kindWord "SIGNON", cmd := some (.signon 3 4), stage := .taken } }
  let s := s.updLine 4 fun _ => { readyLine 5 0 .reporter with
    state := .dim, dimTimer := none, wakeFlash := true, wakeUrgent := true }
  let s := s.updLine 5 fun l => { l with state := .idle, carrier := true }
  let s := s.updPort .a fun v => { v with state := .setting, lead := true, fifo := [1, 2], job := some jobOfTwo }
  { s with
    store := { fresh := 8, returned := [], low := false }
    flashes := { list := [{ number := 1, text := ascii "VOTE", mask := 1, unseen := [0, 4] }], next := 2 }
    fit := { s.fit with queue := [2, 7, 8], inFlight := some { story := 3, discard := false, results := fitted } }
    clock := { state := .running, edition := 1, count := 601, next := none, threshold := 600, fired := false } }

/-- The newsroom after a change of page 2 and port A's job. -/
def roomPage2 (f : Page → Page) : State := room.updPage 2 f

/-- The newsroom with no page past MAKEUP but SET, so that no table is frozen. -/
def calmRoom : State := roomPage2 fun p => { p with state := .makeup }

/-- The newsroom with port A awaiting its result. -/
def awaitingRoom : State :=
  room.updPort .a fun v => { v with fifo := [], job := some { jobOfTwo with remaining := 0, phase := .awaiting } }

/-- The newsroom with page 1's empty slot undefined and its story fitted, ready to be released. -/
def filledRoom : State :=
  (room.setPage 1 (pageOf 3 .makeup)).updStory 3 fun r => { r with fit := .current, results := some fitted }

/-- The newsroom with its channel's intake full and four BUSY replies waiting. -/
def busyRoom : State :=
  { room with channel := { room.channel with
      intake := List.replicate 4 { cmd := .ident 1, answered := false }
      replies := List.replicate 4 { tag := 1, kind := kindWord "IDENT", status := .busy, details := [], overflow := true } } }

/-- The state one command leads to. -/
def after (i : Instr) (s : State) : State :=
  match exec i s with
  | .next t => t
  | .fault _ => s
  | .refused _ => s

/-- The status and details of the last reply after one command. -/
def reply (i : Instr) (s : State) : Option (Status × List Byte) := (after i s).lastReply.map fun r => (r.status, r.details)

/-- The status and details in line `k`'s answer slot after one command. -/
def answer (i : Instr) (k : Nat) (s : State) : Option (Status × List Byte) :=
  ((after i s).line k).answer.map fun a => (a.status, a.details)

/-- Each line holds what it says it holds, checked story by story. -/
theorem holdAgrees_of {s : State} {k : Nat}
    (h : ∀ n ∈ (s.line k).held, 1 ≤ n ∧ n ≤ 512 ∧
      ((s.story n).holder = .line k ∨ (s.story n).holder = .orphan k 3 1)) : HoldAgrees k s := by
  intro n hn
  obtain ⟨h1, h2, h3⟩ := h n hn
  exact ⟨h1, h2, h3.imp id fun e => ⟨3, 1, e⟩⟩

/-- What holds of every slot a page has holds of every slot number. -/
theorem slots_of {p : Page} {P : Option Slot → Prop} (h : ∀ k < 17, P (p.slot k)) (none : P none) : ∀ k, P (p.slot k) := by
  intro k
  rcases Nat.lt_or_ge k 17 with hk | hk
  · exact h k hk
  · obtain ⟨j, rfl⟩ : ∃ j, k = j + 1 := ⟨k - 1, by omega⟩
    have : p.slots[j]? = Option.none := by simp; omega
    simpa [Page.slot, this] using none

/-- What holds of every story there is holds of every story number. -/
theorem stories_of {s : State} {P : Story → Prop} (h : ∀ n < 513, P (s.story n)) (free : P Story.freed) :
    ∀ n, P (s.story n) := by
  intro n
  rcases Nat.lt_or_ge n 513 with hn | hn
  · exact h n hn
  · obtain ⟨j, rfl⟩ : ∃ j, n = j + 1 := ⟨n - 1, by omega⟩
    have : s.stories[j]? = none := by simp; omega
    simpa [State.story, this] using free


/-- The stage of the stories on a page in each state. -/
def stageOn : PageState → Option Stage
  | .closed => none
  | .makeup => some .placed
  | .releasing => some .placed
  | .queued => some .setting
  | .setting => some .setting
  | .set => some .set

/-- A page and its stories agree, in a form that evaluation decides. -/
def agrees (g : Nat) (s : State) : Prop :=
  (s.page g).stories.Nodup ∧ ∀ n ∈ (s.page g).stories, 1 ≤ n ∧ n ≤ 512 ∧
    (s.story n).run.map (fun r => r.page) = some g ∧ ((s.page g).state ≠ .makeup → (s.story n).holder = .absent) ∧
    stageOn (s.page g).state = some (s.story n).stage

theorem pageAgrees_of {s : State} {g : Nat} (h : agrees g s) : PageAgrees g s := by
  refine ⟨h.1, fun n hn => ?_⟩
  obtain ⟨h1, h2, h3, h4, h5⟩ := h.2 n hn
  refine ⟨h1, h2, h3, h4, ?_⟩
  cases e : (s.page g).state <;> simp_all [stageOn]

/-! ### Ill-formed commands (chapter 11) -/

/-- A field of one byte cannot carry 256. -/
theorem test_wf_one_byte_fields :
    ([.hostRoute 0 1 256, .terminalRoute 0 1 256, .hostPriority 0 1 256, .terminalPriority 0 256, .basket 0 256 0 0,
      .basket 0 0 256 0, .lineon 0 256, .lineoff 0 256, .linestat 0 256, .verdictGrant 0 256 0 0, .verdictGrant 0 0 256 0,
      .verdictGrant 0 0 0 256, .verdictDeny 0 256, .lamp 0 256 0, .lamp 0 0 256, .slotDefine 0 256 1 24 36,
      .slotDefine 0 1 256 24 36, .slotUndefine 0 256 1, .slotUndefine 0 1 256, .release 0 256 0 0, .release 0 1 256 0,
      .release 0 1 0 256, .cancel 0 256, .reopen 0 256, .pageshut 0 256, .pageinfo 0 256, .porton 0 256, .portoff 0 256,
      .resume 0 256, .portclr 0 256, .portstat 0 256, .portset 0 256 none none, .clkstart 0 256 1, .create 0 [65] 256 0 0,
      .create 0 [65] 0 256 0, .create 0 [65] 0 0 256, .new 0 [65] 256 0, .new 0 [65] 0 256, .lineset 0 256 none none none none none,
      .widths 0 256 33 [18], .widths 0 0 256 [18], .widths 0 0 33 [256], .xlate 0 256 [[1]], .xlate 0 1 [[256]],
      .place 0 1 256 [1], .place 0 1 1 [256]] : List Instr).all (fun i => !i.wellFormed) = true := by
  decide

/-- A field of two bytes cannot carry 65,536. -/
theorem test_wf_two_byte_fields :
    ([.read 0 65536 0, .read 0 1 65536, .info 0 65536, .purge 0 65536, .hostRoute 0 65536 0, .terminalRoute 0 65536 0,
      .hostPriority 0 65536 0, .hostSpike 0 65536, .terminalSpike 0 65536, .unspike 0 65536, .hostKill 0 65536,
      .terminalKill 0 65536, .basket 0 0 0 65536, .terminalOpen 0 65536, .hostOpen 0 65536, .hostClose 0 65536, .free 0 65536,
      .holdtime 0 65536, .orphanExpiry 65536, .signon 0 65536, .slotDefine 0 1 1 65536 36, .slotDefine 0 1 1 24 65536,
      .place 0 65536 1 [1], .unplace 0 65536, .pageopen 0 65536 none none, .clkstart 0 1 65536, .clknext 0 65536,
      .warn 0 65536, .textAppend 0 65536 none [], .textReplace 0 65536 none [], .textReplaceRange 0 65536 none 0 0 [],
      .textReplaceRange 0 1 none 65536 0 [], .textReplaceRange 0 1 none 0 65536 []] : List Instr).all
      (fun i => !i.wellFormed) = true := by
  decide

/-- An optional field that is present fits its bytes; RETURN's pair does too. -/
theorem test_wf_optional_fields :
    ([.textAppend 0 1 (some 256) [], .textReplace 0 1 (some 256) [], .lineset 0 0 (some 65536) none none none none,
      .lineset 0 0 none (some 256) none none none, .lineset 0 0 none none (some 65536) none none,
      .lineset 0 0 none none none (some 256) none, .lineset 0 0 none none none none (some 256), .window 0 (some 65536),
      .ret 0 (some (65536, 0)) [], .ret 0 (some (0, 256)) [], .home 0 (some 256) none, .home 0 none (some 65536),
      .style 0 0 { font := some 256, size := none, leading := none, indent := none, wordSpace := none, paraSpace := none,
                   measure := none },
      .style 0 0 { font := none, size := none, leading := some 65536, indent := none, wordSpace := none, paraSpace := none,
                   measure := none },
      .pageopen 0 1 (some 256) none, .pageopen 0 1 none (some 256), .portset 0 0 (some 65536) none,
      .portset 0 0 none (some 256)] : List Instr).all (fun i => !i.wellFormed) = true := by
  decide

/-- A kind word is 8 bytes; a slug takes 12 with no space at its end; a list's count, a line's length, a flash text's length and
an XLATE entry fit; a result value of RESULT_CODE_OTHER is neither DONE nor FAULT. -/
theorem test_wf_shapes :
    ([.unknownRequest 0 [65], .create 0 (List.replicate 13 65) 0 0 0, .new 0 [65, 32] 0 0,
      .textAppend 0 1 none [List.replicate 256 65], .ret 0 none [List.replicate 256 65], .ret 0 none (List.replicate 256 []),
      .flash 0 (List.replicate 256 65) 1, .widths 0 0 33 (List.replicate 256 18), .xlate 0 1 [[1, 2, 3]],
      .xlate 0 1 (List.replicate 256 []), .place 0 1 1 (List.replicate 256 1), .resultCodeOther .a 1,
      .resultCodeOther .b 2] : List Instr).all (fun i => !i.wellFormed) = true := by
  decide +kernel

/-- A body holds at most 4,096 bytes from the host and 4,084 from a terminal: 6 bytes stand before TEXT's lines, 3 with the fields
of RETURN omitted. -/
theorem test_wf_body_length :
    (Instr.textAppend 0 1 none (List.replicate 51 (List.replicate 80 65))).wellFormed = false ∧
    (Instr.textAppend 0 1 none (List.replicate 50 (List.replicate 80 65))).wellFormed = true ∧
    (Instr.ret 0 none (List.replicate 51 (List.replicate 80 65))).wellFormed = false := by
  decide +kernel

/-! ### Witnesses with a part that no evaluation decides -/

theorem witness_StepRunsFrontCommand :
    ({ room with pending := [.ident 1, .queue 2] } : State).pending = .ident 1 :: [.queue 2] ∧ room.pending = [] := by
  decide +kernel

theorem witness_ChannelLawKept :
    let s : State := { busyRoom with pending := [.unknownRequest 9 (kindWord "BOGUS")] }
    ChannelLaw s ∧ ∃ t, step s = .next t := by
  refine ⟨by unfold ChannelLaw; decide +kernel, _, rfl⟩

theorem witness_ClockLawKept :
    let s : State := { room with
      clock := { room.clock with count := 1, next := some 65535, edition := 14 }, pending := [.terminalCount] }
    ClockLaw s ∧ ∃ t, step s = .next t := by
  refine ⟨by unfold ClockLaw; decide +kernel, _, rfl⟩

theorem witness_FlashLawKept :
    let s : State := { room with
      flashes := { list := [{ number := 255, text := ascii "A", mask := 1, unseen := [] }], next := 1 }
      pending := [.flash 1 (ascii "B") 1] }
    FlashLaw s ∧ ∃ t, step s = .next t := by
  refine ⟨⟨by decide +kernel, by decide +kernel, by decide +kernel, ⟨rfl, trivial⟩, by decide +kernel⟩, _, rfl⟩

theorem witness_OutputLawKept :
    let s : State := { room with pending := [.codeAccepted .a] }
    OutputLaw s ∧ ∃ t, step s = .next t := by
  refine ⟨by unfold OutputLaw SetterPort.Law; decide +kernel, _, rfl⟩

theorem witness_StoreLawKept :
    let s : State := { room with pending := [.textReplace 1 1 none []] }
    StoreLaw s ∧ ∃ t, step s = .next t := by
  refine ⟨by unfold StoreLaw; decide +kernel, _, rfl⟩

theorem witness_BlocksNeverShared :
    let s : State := { room with pending := [.textAppend 1 1 none [List.replicate 80 65]] }
    BlockLaw s ∧ ∃ t, step s = .next t := by
  refine ⟨by unfold BlockLaw; decide +kernel, _, rfl⟩

set_option synthInstance.maxSize 2048 in
set_option synthInstance.maxHeartbeats 400000 in
theorem room_recordsLaw : RecordsLaw room := by
  have h : (BasketLaw room ∧ HoldLaw room ∧ FitLaw room ∧ SlotLaw room) ∧ (SpikeLaw room ∧ JobLaw room) ∧
      ∀ g ∈ pageIds, (agrees g room ∧ (room.page g).fit = room.judgement (room.page g)) ∧
        ((room.page g).state = .releasing → (room.page g).fit = .pending) ∧
        ((room.page g).state = .closed → room.page g = Page.shut) := by
    unfold BasketLaw DeskLaw HoldLaw State.holdable FitLaw SlotLaw SpikeLaw JobLaw State.jobPages agrees
    decide +kernel
  obtain ⟨⟨h1, h2, h3, h4⟩, ⟨h5, h6⟩, h7⟩ := h
  exact ⟨h1, h2, h3, h4, fun g hg => ⟨pageAgrees_of (h7 g hg).1.1, (h7 g hg).1.2, (h7 g hg).2⟩, h5, h6⟩

/-- The waiting commands and the channel are no part of the records' law. -/
theorem recordsLaw_pending (s : State) (p : List Instr) (h : RecordsLaw s) : RecordsLaw { s with pending := p } := h

theorem recordsLaw_channel (s : State) (c : Channel) (h : RecordsLaw s) : RecordsLaw { s with channel := c } := h

theorem witness_BasketLawKept :
    let s : State := { room with pending := [.hostRoute 1 1 1] }
    BasketLaw s ∧ ∃ t, step s = .next t :=
  ⟨(recordsLaw_pending room _ room_recordsLaw).1, _, rfl⟩

theorem witness_RecordsLawKept :
    let s : State := { room with pending := [.hostKill 1 5] }
    RecordsLaw s ∧ ∃ t, step s = .next t :=
  ⟨recordsLaw_pending room _ room_recordsLaw, _, rfl⟩

/-- Page 2's job is at port A. -/
theorem room_jobAt : JobAt 2 .a room := by
  unfold JobAt PortWaits
  decide +kernel

theorem witness_RequestsReadBack :
    (let i : Instr := .xlate 1 127 [[255, 0]]
     i.wellFormed = true ∧ i.fromHost = true ∧ ∀ tag kind, i ≠ .unknownRequest tag kind) ∧
    let i : Instr := .ret 31 (some (999, 20)) [ascii "A"]
    i.wellFormed = true ∧ i.fromLine = some 31 := by
  refine ⟨⟨by decide, by decide, ?_⟩, by decide⟩
  intro tag kind h
  cases h

theorem witness_RefusalHasNoEffect_host :
    let i : Instr := .info 1 513
    i.fromHost = true ∧ room.takes i = true ∧ ∃ t r, exec i room = .next t ∧
      t.channel.replies[(room.offer i).channel.replies.length]? = some r ∧ r.status ≠ .done := by
  refine ⟨rfl, by decide +kernel, after (.info 1 513) room,
    { tag := 1, kind := kindWord "INFO", status := .badField, details := [], overflow := false }, rfl, ?_, by decide⟩
  decide +kernel

theorem witness_RefusalHasNoEffect_line :
    let i : Instr := .terminalOpen 0 9
    i.fromLine = some 0 ∧ i.kind ≠ kindWord "SIGNON" ∧ room.takesFrame 0 i = true ∧
      ∃ t a, exec i room = .next t ∧ (t.line (0 : Fin 32)).answer = some a ∧ a.status ≠ .done := by
  refine ⟨rfl, by decide, by decide +kernel, after (.terminalOpen 0 9) room,
    { service := true, kind := kindWord "OPEN", status := .noSuch, details := [] }, rfl, ?_, by decide⟩
  decide +kernel

/-- A request refused by its second check, one a terminal may not make, and a SIGNON of no user number. -/
theorem witness_RefusalsInOrder :
    ((Instr.info 1 9).fromHost = true ∧ room.takes (.info 1 9) = true) ∧
    ((Instr.terminalOpen 0 9).fromLine = some 0 ∧ (Instr.terminalOpen 0 9).kind ≠ kindWord "SIGNON" ∧
      room.takesFrame 0 (.terminalOpen 0 9) = true ∧ (room.line 0).user.isSome = true) ∧
    room.takesFrame 5 (.signon 5 10000) = true := by
  decide +kernel

/-- Each of the three ways a notice may go: it coalesces, it joins, it is dropped at 48. -/
theorem witness_NoticeRaised :
    (let s := room.raise (.store 9)
     ChannelLaw s ∧ s.channel.notices = [] ++ Notice.store 9 :: [] ∧ (Notice.store 9).same (.store 8) = true) ∧
    (ChannelLaw room ∧ (∀ m ∈ room.channel.notices, m.same (.store 8) = false) ∧ room.channel.notices.length < 48) ∧
    let s : State := { room with channel := { room.channel with
      notices := (List.range 48).map fun n => .orphan (n + 1) 1 0 } }
    ChannelLaw s ∧ (∀ m ∈ s.channel.notices, m.same (.store 8) = false) ∧ 48 ≤ s.channel.notices.length := by
  unfold ChannelLaw
  decide +kernel

/-- The premises of TEXT for the three forms on story 1. -/
theorem witness_TextChangesStory :
    ∀ i ∈ [Instr.textAppend 1 1 (some 31) [[]], .textReplace 1 1 (some 31) [[]], .textReplaceRange 1 1 (some 31) 0 1 [[]]],
      ∃ text,
        room.takes i = true ∧ optWithin 0 31 (some 31) = true ∧ (∀ l ∈ ([[]] : List CopyLine), lineOk l = true) ∧
        ((∃ tag, i = .textAppend tag 1 (some 31) [[]] ∧ text = (room.story 1).text ++ [[]]) ∨
          (∃ tag, i = .textReplace tag 1 (some 31) [[]] ∧ text = [[]]) ∨
          ∃ tag f k, i = .textReplaceRange tag 1 (some 31) f k [[]] ∧ f + k ≤ (room.story 1).text.length ∧
            text = (room.story 1).text.take f ++ [[]] ++ (room.story 1).text.drop (f + k)) ∧
        (room.story 1).stage = .basket ∧ (room.story 1).holder.atLine = false ∧ (room.story 1).run = none ∧
        text.length ≤ 999 ∧ storedLength text ≤ 32768 ∧
        blocksFor (storedLength text) ≤ (room.story 1).chain.length + room.store.free := by
  intro i hi
  simp only [List.mem_cons, List.not_mem_nil, or_false] at hi
  obtain rfl | rfl | rfl := hi
  · exact ⟨[ascii "HELLO", []], by decide +kernel, by decide, by decide, .inl ⟨1, rfl, by decide +kernel⟩, by decide +kernel⟩
  · exact ⟨[[]], by decide +kernel, by decide, by decide, .inr (.inl ⟨1, rfl, rfl⟩), by decide +kernel⟩
  · exact ⟨[[]], by decide +kernel, by decide, by decide,
      .inr (.inr ⟨1, 0, 1, rfl, by decide +kernel, by decide +kernel⟩), by decide +kernel⟩

theorem witness_LineonAndLineoff_off : room.takes (.lineoff 1 2) = true ∧ 2 < 32 ∧ HoldAgrees 2 room :=
  ⟨by decide +kernel, by decide, holdAgrees_of (by decide +kernel)⟩

theorem witness_CarrierDropAndReturn : HoldAgrees (1 : Fin 32) room := holdAgrees_of (by decide +kernel)

theorem witness_SignonDenyAndTimeout_late :
    (∃ tag, Instr.verdictDeny 1 5 = .verdictDeny tag 5) ∧
    (∃ tag desk role, Instr.verdictGrant 1 31 15 2 = .verdictGrant tag 31 desk role ∧ desk < 16 ∧ role ≤ 2) ∧
    room.takes (.verdictDeny 1 5) = true ∧ room.takes (.verdictGrant 1 31 15 2) = true ∧
    (room.line 5).state ≠ .signing ∧ (room.line 31).state ≠ .signing :=
  ⟨⟨1, rfl⟩, ⟨1, 15, 2, rfl, by decide, by decide⟩, by decide +kernel⟩

/-- User 4's grant at line 3, while line 2 stands for the orphan of user 3. -/
theorem witness_GrantSignsUserOn :
    room.takes (.verdictGrant 1 3 15 2) = true ∧ Role.ofCode 2 = some .slot ∧ (room.line 3).state = .signing ∧
    (room.line 3).signonUser = some 4 ∧ (∀ m < 32, HoldAgrees m room) ∧ ∀ n, (room.story n).holder ≠ .line 3 := by
  refine ⟨by decide +kernel, rfl, by decide +kernel, by decide +kernel, ?_, 
    stories_of (P := fun r => r.holder ≠ .line 3) (by decide +kernel) (by decide)⟩
  have h : ∀ m < 32, ∀ n ∈ (room.line m).held, 1 ≤ n ∧ n ≤ 512 ∧
      ((room.story n).holder = .line m ∨ (room.story n).holder = .orphan m 3 1) := by decide +kernel
  exact fun m hm => holdAgrees_of (h m hm)

theorem witness_SignoffArmAndDim_signoff : room.takesFrame 1 (.signoff 1) = true ∧ HoldAgrees (1 : Fin 32) room :=
  ⟨by decide +kernel, holdAgrees_of (by decide +kernel)⟩

/-- RETURN with its fields and by the window record, on the held story in BASKET. -/
theorem witness_WindowAndReturn_return :
    ∀ range ∈ [some (0, 1), none], let i : Instr := .ret 1 range [[]]
      room.takesFrame 1 i = true ∧ (room.line 1).held = some 2 ∧
      (range = some (0, 1) ∨ range = none ∧ (room.line 1).window = some { first := 0, shown := 1 }) ∧
      1 ≤ (room.line 1).windowSize ∧ (∀ l ∈ ([[]] : List CopyLine), lineOk l = true) ∧ 0 + 1 ≤ (room.story 2).text.length ∧
      (room.story 2).stage = .basket ∧ [[]] = (room.story 2).text.take 0 ++ [[]] ++ (room.story 2).text.drop 1 ∧
      storedLength [[]] ≤ 32768 ∧ blocksFor (storedLength [[]]) ≤ (room.story 2).chain.length + room.store.free := by
  decide +kernel

/-- PLACE from the basket, and again over the run a placed story has. -/
theorem witness_PlaceAndUnplace_place :
    (let i : Instr := .place 1 1 1 [2]
     room.takes i = true ∧ (room.story 1).desk < 16 ∧ (room.story 1).stage = .basket ∧
     (∀ k, ∀ sl ∈ (room.page 1).slot k, sl.occupant.map Prod.fst ≠ some 1) ∧ (room.page 1).state = .makeup ∧
     ∃ sl, (room.page 1).slot 2 = some sl ∧ sl.occupant = none) ∧
    let i : Instr := .place 1 3 1 [2, 1]
    room.takes i = true ∧ (room.story 3).desk < 16 ∧ (room.story 3).stage = .placed ∧
    (∃ old, (room.story 3).run = some old ∧ old.page = 1) ∧ (room.page 1).state = .makeup ∧
    (∃ sl, (room.page 1).slot 2 = some sl ∧ sl.occupant = none) ∧
    ∃ sl, (room.page 1).slot 1 = some sl ∧ sl.occupant.map Prod.fst = some 3 := by
  have two : (room.page 1).slot 2 = some { depth := 48, measure := 72, occupant := none } := by decide +kernel
  have one : (room.page 1).slot 1 = some { depth := 100, measure := 144, occupant := some (3, 1) } := by decide +kernel
  refine ⟨⟨by decide +kernel, by decide +kernel, by decide +kernel, ?_, by decide +kernel, _, two, rfl⟩,
    by decide +kernel, by decide +kernel, by decide +kernel, ⟨{ page := 1, slots := [1] }, by decide +kernel, rfl⟩,
    by decide +kernel, ⟨_, two, rfl⟩, _, one, rfl⟩
  exact slots_of (P := fun v => ∀ sl ∈ v, sl.occupant.map Prod.fst ≠ some 1) (by decide +kernel) (by decide)

theorem witness_ReleaseSendsPage :
    filledRoom.takes (.release 1 1 2 1) = true ∧ PortChoice.ofCode 2 = some .either ∧ firstOfTwo 1 = some false ∧
    (filledRoom.page 1).state = .makeup ∧ (∃ k, (filledRoom.page 1).occupied k = true) ∧
    (∀ k, ∀ sl ∈ (filledRoom.page 1).slot k, sl.occupant.isSome = true) ∧
    (∀ n ∈ (filledRoom.page 1).stories, (filledRoom.story n).holder = .absent) ∧ ∀ x, PortWaits x filledRoom := by
  refine ⟨by decide +kernel, rfl, rfl, by decide +kernel, ⟨1, by decide +kernel⟩, ?_, by decide +kernel,
    fun x => by cases x <;> unfold PortWaits <;> decide +kernel⟩
  exact slots_of (P := fun v => ∀ sl ∈ v, sl.occupant.isSome = true) (by decide +kernel) (by decide)

theorem witness_PagesOpenedAndShut_shut :
    let s := room.setPage 48 { Page.shut with state := .set }
    s.takes (.pageshut 1 48) = true ∧ (s.page 48).state = .set ∧ ∀ k, (s.page 48).occupied k = false := by
  refine ⟨by decide +kernel, by decide +kernel, ?_⟩
  have empty := slots_of (p := (room.setPage 48 { Page.shut with state := .set }).page 48) (P := fun v => v = none)
    (by decide +kernel) rfl
  intro k
  simp only [Page.occupied, empty k]

theorem witness_CancelAndReopen_reopen :
    room.takes (.reopen 1 3) = true ∧ (room.page 3).state = .set ∧
    (∀ n ∈ (room.page 3).stories, 1 ≤ n ∧ n ≤ 512 ∧ (room.story n).stage = .set ∧
      ∃ run, (room.story n).run = some run ∧ run.page = 3) ∧
    (room.page 3).stories.Nodup := by
  have six : (room.page 3).stories = [6] := by decide +kernel
  refine ⟨by decide +kernel, by decide +kernel, ?_, by decide +kernel⟩
  intro n hn
  rw [six, List.mem_singleton] at hn
  subst hn
  exact ⟨by decide, by decide, by decide +kernel, { page := 3, slots := [1] }, by decide +kernel, rfl⟩

theorem witness_PortBroughtIntoService :
    ((∃ tag, Instr.porton 1 1 = .porton tag 1) ∧ (room.port .b).state = .offline ∧ room.takes (.porton 1 1) = true ∧
      portOfCode 1 = some .b ∧ PortWaits (otherPort .b) room) ∧
    let s := room.updPort .b fun v => { v with state := .halted }
    (∃ tag, Instr.resume 1 1 = .resume tag 1) ∧ (s.port .b).state = .halted ∧ s.takes (.resume 1 1) = true ∧
      portOfCode 1 = some .b ∧ PortWaits (otherPort .b) s :=
  ⟨⟨⟨1, rfl⟩, by unfold PortWaits; decide +kernel⟩, ⟨1, rfl⟩, by unfold PortWaits; decide +kernel⟩

theorem witness_RecordsRead :
    ((room.story 1).stage ≠ .free ∧ room.takes (.info 1 1) = true) ∧
    (2 ≤ (room.desk 0).basket.length ∧ room.takes (.basket 1 0 0 2) = true) ∧
    (1 ≤ (room.desk 0).spikes.length ∧ room.takes (.basket 1 0 1 1) = true) ∧ room.takes (.pageinfo 1 48) = true ∧
    (portOfCode 1 = some .b ∧ room.takes (.portstat 1 1) = true) ∧ room.takes (.queue 1) = true ∧
    room.takes (.clkread 1) = true := by
  decide +kernel

/-- The clauses of a seconds tick: a countdown above 1, a sign-on with one second left, a dim timer, an orphan and a loss timer. -/
theorem witness_SecondsTickMovesTimers :
    let s := (room.updLine 0 fun l => { l with dimTimer := some 1 }).updPort .a fun v => { v with lossTimer := some 1 }
    s.clock.state = .running ∧ 1 < s.clock.count ∧ (s.line 3).state = .signing ∧ (s.line 3).signonTimer = some 1 ∧
    (s.line 0).dimRuns = true ∧ (s.line 0).dimTimer = some 1 ∧ 8 ∈ storyIds ∧ (s.story 8).holder = .orphan 2 3 1 ∧
    (s.port .a).state = .setting ∧ (s.port .a).job = some jobOfTwo ∧ (s.port .a).lossTimer = some 1 ∧
    OutputLaw s := by
  unfold OutputLaw SetterPort.Law
  decide +kernel

/-! ### Witnesses: states and operands that meet every hypothesis of a statement -/

theorem witness_HostFrameArrivesWhole :
    let s : State := room
    let kind : List Byte := kindWord "INFO"
    let body : List Byte := [0, 88]
    s.channel.rx = none ∧ kind.length = 8 ∧ body.length ≤ 4096 := by
  decide +kernel

theorem witness_HostFrameArrivesWhole_full :
    let s : State := busyRoom
    let kind : List Byte := kindWord "TEXT"
    let body : List Byte := List.replicate 4096 125
    s.channel.rx = none ∧ kind.length = 8 ∧ body.length ≤ 4096 := by
  decide +kernel

theorem witness_TerminalFrameTakenIntoService :
    let s : State := room
    let k : Fin 32 := 0
    let i : Instr := .terminalOpen 0 512
    i.wellFormed = true ∧ i.fromLine = some k ∧ i.kind ≠ kindWord "SIGNON" ∧ (s.line k).state = .ready ∧
    (s.line k).service = none ∧ (s.line k).rx = [] := by
  decide +kernel

theorem witness_TerminalFrameTakenIntoService_lost :
    let s : State := room
    let k : Fin 32 := 2
    let kind : List Byte := kindWord "OPEN"
    let body : List Byte := [2, 0]
    kind.length = 8 ∧ (lineFrame kind body).length ≤ 4096 ∧ (s.line k).rx = [] ∧
    ((s.line k).state = .dim → (s.line k).service = none) := by
  decide +kernel

theorem witness_TerminalFrameTakenIntoService_signing :
    let s : State := room
    let k : Fin 32 := 3
    let kind : List Byte := kindWord "SIGNON"
    let body : List Byte := [0, 4]
    kind.length = 8 ∧ (lineFrame kind body).length ≤ 4096 ∧ (s.line k).rx = [] ∧
    ((s.line k).state = .dim → (s.line k).service = none) := by
  decide +kernel

theorem witness_TerminalFrameTakenIntoService_dim :
    let s : State := room
    let k : Fin 32 := 4
    let kind : List Byte := kindWord "SEEN"
    let body : List Byte := []
    kind.length = 8 ∧ (lineFrame kind body).length ≤ 4096 ∧ (s.line k).rx = [] ∧
    ((s.line k).state = .dim → (s.line k).service = none) := by
  decide +kernel

theorem witness_TerminalFrameTakenIntoService_idle :
    let s : State := room
    let k : Fin 32 := 5
    let kind : List Byte := kindWord "BOGUS"
    let body : List Byte := []
    kind.length = 8 ∧ (lineFrame kind body).length ≤ 4096 ∧ (s.line k).rx = [] ∧
    ((s.line k).state = .dim → (s.line k).service = none) := by
  decide +kernel

theorem witness_FramesDiscardedAndSent_latch :
    let s : State := room
    let k : Fin 32 := 5
    (s.line k).state.receiving = true := by
  decide +kernel

theorem witness_FramesDiscardedAndSent_reply :
    let s : State := busyRoom
    let r : Reply := { tag := 1, kind := kindWord "IDENT", status := .busy, details := [], overflow := true }
    let rest : List Reply := List.replicate 3 { tag := 1, kind := kindWord "IDENT", status := .busy, details := [], overflow := true }
    s.channel.replies = r :: rest := by
  decide +kernel

theorem witness_FramesDiscardedAndSent_notice :
    let s : State := room.raise (.store 9)
    let n : Notice := .store 9
    let rest : List Notice := []
    s.channel.replies = [] ∧ s.channel.notices = n :: rest ∧ s.channel.restarting = false := by
  decide +kernel

theorem witness_FramesDiscardedAndSent_idle :
    let s : State := room
    s.channel.replies = [] ∧ (s.channel.notices = [] ∨ s.channel.restarting = true) := by
  decide +kernel

theorem witness_FramesDiscardedAndSent_restart_stands :
    let s : State := { room with channel := { room.channel with notices := [.store 9], restarting := true } }
    s.channel.replies = [] ∧ (s.channel.notices = [] ∨ s.channel.restarting = true) := by
  decide +kernel

theorem witness_FramesDiscardedAndSent_line :
    let s : State := room
    let k : Fin 32 := 4
    (s.line k).state.receiving = true := by
  decide +kernel

theorem witness_FramesDiscardedAndSent_out_of_service :
    let s : State := room
    let k : Fin 32 := 2
    (s.line k).state = .disabled ∨ (s.line k).state = .lost := by
  decide +kernel

theorem witness_CreateMakesStory :
    let s : State := room
    let tag : Byte := 1
    let slug : List Byte := ascii "VOTE-NIGHT12"
    let desk : Nat := 15
    let style : Nat := 31
    let priority : Nat := 2
    let n : Nat := 9
    let p : Priority := .flash
    let i : Instr := .create tag slug desk style priority
    s.takes i = true ∧ slugOk slug = true ∧ desk < 16 ∧ style < 32 ∧ Priority.ofCode priority = some p ∧ 1 ≤ n ∧
    n ≤ 512 ∧ (s.story n).stage = .free ∧ (∀ m < n, 1 ≤ m → (s.story m).stage ≠ .free) := by
  decide +kernel

theorem witness_NewMakesHeldStory :
    let s : State := room
    let k : Fin 32 := 4
    let slug : List Byte := ascii "A"
    let style : Nat := 31
    let priority : Nat := 1
    let n : Nat := 9
    let p : Priority := .urgent
    let u : SignedOn := { user := 5, desk := 0, role := .reporter }
    let i : Instr := .new k slug style priority
    s.takesFrame k i = true ∧ slugOk slug = true ∧ style < 32 ∧ Priority.ofCode priority = some p ∧
    (s.line k).user = some u ∧ u.desk < 16 ∧ (s.line k).held = none ∧ 1 ≤ n ∧ n ≤ 512 ∧
    (s.story n).stage = .free ∧ (∀ m < n, 1 ≤ m → (s.story m).stage ≠ .free) := by
  decide +kernel

theorem witness_ReadReturnsLines :
    let s : State := room
    let tag : Byte := 1
    let n : Nat := 512
    let f : Nat := 0
    let i : Instr := .read tag n f
    s.takes i = true := by
  decide +kernel

theorem witness_PurgeFreesStory_spiked :
    let s : State := room
    let tag : Byte := 1
    let n : Nat := 4
    let i : Instr := .purge tag n
    let r := s.story n
    s.takes i = true ∧ 1 ≤ n ∧ n ≤ 512 ∧
    (r.stage = .spiked ∧ r.run = none ∨ r.stage = .set ∧ r.run.isSome = true) := by
  decide +kernel

theorem witness_PurgeFreesStory_set :
    let s : State := room
    let tag : Byte := 1
    let n : Nat := 6
    let i : Instr := .purge tag n
    let r := s.story n
    s.takes i = true ∧ 1 ≤ n ∧ n ≤ 512 ∧
    (r.stage = .spiked ∧ r.run = none ∨ r.stage = .set ∧ r.run.isSome = true) := by
  decide +kernel

theorem witness_RouteMovesStory_host :
    let s : State := room
    let tag : Byte := 1
    let n : Nat := 7
    let desk : Nat := 15
    let i : Instr := .hostRoute tag n desk
    let r := s.story n
    s.takes i = true ∧ 1 ≤ n ∧ n ≤ 512 ∧ desk < 16 ∧ r.desk < 16 ∧ r.stage = .basket ∧
    (r.holder = .absent ∨ r.holder = .channel) := by
  decide +kernel

theorem witness_RouteMovesStory_own_desk :
    let s : State := room
    let k : Fin 32 := 0
    let n : Nat := 1
    let desk : Nat := 0
    let i : Instr := .terminalRoute k n desk
    let r := s.story n
    s.takesFrame k i = true ∧ 1 ≤ n ∧ n ≤ 512 ∧ desk < 16 ∧ r.desk < 16 ∧ r.stage = .basket ∧
    (r.holder = .absent ∧ (s.line k).onDesk r.desk = true ∨ r.holder = .line k) := by
  decide +kernel

theorem witness_RouteMovesStory_held :
    let s : State := room
    let k : Fin 32 := 1
    let n : Nat := 2
    let desk : Nat := 15
    let i : Instr := .terminalRoute k n desk
    let r := s.story n
    s.takesFrame k i = true ∧ 1 ≤ n ∧ n ≤ 512 ∧ desk < 16 ∧ r.desk < 16 ∧ r.stage = .basket ∧
    (r.holder = .absent ∧ (s.line k).onDesk r.desk = true ∨ r.holder = .line k) := by
  decide +kernel

theorem witness_PriorityReclasses_host :
    let s : State := room
    let tag : Byte := 1
    let n : Nat := 6
    let priority : Nat := 2
    let p : Priority := .flash
    let i : Instr := .hostPriority tag n priority
    let r := s.story n
    s.takes i = true ∧ Priority.ofCode priority = some p ∧ 1 ≤ n ∧ n ≤ 512 ∧ r.stage ≠ .free ∧ r.desk < 16 := by
  decide +kernel

theorem witness_PriorityReclasses_line :
    let s : State := room
    let k : Fin 32 := 1
    let n : Nat := 2
    let priority : Nat := 0
    let p : Priority := .routine
    let i : Instr := .terminalPriority k priority
    let r := s.story n
    s.takesFrame k i = true ∧ Priority.ofCode priority = some p ∧ (s.line k).held = some n ∧ 1 ≤ n ∧ n ≤ 512 ∧
    r.desk < 16 := by
  decide +kernel

theorem witness_SpikeAndUnspike_host :
    let s : State := room
    let tag : Byte := 1
    let n : Nat := 7
    let i : Instr := .hostSpike tag n
    let r := s.story n
    s.takes i = true ∧ 1 ≤ n ∧ n ≤ 512 ∧ r.desk < 16 ∧ r.stage = .basket ∧ r.run = none ∧
    (r.holder = .absent ∨ r.holder = .channel) := by
  decide +kernel

theorem witness_SpikeAndUnspike_line :
    let s : State := room
    let k : Fin 32 := 1
    let n : Nat := 2
    let i : Instr := .terminalSpike k n
    let r := s.story n
    s.takesFrame k i = true ∧ 1 ≤ n ∧ n ≤ 512 ∧ r.desk < 16 ∧ r.stage = .basket ∧ r.run = none ∧
    (s.line k).hasRole .reporter = false ∧ (r.holder = .absent ∨ r.holder = .line k) := by
  decide +kernel

theorem witness_SpikeAndUnspike_unspike :
    let s : State := room
    let tag : Byte := 1
    let n : Nat := 4
    let i : Instr := .unspike tag n
    let r := s.story n
    s.takes i = true ∧ 1 ≤ n ∧ n ≤ 512 ∧ r.desk < 16 ∧ r.stage = .spiked ∧ r.fit = .none ∧ r.holder = .absent := by
  decide +kernel

theorem witness_KillSpikesPlacedStory_host :
    let s : State := room
    let tag : Byte := 1
    let n : Nat := 5
    let run : Run := { page := 2, slots := [1] }
    let i : Instr := .hostKill tag n
    let r := s.story n
    s.takes i = true ∧ 1 ≤ n ∧ n ≤ 512 ∧ r.desk < 16 ∧ r.stage.onPage = true ∧ r.run = some run ∧
    (r.holder = .absent ∨ r.holder = .channel) ∧ 1 ≤ run.page ∧ run.page ≤ 48 ∧
    (s.page run.page).state ≠ .closed ∧ PageAgrees run.page s ∧
    ((s.page run.page).state = .setting → ∃ p, JobAt run.page p s) := by
  exact ⟨by decide +kernel, by decide, by decide, by decide +kernel, by decide +kernel, by decide +kernel, by decide +kernel,
    by decide, by decide, by decide +kernel, pageAgrees_of (by unfold agrees; decide +kernel), fun _ => ⟨.a, room_jobAt⟩⟩

theorem witness_KillSpikesPlacedStory_armed :
    let s : State := room.updLine 0 fun l => { l with override := true }
    let k : Fin 32 := 0
    let n : Nat := 5
    let run : Run := { page := 2, slots := [1] }
    let i : Instr := .terminalKill k n
    let r := s.story n
    s.takesFrame k i = true ∧ 1 ≤ n ∧ n ≤ 512 ∧ r.desk < 16 ∧ r.stage.onPage = true ∧ r.run = some run ∧
    (s.line k).hasRole .reporter = false ∧ (r.holder = .absent ∨ r.holder = .line k) ∧ 1 ≤ run.page ∧
    run.page ≤ 48 ∧ (s.page run.page).state ≠ .closed ∧ PageAgrees run.page s ∧
    ((s.page run.page).state ≠ .makeup → (s.line k).hasRole .slot = true ∧ (s.line k).override = true) ∧
    ((s.page run.page).state = .setting → ∃ p, JobAt run.page p s) := by
  exact ⟨by decide +kernel, by decide, by decide, by decide +kernel, by decide +kernel, by decide +kernel, by decide +kernel,
    by decide +kernel, by decide, by decide, by decide +kernel, pageAgrees_of (by unfold agrees; decide +kernel), by decide +kernel,
    fun _ => ⟨.a, by unfold JobAt PortWaits; decide +kernel⟩⟩

theorem witness_KillSpikesPlacedStory_makeup :
    let s : State := room
    let k : Fin 32 := 0
    let n : Nat := 3
    let run : Run := { page := 1, slots := [1] }
    let i : Instr := .terminalKill k n
    let r := s.story n
    s.takesFrame k i = true ∧ 1 ≤ n ∧ n ≤ 512 ∧ r.desk < 16 ∧ r.stage.onPage = true ∧ r.run = some run ∧
    (s.line k).hasRole .reporter = false ∧ (r.holder = .absent ∨ r.holder = .line k) ∧ 1 ≤ run.page ∧
    run.page ≤ 48 ∧ (s.page run.page).state ≠ .closed ∧ PageAgrees run.page s ∧
    ((s.page run.page).state ≠ .makeup → (s.line k).hasRole .slot = true ∧ (s.line k).override = true) ∧
    ((s.page run.page).state = .setting → ∃ p, JobAt run.page p s) := by
  exact ⟨by decide +kernel, by decide, by decide, by decide +kernel, by decide +kernel, by decide +kernel, by decide +kernel,
    by decide +kernel, by decide, by decide, by decide +kernel, pageAgrees_of (by unfold agrees; decide +kernel), by decide +kernel,
    fun h => absurd h (by decide +kernel)⟩

theorem witness_OpenTakesHold_host :
    let s : State := room
    let tag : Byte := 1
    let n : Nat := 3
    let i : Instr := .hostOpen tag n
    let r := s.story n
    s.takes i = true ∧ 1 ≤ n ∧ n ≤ 512 ∧ (r.stage = .basket ∨ r.stage = .placed) ∧
    (∀ run ∈ r.run, (s.page run.page).state = .makeup) ∧ (r.holder = .absent ∨ r.holder = .channel) := by
  decide +kernel

theorem witness_OpenTakesHold_line :
    let s : State := room
    let k : Fin 32 := 4
    let n : Nat := 1
    let i : Instr := .terminalOpen k n
    let r := s.story n
    s.takesFrame k i = true ∧ 1 ≤ n ∧ n ≤ 512 ∧ (r.stage = .basket ∨ r.stage = .placed) ∧
    (∀ run ∈ r.run, (s.page run.page).state = .makeup) ∧
    ((s.line k).hasRole .reporter = true → (s.line k).onDesk r.desk = true) ∧
    (r.holder = .absent ∧ (s.line k).held = none ∨ r.holder = .line k ∧ (s.line k).held = some n) := by
  decide +kernel

theorem witness_OpenTakesHold_again :
    let s : State := room
    let k : Fin 32 := 1
    let n : Nat := 2
    let i : Instr := .terminalOpen k n
    let r := s.story n
    s.takesFrame k i = true ∧ 1 ≤ n ∧ n ≤ 512 ∧ (r.stage = .basket ∨ r.stage = .placed) ∧
    (∀ run ∈ r.run, (s.page run.page).state = .makeup) ∧
    ((s.line k).hasRole .reporter = true → (s.line k).onDesk r.desk = true) ∧
    (r.holder = .absent ∧ (s.line k).held = none ∨ r.holder = .line k ∧ (s.line k).held = some n) := by
  decide +kernel

theorem witness_HostCloseReleasesChannelHold :
    let s : State := room
    let tag : Byte := 1
    let n : Nat := 7
    let i : Instr := .hostClose tag n
    s.takes i = true := by
  decide +kernel

theorem witness_HoldsReleased_close :
    let s : State := room
    let k : Fin 32 := 1
    let n : Nat := 2
    let i : Instr := .terminalClose k
    s.takesFrame k i = true ∧ (s.line k).held = some n ∧ 1 ≤ n ∧ n ≤ 512 ∧ (s.story n).holder = .line k := by
  decide +kernel

theorem witness_HoldsReleased_free :
    let s : State := room
    let tag : Byte := 1
    let n : Nat := 8
    let i : Instr := .free tag n
    let h := (s.story n).holder
    s.takes i = true ∧ 1 ≤ n ∧ n ≤ 512 ∧ (s.story n).stage ≠ .free ∧ h ≠ .absent := by
  decide +kernel

theorem witness_HoldsReleased_orphan :
    let s : State := room
    let n : Nat := 8
    let k : Nat := 2
    let user : Nat := 3
    let seconds : Nat := 1
    (s.story n).holder = .orphan k user seconds ∧ 1 ≤ n ∧ n ≤ 512 ∧ k < 32 := by
  decide +kernel

theorem witness_HoldtimeSetsOrphanWindow_request :
    let s : State := room
    let tag : Byte := 1
    let seconds : Nat := 600
    let i : Instr := .holdtime tag seconds
    s.takes i = true := by
  decide +kernel

theorem witness_HoldtimeSetsOrphanWindow_drop :
    let s : State := room
    let k : Fin 32 := 1
    let n : Nat := 2
    let u : SignedOn := { user := 2, desk := 0, role := .editor }
    (s.line k).state = .ready ∧ (s.line k).held = some n ∧ (s.line k).user = some u ∧ 1 ≤ n ∧ n ≤ 512 := by
  decide +kernel

theorem witness_LineSettings_lineset :
    let s : State := room
    let tag : Byte := 1
    let k : Nat := 31
    let speed : Option Nat := some 19200
    let model : Option Nat := some 1
    let dimTime : Option Nat := some 60
    let wakeFlash : Option Nat := some 0
    let wakeUrgent : Option Nat := some 1
    let i : Instr := .lineset tag k speed model dimTime wakeFlash wakeUrgent
    let l := s.line k
    s.takes i = true ∧ k < 32 ∧ (∀ v ∈ speed, v ∈ [1200, 2400, 4800, 9600, 19200]) ∧ (∀ m ∈ model, m ≤ 1) ∧
    (∀ c ∈ wakeFlash, c ≤ 1) ∧ (∀ c ∈ wakeUrgent, c ≤ 1) ∧ (l.state = .disabled ∨ speed = none ∧ model = none) := by
  decide +kernel

theorem witness_LineSettings_linestat :
    let s : State := room
    let tag : Byte := 1
    let k : Nat := 31
    let i : Instr := .linestat tag k
    s.takes i = true ∧ k < 32 := by
  decide +kernel

theorem witness_LineonAndLineoff_on :
    let s : State := room
    let tag : Byte := 1
    let k : Nat := 31
    let i : Instr := .lineon tag k
    let l := s.line k
    s.takes i = true ∧ k < 32 ∧ l.state = .disabled := by
  decide +kernel

theorem witness_SignonDenyAndTimeout_signon :
    let s : State := room
    let k : Fin 32 := 5
    let user : Nat := 9999
    let i : Instr := .signon k user
    s.takesFrame k i = true ∧ (s.line k).state = .idle ∧ (∀ v ∈ (s.line k).service, v.kind = i.kind) ∧
    1 ≤ user ∧ user ≤ 9999 := by
  decide +kernel

theorem witness_SignonDenyAndTimeout_deny :
    let s : State := room
    let tag : Byte := 1
    let k : Nat := 3
    let i : Instr := .verdictDeny tag k
    s.takes i = true ∧ k < 32 ∧ (s.line k).state = .signing := by
  decide +kernel

theorem witness_SignonDenyAndTimeout_timeout :
    let s : State := room
    let k : Fin 32 := 3
    let seconds : Nat := 1
    (s.line k).state = .signing ∧ (s.line k).signonTimer = some seconds ∧ seconds ≤ 1 := by
  decide +kernel

theorem witness_SignoffArmAndDim_arm :
    let s : State := room
    let k : Fin 32 := 0
    let i : Instr := .arm k
    s.takesFrame k i = true := by
  decide +kernel

theorem witness_SignoffArmAndDim_dim :
    let s : State := room.updLine 0 fun l => { l with dimTimer := some 1 }
    let k : Fin 32 := 0
    let seconds : Nat := 1
    (s.line k).state = .ready ∧ (s.line k).held = none ∧ (s.line k).service = none ∧ (s.line k).dimTime ≠ 0 ∧
    (s.line k).dimTimer = some seconds ∧ seconds ≤ 1 := by
  decide +kernel

theorem witness_WindowAndReturn_window :
    let s : State := room
    let k : Fin 32 := 1
    let first : Option Nat := some 1
    let n : Nat := 2
    let f : Nat := 1
    let i : Instr := .window k first
    s.takesFrame k i = true ∧ (s.line k).held = some n ∧
    (first = some f ∧ f ≤ 999 ∧ f ≤ (s.story n).text.length ∨ first = none ∧ f = ((s.line k).window.map fun w => w.first).getD 0) := by
  decide +kernel

theorem witness_WindowAndReturn_from_record :
    let s : State := room
    let k : Fin 32 := 1
    let first : Option Nat := none
    let n : Nat := 2
    let f : Nat := 0
    let i : Instr := .window k first
    s.takesFrame k i = true ∧ (s.line k).held = some n ∧
    (first = some f ∧ f ≤ 999 ∧ f ≤ (s.story n).text.length ∨ first = none ∧ f = ((s.line k).window.map fun w => w.first).getD 0) := by
  decide +kernel

theorem witness_HomeListsBasket :
    let s : State := room
    let k : Fin 32 := 0
    let desk : Option Nat := some 15
    let first : Option Nat := some 0
    let u : SignedOn := { user := 1, desk := 0, role := .slot }
    let i : Instr := .home k desk first
    s.takesFrame k i = true ∧ (s.line k).user = some u := by
  decide +kernel

theorem witness_SeenAcknowledgesFlashes_dim :
    let s : State := room
    let k : Fin 32 := 4
    ((s.line k).state = .ready ∨ (s.line k).state = .dim) ∧ (s.line k).service = none := by
  decide +kernel

theorem witness_SeenAcknowledgesFlashes :
    let s : State := room
    let k : Fin 32 := 0
    let i : Instr := .seen k
    s.takesFrame k i = true := by
  decide +kernel

theorem witness_FlashReachesDesks :
    let s : State := room
    let tag : Byte := 1
    let text : List Byte := ascii "A"
    let mask : BitVec 16 := 1
    let unseen : List Nat := [0, 1, 4]
    let i : Instr := .flash tag text mask
    s.takes i = true ∧ 1 ≤ text.length ∧ text.length ≤ 60 ∧ (∀ c ∈ text, 32 ≤ c.toNat ∧ c.toNat ≤ 126) ∧
    mask ≠ 0 ∧
    unseen = (List.range 32).filter (fun k => ((s.line k).state == .ready || (s.line k).state == .dim) && (s.line k).user.any fun u => mask.getLsbD u.desk) := by
  decide +kernel

theorem witness_LampFollowsItsSource :
    let s : State := room
    let tag : Byte := 1
    let k : Nat := 31
    let source : Nat := 7
    let i : Instr := .lamp tag k source
    s.takes i = true := by
  decide +kernel

theorem witness_TablesLoaded_style :
    let s : State := calmRoom
    let tag : Byte := 1
    let n : Nat := 31
    let f : StyleFields := { font := none, size := none, leading := some 288, indent := none, wordSpace := none, paraSpace := none, measure := some 720 }
    let y : Style := { Style.reset with leading := 288, measure := 720 }
    let i : Instr := .style tag n f
    s.takes i = true ∧ n < 32 ∧ s.tablesFrozen = false ∧ y = (s.style n).merge f ∧ y.ok = true := by
  decide +kernel

theorem witness_TablesLoaded_widths :
    let s : State := calmRoom
    let tag : Byte := 1
    let font : Nat := 7
    let c : Nat := 126
    let values : List Nat := [72]
    let i : Instr := .widths tag font c values
    s.takes i = true ∧ font < 8 ∧ 33 ≤ c ∧ values ≠ [] ∧ c + values.length ≤ 127 ∧ s.tablesFrozen = false := by
  decide +kernel

theorem witness_TablesLoaded_xlate :
    let s : State := calmRoom
    let tag : Byte := 1
    let c : Nat := 127
    let entries : List (List Nat) := [[255, 0]]
    let i : Instr := .xlate tag c entries
    s.takes i = true ∧ entries ≠ [] ∧ c + entries.length ≤ 128 ∧ (32 < c ∨ c + entries.length ≤ 32) ∧
    (∀ e ∈ entries, e.length ≤ 2 ∧ ∀ v ∈ e, v ≤ 255) ∧ s.tablesFrozen = false := by
  decide +kernel

theorem witness_FitTakenAndCompleted_taken :
    let s : State := { room with fit := { room.fit with inFlight := none } }
    let n : Nat := 2
    let rest : List Nat := [7, 8]
    s.fit.inFlight = none ∧ s.fit.queue = n :: rest ∧ 1 ≤ n ∧ n ≤ 512 := by
  decide +kernel

theorem witness_FitTakenAndCompleted_discarded :
    let s : State := { room with fit := { room.fit with inFlight := some { story := 3, discard := true, results := fitted } } }
    let c : InFlight := { story := 3, discard := true, results := fitted }
    s.fit.inFlight = some c ∧ c.discard = true := by
  decide +kernel

theorem witness_FitTakenAndCompleted_changed :
    let s : State := room.updStory 3 fun r => { r with changed := true }
    let c : InFlight := { story := 3, discard := false, results := fitted }
    s.fit.inFlight = some c ∧ c.discard = false ∧ 1 ≤ c.story ∧ c.story ≤ 512 ∧ (s.story c.story).changed = true := by
  decide +kernel

theorem witness_FitTakenAndCompleted_current :
    let s : State := room
    let c : InFlight := { story := 3, discard := false, results := fitted }
    s.fit.inFlight = some c ∧ c.discard = false ∧ 1 ≤ c.story ∧ c.story ≤ 512 ∧
    (s.story c.story).changed = false ∧ (∀ run ∈ (s.story c.story).run, (s.page run.page).state ≠ .releasing) := by
  decide +kernel

theorem witness_PagesOpenedAndShut_open :
    let s : State := room
    let tag : Byte := 1
    let label : Nat := 999
    let edition : Option Nat := some 15
    let tolerance : Option Nat := none
    let g : Nat := 4
    let i : Instr := .pageopen tag label edition tolerance
    s.takes i = true ∧ 1 ≤ label ∧ label ≤ 999 ∧ (∀ e ∈ edition, 1 ≤ e ∧ e ≤ 15) ∧ 1 ≤ g ∧ g ≤ 48 ∧
    (s.page g).state = .closed ∧ (∀ h < g, 1 ≤ h → (s.page h).state ≠ .closed) := by
  decide +kernel

theorem witness_PagesOpenedAndShut_slot :
    let s : State := room
    let tag : Byte := 1
    let g : Nat := 1
    let k : Nat := 16
    let depth : Nat := 3600
    let measure : Nat := 36
    let i : Instr := .slotDefine tag g k depth measure
    s.takes i = true ∧ 1 ≤ g ∧ g ≤ 48 ∧ 1 ≤ k ∧ k ≤ 16 ∧ 24 ≤ depth ∧ depth ≤ 3600 ∧ 36 ≤ measure ∧
    measure ≤ 720 ∧ (s.page g).state = .makeup := by
  decide +kernel

theorem witness_PagesOpenedAndShut_undefine :
    let s : State := room
    let tag : Byte := 1
    let g : Nat := 1
    let k : Nat := 2
    let i : Instr := .slotUndefine tag g k
    s.takes i = true ∧ 1 ≤ g ∧ g ≤ 48 ∧ 1 ≤ k ∧ k ≤ 16 ∧ (s.page g).state = .makeup ∧
    (s.page g).occupied k = false := by
  decide +kernel

theorem witness_PlaceAndUnplace_unplace :
    let s : State := room
    let tag : Byte := 1
    let n : Nat := 3
    let run : Run := { page := 1, slots := [1] }
    let i : Instr := .unplace tag n
    let r := s.story n
    s.takes i = true ∧ 1 ≤ n ∧ n ≤ 512 ∧ r.desk < 16 ∧ r.stage = .placed ∧ r.run = some run ∧ 1 ≤ run.page ∧
    run.page ≤ 48 ∧ (s.page run.page).state = .makeup := by
  decide +kernel

theorem witness_ReleaseSendsPage_completion :
    let s : State := room.updPage 1 fun p => { p with state := .releasing }
    let c : InFlight := { story := 3, discard := false, results := fitted }
    let run : Run := { page := 1, slots := [1] }
    let g := run.page
    s.fit.inFlight = some c ∧ c.discard = false ∧ 1 ≤ c.story ∧ c.story ≤ 512 ∧
    (s.story c.story).changed = false ∧ (s.story c.story).stage = .placed ∧ (s.story c.story).run = some run ∧
    1 ≤ g ∧ g ≤ 48 ∧ (s.page g).state = .releasing ∧ (∀ x, PortWaits x s) := by
  exact ⟨by decide +kernel, by decide, by decide, by decide, by decide +kernel, by decide +kernel, by decide +kernel, by decide,
    by decide, by decide +kernel, fun x => by cases x <;> unfold PortWaits <;> decide +kernel⟩

theorem witness_CancelAndReopen_releasing :
    let s : State := roomPage2 fun p => { p with state := .releasing }
    let tag : Byte := 1
    let g : Nat := 2
    let i : Instr := .cancel tag g
    s.takes i = true ∧ 1 ≤ g ∧ g ≤ 48 ∧ (s.page g).state = .releasing := by
  decide +kernel

theorem witness_CancelAndReopen_queued :
    let s : State := roomPage2 fun p => { p with state := .queued }
    let tag : Byte := 1
    let g : Nat := 2
    let i : Instr := .cancel tag g
    s.takes i = true ∧ 1 ≤ g ∧ g ≤ 48 ∧ (s.page g).state = .queued := by
  decide +kernel

theorem witness_CancelAndReopen_setting :
    let s : State := room
    let tag : Byte := 1
    let g : Nat := 2
    let p : Port := .a
    let i : Instr := .cancel tag g
    s.takes i = true ∧ 1 ≤ g ∧ g ≤ 48 ∧ (s.page g).state = .setting ∧ JobAt g p s := by
  exact ⟨by decide +kernel, by decide, by decide, by decide +kernel, room_jobAt⟩

theorem witness_PortSettings_portset :
    let s : State := room
    let tag : Byte := 1
    let port : Nat := 1
    let p : Port := .b
    let lossTime : Option Nat := some 121
    let failover : Option Nat := some 0
    let i : Instr := .portset tag port lossTime failover
    s.takes i = true ∧ portOfCode port = some p ∧ (∀ c ∈ failover, c ≤ 1) ∧ (s.port p).state = .offline := by
  decide +kernel

theorem witness_PortSettings_portclr :
    let s : State := room
    let tag : Byte := 1
    let port : Nat := 0
    let p : Port := .a
    let i : Instr := .portclr tag port
    s.takes i = true ∧ portOfCode port = some p := by
  decide +kernel

theorem witness_PortSettings_portoff_offline :
    let s : State := room
    let tag : Byte := 1
    let port : Nat := 1
    let p : Port := .b
    let i : Instr := .portoff tag port
    s.takes i = true ∧ portOfCode port = some p ∧ (s.port p).state = .offline := by
  decide +kernel

theorem witness_PortSettings_portoff :
    let s : State := room.updPort .b fun v => { v with state := .ready }
    let tag : Byte := 1
    let port : Nat := 1
    let p : Port := .b
    let i : Instr := .portoff tag port
    s.takes i = true ∧ portOfCode port = some p ∧ (s.port p).state ≠ .offline ∧ (s.port p).job = none := by
  decide +kernel

theorem witness_PortSettings_portoff_setting :
    let s : State := room
    let tag : Byte := 1
    let port : Nat := 0
    let p : Port := .a
    let j : PortJob := jobOfTwo
    let i : Instr := .portoff tag port
    s.takes i = true ∧ portOfCode port = some p ∧ (s.port p).state = .setting ∧ (s.port p).job = some j ∧
    1 ≤ j.job.page ∧ j.job.page ≤ 48 := by
  decide +kernel

theorem witness_CodesAndReadyLead_code :
    let s : State := room
    let p : Port := .a
    let j : PortJob := jobOfTwo
    let code : Byte := 1
    let rest : List Byte := [2]
    (s.port p).state = .setting ∧ (s.port p).job = some j ∧ j.phase = .sending ∧
    (s.port p).fifo = code :: rest ∧ (s.port p).lead = true ∧ (s.port p).abort = false := by
  decide +kernel

theorem witness_CodesAndReadyLead_abort :
    let s : State := room.updPort .a fun v => { v with abort := true }
    let p : Port := .a
    (s.port p).abort = true ∧ (s.port p).lead = true := by
  decide +kernel

theorem witness_ResultCodes_done :
    let s : State := awaitingRoom
    let p : Port := .a
    let j : PortJob := { jobOfTwo with remaining := 0, phase := .awaiting }
    let g := j.job.page
    (s.port p).state = .setting ∧ (s.port p).job = some j ∧ j.phase = .awaiting ∧ 1 ≤ g ∧ g ≤ 48 ∧
    (∀ q ∈ s.output.queue, q.page ≠ g) ∧ PortWaits (otherPort p) s := by
  unfold PortWaits
  decide +kernel

theorem witness_ResultCodes_fault :
    let s : State := awaitingRoom
    let p : Port := .a
    let j : PortJob := { jobOfTwo with remaining := 0, phase := .awaiting }
    let g := j.job.page
    (s.port p).state = .setting ∧ (s.port p).job = some j ∧ j.phase = .awaiting ∧ 1 ≤ g ∧ g ≤ 48 := by
  decide +kernel

theorem witness_ResultCodes_ignored :
    let s : State := room
    let p : Port := .a
    ((s.port p).state ≠ .setting ∨ ∀ j ∈ (s.port p).job, j.phase = .sending) := by
  decide +kernel

theorem witness_PortLossMovesJob :
    let s : State := room.updPort .a fun v => { v with lossTimer := some 1 }
    let p : Port := .a
    let j : PortJob := jobOfTwo
    let seconds : Nat := 1
    let g := j.job.page
    let o := otherPort p
    (s.port p).lossTimer = some seconds ∧ seconds ≤ 1 ∧ (s.port p).job = some j ∧ 1 ≤ g ∧ g ≤ 48 ∧ PortWaits o s := by
  unfold PortWaits
  decide +kernel

theorem witness_TerminalCountSwitchesEdition :
    let s : State := { room with clock := { room.clock with count := 1 } }
    s.clock.state = .running ∧ s.clock.count ≤ 1 := by
  decide +kernel

theorem witness_ClockRequests_clkstart :
    let s : State := { room with clock := Clock.reset }
    let tag : Byte := 1
    let edition : Nat := 15
    let countdown : Nat := 65535
    let i : Instr := .clkstart tag edition countdown
    s.takes i = true ∧ 1 ≤ edition ∧ edition ≤ 15 ∧ 1 ≤ countdown ∧ countdown ≤ 65535 ∧ s.clock.state = .stopped := by
  decide +kernel

theorem witness_ClockRequests_clknext :
    let s : State := room
    let tag : Byte := 1
    let countdown : Nat := 1
    let i : Instr := .clknext tag countdown
    s.takes i = true ∧ 1 ≤ countdown ∧ countdown ≤ 65535 ∧ s.clock.edition ≠ 15 ∧ s.clock.state ≠ .stopped := by
  decide +kernel

theorem witness_ClockRequests_clkstop :
    let s : State := room
    let tag : Byte := 1
    let i : Instr := .clkstop tag
    s.takes i = true := by
  decide +kernel

theorem witness_ClockRequests_warn :
    let s : State := room
    let tag : Byte := 1
    let seconds : Nat := 3601
    let i : Instr := .warn tag seconds
    s.takes i = true := by
  decide +kernel

theorem witness_SweepIdentAndUnknown_sweep :
    let s : State := room
    let tag : Byte := 1
    let i : Instr := .sweep tag
    s.takes i = true := by
  decide +kernel

theorem witness_SweepIdentAndUnknown_ident :
    let s : State := room
    let tag : Byte := 1
    let i : Instr := .ident tag
    s.takes i = true := by
  decide +kernel

theorem witness_SweepIdentAndUnknown_unknown :
    let s : State := room
    let tag : Byte := 1
    let kind : List Byte := kindWord "BOGUS"
    let i : Instr := .unknownRequest tag kind
    s.takes i = true := by
  decide +kernel

theorem witness_PowerResetAndRestart_restart :
    let s : State := room
    let tag : Byte := 1
    let i : Instr := .restart tag
    s.takes i = true := by
  decide +kernel

theorem witness_PowerResetAndRestart_discards :
    let s : State := { room with channel := { room.channel with restarting := true } }
    let i : Instr := .ident 1
    s.channel.restarting = true ∧ i.fromHost = true := by
  decide +kernel

theorem witness_PowerResetAndRestart_standing :
    let s : State := room
    (s.channel.restarting = false ∨ s.channel.replies ≠ [] ∨ s.channel.tx ≠ none) := by
  decide +kernel

theorem witness_PowerResetAndRestart_effect :
    let s : State := { room with channel := { room.channel with restarting := true } }
    s.channel.restarting = true ∧ s.channel.replies = [] ∧ s.channel.tx = none ∧ (∀ g ∈ pageIds, PageAgrees g s) := by
  exact ⟨by decide +kernel, by decide +kernel, by decide +kernel, fun g hg => ((recordsLaw_channel room _ room_recordsLaw).2.2.2.2.1 g hg).1⟩

/-! ### The queue and the queue's commands -/

/-- A step takes the command at the front and leaves the rest; with none waiting it idles. -/
theorem test_step_takes_the_front :
    (match step { room with pending := [.warn 1 9, .queue 2] } with
      | .next t => (t.pending, t.clock.threshold)
      | _ => ([], 0)) = ([.queue 2], 9) ∧
    step room = .next room := ⟨by decide +kernel, rfl⟩

/-- No row of the table gives bits, so no word spells a command. -/
theorem test_no_word_spells_a_command : decodeTableWord 0 0 = none ∧ room.withFetchWord 16 1 = room := ⟨rfl, rfl⟩

/-- Power reset frees every record and keeps the input levels, which are the world's. -/
theorem test_power_reset :
    let t := after .powerReset room
    (t.story 2).stage = .free ∧ t.store.free = 8192 ∧ (t.line 1).state = .disabled ∧ (t.line 1).carrier = true ∧
    (t.port .a).state = .offline ∧ (t.port .a).lead = true := by
  decide +kernel

/-! ### Frames (chapter 11) -/

/-- 11.2, worked check: SEEN's characters and their check of 86. -/
theorem test_seen_frame :
    lineFrame (kindWord "SEEN") [] = [255, 83, 69, 69, 78, 32, 32, 32, 32, 0, 0, 86] := by decide +kernel

/-- 11.2, worked check: with 87 instead the frame is discarded with CHECK set and gets no answer; with 86 it is in service. -/
theorem test_seen_frame_received :
    let bad := after (.terminalFrameReceived 0 [255, 83, 69, 69, 78, 32, 32, 32, 32, 0, 0, 87]) room
    let good := after (.terminalFrameReceived 0 [7, 255, 83, 69, 69, 78, 32, 32, 32, 32, 0, 0, 86]) room
    (bad.line 0).latches.check = true ∧ (bad.line 0).answer = none ∧ (bad.line 0).service = none ∧
    (good.line 0).service = some { kind := kindWord "SEEN", cmd := some (.seen 0), stage := .waiting } := by
  decide +kernel

/-- Chapter 11: the absent page of an OUTPUT notice RECOVERED is 0; its fate byte has no meaning. -/
theorem test_recovered_notice_page (fill : Nat → Byte) :
    (Notice.output .b .recovered).body fill = [1, 3, 0, fill 0] := rfl

/-- R178: the catalogued check value of this generator, started from all ones with no inversion, over the digits 1 to 9. -/
theorem test_cyclic_check : cyclicCheck (ascii "123456789") = 0x29B1#16 := by decide +kernel

/-- R190: between the flags 123, 124 and 125 go as 125 and the byte less 32. -/
theorem test_escapes : [122, 123, 124, 125, 126].flatMap escapeByte = [122, 125, 91, 125, 92, 125, 93, 126] := by decide

/-- R180, R181, R179: a fifth request is answered BUSY, a BUSY reply too many sets the link error latch, and so does a frame whose
check is wrong. -/
theorem test_request_arrival :
    let ident := hostFrame 1 9 (kindWord "IDENT") []
    let four : State := { room with channel := { room.channel with intake := List.replicate 4 { cmd := .queue 1, answered := false } } }
    (after (.requestArrival ident) room).channel.intake = [{ cmd := .ident 9, answered := false }] ∧
    (after (.requestArrival ident) four).channel.replies =
      [{ tag := 9, kind := kindWord "IDENT", status := .busy, details := [], overflow := true }] ∧
    (after (.requestArrival ident) busyRoom).channel.linkError = true ∧
    (after (.requestArrival (hostFrame 1 9 (kindWord "IDENT") [] |>.set 1 3)) room).channel.linkError = true := by
  decide +kernel

/-- R183: a reply goes before a notice, and with none waiting the notice goes. -/
theorem test_host_frame_sent :
    let s := (room.raise (.store 9)).serveHost (.queue 1) fun s => (.done, [0], s)
    (after .hostFrameSent s).channel.replies = [] ∧ (after .hostFrameSent s).channel.notices = [.store 9] ∧
    (after .hostFrameSent s).channel.tx = some (hostFrame 2 1 (kindWord "QUEUE") [0, 0]) ∧
    (after .hostFrameSent (after .hostFrameSent s)).channel.notices = [] := by
  decide +kernel

/-- R190: a stray start flag begins a new frame. -/
theorem test_stray_start :
    (after (.hostFrameDiscarded .strayStart) room).channel.rx = some { bytes := [], escape := false } ∧
    (after (.hostFrameDiscarded .badCheck) room).channel.linkError = true := by
  decide +kernel

/-! ### Stories (chapter 1) -/

/-- R9: the lowest FREE number, the tail of its class; a desk above 15 is BAD FIELD. -/
theorem test_create :
    reply (.create 1 (ascii "FIRE-MAIN") 0 0 1) room = some (.done, [0, 9]) ∧
    ((after (.create 1 (ascii "FIRE-MAIN") 0 0 1) room).desk 0).basket = [2, 9, 1] ∧
    reply (.create 1 (ascii "FIRE-MAIN") 16 0 1) room = some (.badField, []) := by
  decide +kernel

/-- R10: a line that already holds a story is answered STATE; a DIM line wakes and holds its new story. -/
theorem test_new :
    answer (.new 1 (ascii "COUNCIL") 0 0) 1 room = some (.state, []) ∧
    ((after (.new 4 (ascii "COUNCIL") 0 0) room).line 4).held = some 9 := by
  decide +kernel

/-- R7 and chapter 1's worked sequence: 256 free blocks are not below 256, 255 are. -/
theorem test_text_append_store_low :
    let s (free : Nat) : State := { room with store := { fresh := 8192 - free, returned := [], low := false } }
    let grow : Instr := .textAppend 1 1 none (List.replicate 4 (List.replicate 80 65))
    (after grow (s 257)).store.low = false ∧ (after grow (s 256)).store.low = true ∧
    (after grow (s 256)).channel.notices = [.store 255] := by
  decide +kernel

/-- R6: a line list too long for 32,768 characters is TOO LONG, one too long for the store STORE FULL, and the story stands. -/
theorem test_text_replace_refused :
    let full : State := { room with store := { fresh := 8192, returned := [], low := true } }
    reply (.textReplace 1 1 none (List.replicate 405 (List.replicate 80 65))) room = some (.tooLong, []) ∧
    reply (.textReplace 1 1 none (List.replicate 4 (List.replicate 80 65))) full = some (.storeFull, []) ∧
    (after (.textReplace 1 1 none (List.replicate 4 (List.replicate 80 65))) full).story 1 = full.story 1 := by
  decide +kernel

/-- R7: 511 free blocks leave a set latch, 512 clear it. -/
theorem test_text_replace_store_relief :
    let s (free : Nat) : State := { room with store := { fresh := 8192 - free, returned := [], low := true } }
    (after (.textReplace 1 1 none []) (s 510)).store.low = true ∧
    (after (.textReplace 1 1 none []) (s 511)).store.low = false := by
  decide +kernel

/-- R14: f+k may not exceed the line count. -/
theorem test_text_replace_range :
    reply (.textReplaceRange 1 1 none 0 2 []) room = some (.badField, []) ∧
    ((after (.textReplaceRange 1 1 none 0 1 [ascii "A", ascii "B"]) room).story 1).text = [ascii "A", ascii "B"] := by
  decide +kernel

/-- R15: f may equal the line count, and no more; story numbers end at 512. -/
theorem test_read :
    reply (.read 1 1 0) room = some (.done, [0, 1, 0, 0, 0, 1, 0, 0, 0, 1, 5] ++ ascii "HELLO") ∧
    reply (.read 1 1 1) room = some (.done, [0, 1, 0, 0, 0, 1, 0, 1, 0, 0]) ∧
    reply (.read 1 1 2) room = some (.badField, []) ∧ reply (.read 1 512 0) room = some (.noSuch, []) ∧
    reply (.read 1 513 0) room = some (.badField, []) ∧ reply (.read 1 0 0) room = some (.badField, []) := by
  decide +kernel

/-- R17: PURGE takes SPIKED and SET stories, and no story in BASKET. -/
theorem test_purge :
    reply (.purge 1 4) room = some (.done, [1]) ∧ ((after (.purge 1 4) room).desk 0).spikes = [] ∧
    ((after (.purge 1 6) room).page 3).slot 1 = some { depth := 100, measure := 144, occupant := none } ∧
    reply (.purge 1 1) room = some (.stage, []) := by
  decide +kernel

/-! ### Desks (chapter 2) -/

/-- R28: a story routed within its own desk goes to the tail of its class; a held story is HELD, with its holder. -/
theorem test_route :
    ((after (.hostRoute 1 7 0) room).desk 0).basket = [2, 1, 7] ∧ ((after (.hostRoute 1 7 0) room).desk 1).basket = [8] ∧
    reply (.hostRoute 1 2 1) room = some (.held, [1, 1]) ∧ reply (.hostRoute 1 8 0) room = some (.held, [2, 2, 0, 3, 0, 1]) := by
  decide +kernel

/-- R30: a REPORTER, here one that wakes, routes its own desk's stories. -/
theorem test_terminal_route :
    answer (.terminalRoute 4 1 3) 4 room = some (.done, [0, 1, 3]) ∧ answer (.terminalRoute 4 7 3) 4 room ≠ some (.done, [0, 7, 3]) := by
  decide +kernel

/-- R31: an arrival at the tail of the new class, with the urgent count; a priority above 2 is BAD FIELD. -/
theorem test_priority :
    (after (.hostPriority 1 1 2) room).desk 0 = { basket := [1, 2], spikes := [4], urgent := 2 } ∧
    (after (.terminalPriority 1 0) room).desk 0 = { basket := [1, 2], spikes := [4], urgent := 0 } ∧
    reply (.hostPriority 1 1 3) room = some (.badField, []) := by
  decide +kernel

/-- R25, R33: off the basket and the fit queue, onto the tail of the spike list. -/
theorem test_spike :
    let t := after (.terminalSpike 1 2) room
    t.desk 0 = { basket := [1], spikes := [4, 2], urgent := 0 } ∧ t.fit.queue = [7, 8] ∧ (t.line 1).held = none ∧
    reply (.hostSpike 1 3) room = some (.stage, []) ∧ answer (.terminalSpike 4 1) 4 room = some (.denied, []) := by
  decide +kernel

/-- R35. -/
theorem test_unspike :
    let t := after (.unspike 1 4) room
    t.desk 0 = { basket := [2, 1, 4], spikes := [], urgent := 1 } ∧ t.fit.queue = [2, 7, 8, 4] := by
  decide +kernel

/-- Chapter 2's worked sequence: a KILL past MAKEUP is DENIED until the override is armed, then the port's job is cancelled. -/
theorem test_kill_with_override :
    let t := after (.terminalKill 0 5) (room.updLine 0 fun l => { l with override := true })
    answer (.terminalKill 0 5) 0 room = some (.denied, []) ∧ (t.page 2).state = .makeup ∧ (t.story 5).stage = .spiked ∧
    (t.port .a).abort = true ∧ (t.port .a).fifo = [] ∧ (t.port .a).state = .ready ∧ (t.line 0).override = false ∧
    (t.page 2).job = some { total := 17, remaining := 2, outcome := .cancelled, restarts := 0, port := some .a } := by
  decide +kernel

/-- R37 needs no override; R123: the computation in flight is marked to be discarded. -/
theorem test_host_kill :
    let t := after (.hostKill 1 3) room
    (t.page 1).fit = .fits ∧ t.fit.inFlight.map (fun c => c.discard) = some true ∧ (t.desk 0).spikes = [4, 3] := by
  decide +kernel

/-- R27: ARM is SLOT's alone. -/
theorem test_arm :
    ((after (.arm 0) room).line 0).override = true ∧ answer (.arm 1) 1 room = some (.denied, []) := by
  decide +kernel

/-- R39: both lists, from a position up to the length. -/
theorem test_basket :
    ((reply (.basket 1 0 1 1) room).map fun r => (r.1, r.2.take 6)) = some (.done, [0, 1, 0, 1, 0, 1]) ∧
    reply (.basket 1 0 1 2) room = some (.badField, []) ∧ reply (.basket 1 0 2 0) room = some (.badField, []) := by
  decide +kernel

/-! ### Holds (chapter 3) -/

/-- R44, R45: HELD names the holder; a line that holds another story is answered STATE; a page past MAKEUP is FROZEN or the wrong
stage. -/
theorem test_open :
    reply (.hostOpen 1 8) room = some (.held, [2, 2, 0, 3, 0, 1]) ∧ answer (.terminalOpen 1 1) 1 room = some (.state, []) ∧
    answer (.terminalOpen 0 1) 0 room = some (.done, [0, 1, 0, 0, 0, 1]) ∧
    ((after (.terminalOpen 0 1) room).line 0).window = some { first := 0, shown := 1 } := by
  decide +kernel

/-- R47: CLOSE sends the home screen and empties the window record. -/
theorem test_close :
    let t := after (.terminalClose 1) room
    (t.line 1).held = none ∧ (t.line 1).window = none ∧ (t.story 2).holder = .absent ∧
    answer (.terminalClose 0) 0 room = some (.state, []) := by
  decide +kernel

/-- R48: the channel closes its own hold, and no other. -/
theorem test_host_close :
    reply (.hostClose 1 7) room = some (.done, []) ∧ reply (.hostClose 1 2) room = some (.state, []) ∧
    reply (.hostClose 1 9) room = some (.noSuch, []) ∧ reply (.hostClose 1 513) room = some (.badField, []) := by
  decide +kernel

/-- R51: FREE names the holder it withdraws, and needs one. -/
theorem test_free :
    reply (.free 1 8) room = some (.done, [2, 2, 0, 3, 0, 1]) ∧ ((after (.free 1 2) room).line 1).withdrawn = some 2 ∧
    reply (.free 1 1) room = some (.state, []) := by
  decide +kernel

/-- R57: the window is clamped to 10 to 600. -/
theorem test_holdtime :
    [0, 9, 10, 11, 599, 600, 601, 65535].map (fun v => (after (.holdtime 1 v) room).orphanWindow) =
      [10, 10, 10, 11, 599, 600, 600, 600] := by
  decide +kernel

/-- R54: the orphan of line 2, with a second left, is released. -/
theorem test_orphan_expiry :
    let t := after (.orphanExpiry 8) room
    (t.story 8).holder = .absent ∧ (t.line 2).held = none ∧ t.channel.notices = [.orphan 8 3 2] := by
  decide +kernel

/-! ### Lines (chapter 4) -/

/-- R62: a dim time of 0 stays 0, others go to 60 to 3,600; speed and model want a DISABLED line. -/
theorem test_lineset :
    [0, 1, 59, 60, 3600, 3601].map
      (fun v => ((after (.lineset 1 0 none none (some v) none none) room).line 0).dimTime) = [0, 60, 60, 60, 3600, 3600] ∧
    reply (.lineset 1 0 (some 1200) none none none none) room = some (.state, []) ∧
    reply (.lineset 1 31 (some 300) none none none none) room = some (.badField, []) ∧
    ((after (.lineset 1 31 (some 1200) (some 1) none (some 0) (some 1)) room).line 31).speed = 1200 := by
  decide +kernel

/-- R63, R67: without carrier a line goes to LOST, with it to IDLE. -/
theorem test_lineon :
    let lit := room.updLine 31 fun l => { l with carrier := true }
    reply (.lineon 1 31) room = some (.done, [5]) ∧ (after (.lineon 1 31) room).channel.notices = [.line 31 .lost 0] ∧
    reply (.lineon 1 31) lit = some (.done, [1]) ∧ reply (.lineon 1 0) room = some (.state, []) ∧
    reply (.lineon 1 32) room = some (.badField, []) := by
  decide +kernel

/-- R52, R64: LINEOFF releases a live hold and an orphan alike. -/
theorem test_lineoff :
    ((after (.lineoff 1 1) room).story 2).holder = .absent ∧ ((after (.lineoff 1 2) room).story 8).holder = .absent ∧
    (after (.lineoff 1 2) room).channel.notices = [.line 2 .disabled 0] ∧ (after (.lineoff 1 1) room).channel.notices = [] := by
  decide +kernel

/-- R70: the five latches are reported, then cleared. -/
theorem test_linestat :
    let s := room.updLine 0 fun l => { l with latches := { l.latches with overrun := true } }
    ((reply (.linestat 1 0) s).map fun r => r.2.drop (r.2.length - 5)) = some [1, 1, 0, 1, 1] ∧
    ((after (.linestat 1 0) s).line 0).latches = .clear := by
  decide +kernel

/-- R53, R65: the hold of a READY line becomes an orphan of its user at the window in force. -/
theorem test_carrier_drop :
    let t := after (.carrierDrop 1) room
    (t.line 1).state = .lost ∧ (t.story 2).holder = .orphan 1 2 120 ∧ t.channel.notices = [.line 1 .lost 2] ∧
    ((after (.carrierReturn 2) room).line 2).state = .idle ∧ ((after (.carrierReturn 2) room).story 8).holder = .orphan 2 3 1 := by
  decide +kernel

/-- R69: each fault has its latch. -/
theorem test_terminal_frame_discarded :
    [LineFault.framing, .overrun, .longFrame, .check].map
      (fun f => ((after (.terminalFrameDiscarded 0 f) room).line 0).latches) =
      [{ Latches.clear with framing := true }, { Latches.clear with overrun := true }, { Latches.clear with longFrame := true },
       { Latches.clear with check := true }] := by
  decide +kernel

/-- R82: answer, then display, then status. -/
theorem test_line_frame_sent :
    let s := after (.terminalClose 1) room
    ((after (.lineFrameSent 1) s).line 1).answer = none ∧ ((after (.lineFrameSent 1) s).line 1).service = none ∧
    ((after (.lineFrameSent 1) s).line 1).display.isSome = true := by
  decide +kernel

/-- R74: user numbers run from 1 to 9,999. -/
theorem test_signon :
    [0, 1, 9999, 10000].map (fun u => ((after (.signon 5 u) room).line 5).state) = [.idle, .signing, .signing, .idle] ∧
    answer (.signon 5 10000) 5 room = some (.badField, []) ∧ answer (.signon 0 7) 0 room = some (.state, []) := by
  decide +kernel

/-- R76 and chapter 3's worked sequence: the orphan's user resumes it at another line. -/
theorem test_grant_resumes :
    let s := room.updLine 3 fun l => { l with signonUser := some 3 }
    let t := after (.verdictGrant 1 3 1 1) s
    reply (.verdictGrant 1 3 1 1) s = some (.done, [0, 0, 0, 8]) ∧ (t.line 3).held = some 8 ∧ (t.line 2).held = none ∧
    (t.story 8).holder = .line 3 ∧ (t.line 3).answer.map (fun a => a.details) = some [1, 1, 0, 8, 0, 0] := by
  decide +kernel

/-- R77, R78: a DENY ends the sign-on; after a timeout a verdict is TOO LATE. -/
theorem test_deny_and_late :
    ((after (.verdictDeny 1 3) room).line 3).outcome = .denied ∧
    reply (.verdictDeny 1 3) (after (.signonTimeout 3) room) = some (.tooLate, []) ∧
    reply (.verdictDeny 1 5) room = some (.state, []) := by
  decide +kernel

/-- R79. -/
theorem test_signoff :
    let t := after (.signoff 1) room
    (t.line 1).state = .idle ∧ (t.line 1).display = some .blank ∧ (t.story 2).holder = .absent ∧ (t.line 1).user = none := by
  decide +kernel

/-! ### Screens, flashes and lamps (chapter 5) -/

/-- R87: a window may start at the line count, and no later; a line that holds nothing is answered STATE. -/
theorem test_window :
    answer (.window 1 (some 1)) 1 room = some (.done, [0, 1, 0]) ∧ answer (.window 1 (some 2)) 1 room = some (.badField, []) ∧
    answer (.window 0 none) 0 room = some (.state, []) := by
  decide +kernel

/-- R88, R89: RETURN by the window record, and one that reaches past the line count. -/
theorem test_return :
    answer (.ret 1 none [ascii "A", ascii "B"]) 1 room = some (.done, [0, 1, 0, 2]) ∧
    answer (.ret 1 (some (0, 2)) []) 1 room = some (.badField, []) := by
  decide +kernel

/-- R92: desk 15 and the end of its basket are in range. -/
theorem test_home :
    answer (.home 0 (some 15) (some 0)) 0 room = some (.done, [15, 0, 0]) ∧
    answer (.home 0 none (some 2)) 0 room = some (.done, [0, 0, 2]) ∧
    answer (.home 0 none (some 3)) 0 room = some (.badField, []) ∧
    answer (.home 0 (some 16) none) 0 room = some (.badField, []) := by
  decide +kernel

/-- R97. -/
theorem test_seen :
    answer (.seen 0) 0 room = some (.done, [1]) ∧ (after (.seen 0) room).flashes.list.map (fun e => e.unseen) = [[4]] := by
  decide +kernel

/-- R95, R96: a full list drops its oldest, and 255 is followed by 1; texts run from 1 to 60 characters. -/
theorem test_flash :
    let s : State := { room with flashes :=
      { list := (List.range 8).map fun n => { number := 254 - n, text := ascii "A", mask := 1, unseen := [] }, next := 255 } }
    reply (.flash 1 (List.replicate 60 65) 1) s = some (.done, [255, 247, 3]) ∧
    (after (.flash 1 (List.replicate 60 65) 1) s).flashes.next = 1 ∧
    reply (.flash 1 (List.replicate 61 65) 1) s = some (.badField, []) ∧ reply (.flash 1 [] 1) s = some (.badField, []) ∧
    reply (.flash 1 (ascii "A") 0) s = some (.badField, []) ∧ ((after (.flash 1 (ascii "A") 1) s).line 4).state = .ready := by
  decide +kernel

/-- R98, R100: BASKET lights for a desk with copy; a DISABLED line stays dark; the ranges end at 31 and 7. -/
theorem test_lamp :
    reply (.lamp 1 0 2) room = some (.done, [1]) ∧ reply (.lamp 1 31 1) room = some (.done, [0]) ∧
    reply (.lamp 1 31 7) room = some (.done, [0]) ∧ reply (.lamp 1 32 1) room = some (.badField, []) ∧
    reply (.lamp 1 0 8) room = some (.badField, []) := by
  decide +kernel

/-! ### Copyfitting (chapter 6) -/

/-- The tables of the worked cases: paragraph space 6, and letters of 50, 70, 60, 50, 45, 34, 40 and 30 units. -/
def fitRoom (text : List CopyLine) (run : Option Run) (slots : List Nat) : State :=
  let s := after (.widths 1 0 65 [50, 70, 60, 50, 45, 34, 40, 30])
    { State.reset with fit := { State.reset.fit with styles := State.reset.fit.styles.set 0 { Style.reset with paraSpace := 6 } } }
  let s := s.setStory 1 { copy 0 with stage := if run.isSome then .placed else .basket, text := text, run := run }
  s.setPage 1 { Page.shut with
    state := .makeup
    slots := Vector.ofFn fun k => slots[k.val]?.map fun d => { depth := d, measure := 144, occupant := some (1, k.val + 1) } }

/-- The worked paragraph: seven words of 100, 140, 60, 200, 90, 170 and 40 units. -/
def paragraph : List CopyLine := [1 :: ascii "AA BB C DDDD EE FFFFF G"]

/-- The worked forced break: a word of 3,000 fine units, then one of twenty characters of 600 each, then one of 1,000. -/
def breaking : List CopyLine := [1 :: ascii "HHHHH", 1 :: ascii "HHHHHHHHHHHHHHHHHHHH D"]

/-- Chapter 6, worked case: unplaced, and on slots of 50 and 100. -/
theorem test_fit_paragraph :
    (fitRoom paragraph none []).fitResults 1 =
      { lines := 3, linesSet := 3, overset := 0, perSlot := [3], depth := 72, underset := none, forcedBreaks := 0,
        limit := false } ∧
    (fitRoom paragraph (some { page := 1, slots := [1, 2] }) [50, 100]).fitResults 1 =
      { lines := 3, linesSet := 3, overset := 0, perSlot := [2, 1], depth := 72, underset := some 78, forcedBreaks := 0,
        limit := false } := by
  decide +kernel

/-- Chapter 6, worked case: a forced break, a passed slot, and overset where slot 3 is 40 deep. -/
theorem test_fit_forced_break :
    (fitRoom breaking (some { page := 1, slots := [1, 2, 3] }) [30, 20, 60]).fitResults 1 =
      { lines := 3, linesSet := 3, overset := 0, perSlot := [1, 0, 2], depth := 78, underset := some 38, forcedBreaks := 1,
        limit := false } ∧
    (fitRoom breaking (some { page := 1, slots := [1, 2, 3] }) [30, 20, 40]).fitResults 1 =
      { lines := 3, linesSet := 2, overset := 1, perSlot := [1, 0, 1], depth := 78, underset := some 0, forcedBreaks := 1,
        limit := false } := by
  decide +kernel

/-- R105: a leading below the size kept is BAD FIELD; FROZEN while a page is in type; a CURRENT story in BASKET goes STALE. -/
theorem test_style :
    let f : StyleFields := { font := none, size := none, leading := some 20, indent := none, wordSpace := none,
                             paraSpace := none, measure := none }
    reply (.style 1 31 { f with leading := some 19 }) calmRoom = some (.badField, []) ∧
    reply (.style 1 31 f) room = some (.frozen, []) ∧
    (after (.style 1 31 f) calmRoom).fit.queue = [2, 7, 8, 1] := by
  decide +kernel

/-- R106: a width above 72 is stored as 72 and counted; the codes run from 33 to 126. -/
theorem test_widths :
    reply (.widths 1 7 125 [72, 73]) calmRoom = some (.done, [7, 125, 2, 1, 0, 1, 1]) ∧
    reply (.widths 1 7 126 [72, 73]) calmRoom = some (.badField, []) := by
  decide +kernel

/-- R121, R122: one computation at a time; its results are written at completion and the page is judged. -/
theorem test_fit_completion :
    let t := after .fitCompletion room
    (t.story 3).fit = .current ∧ (t.story 3).results = some fitted ∧ (t.page 1).fit = .fits ∧
    t.channel.notices = [.fit 1 .fits] ∧ (after .fitTake t).fit.queue = [7, 8] ∧ (after .fitTake room).fit.queue = [2, 7, 8] := by
  decide +kernel

/-! ### Pages (chapter 7) -/

/-- R129: the lowest CLOSED id, tolerance 12 or clamped to 48. -/
theorem test_pageopen :
    reply (.pageopen 1 14 none none) room = some (.done, [4, 1, 12]) ∧
    reply (.pageopen 1 999 (some 15) (some 49)) room = some (.done, [4, 15, 48]) ∧
    reply (.pageopen 1 1000 none none) room = some (.badField, []) ∧
    reply (.pageopen 1 1 (some 16) none) room = some (.badField, []) := by
  decide +kernel

/-- R130: a depth of 24 and a measure of 720 are in range; an occupied slot is not undefined. -/
theorem test_slot :
    reply (.slotDefine 1 1 16 24 720) room = some (.done, [1, 0, 24, 2, 208, 0, 0, 0]) ∧
    reply (.slotDefine 1 1 16 23 720) room = some (.badField, []) ∧ reply (.slotDefine 1 1 17 24 720) room = some (.badField, []) ∧
    reply (.slotUndefine 1 1 1) room = some (.state, []) ∧ reply (.slotUndefine 1 1 2) room = some (.done, [0]) := by
  decide +kernel

/-- R131, R132: a story placed out of the basket, and back to its tail. -/
theorem test_place_and_unplace :
    let t := after (.place 1 1 1 [2]) room
    (t.page 1).slot 2 = some { depth := 48, measure := 72, occupant := some (1, 1) } ∧ (t.desk 0).basket = [2] ∧
    (t.story 1).fit = .stale ∧ reply (.place 1 1 1 [1]) room = some (.state, []) ∧
    ((after (.unplace 1 3) room).desk 0).basket = [2, 1, 3] ∧ ((after (.unplace 1 3) room).page 1).fit = .fits := by
  decide +kernel

/-- R135 to R137: an empty slot is EMPTY, a held story HELD, and a page that fits is queued. -/
theorem test_release :
    let held := filledRoom.updStory 3 fun r => { r with holder := .channel }
    reply (.release 1 1 2 1) room = some (.empty, []) ∧ reply (.release 1 1 2 1) held = some (.held, [3, 0]) ∧
    reply (.release 1 1 2 1) (filledRoom.updPage 1 fun p => { p with fit := .fits }) = some (.done, [3]) ∧
    (after (.release 1 1 2 1) filledRoom).channel.notices = [.release 1 .queued] := by
  decide +kernel

/-- R140: a page in type is cancelled at its port. -/
theorem test_cancel :
    let t := after (.cancel 1 2) room
    reply (.cancel 1 2) room = some (.done, [4]) ∧ (t.story 5).stage = .placed ∧ (t.port .a).state = .ready ∧
    reply (.cancel 1 1) room = some (.state, []) := by
  decide +kernel

/-- R141, R142: a SET page reopens with its story STALE, and is shut only when nothing stands on it. -/
theorem test_reopen_and_shut :
    let t := after (.reopen 1 3) room
    (t.page 3).state = .makeup ∧ (t.story 6).stage = .placed ∧ (t.story 6).fit = .stale ∧ (t.page 3).fit = .pending ∧
    reply (.pageshut 1 3) room = some (.state, []) ∧ reply (.pageshut 1 3) (after (.purge 2 6) room) = some (.done, []) := by
  decide +kernel

/-! ### Output (chapter 8) -/

/-- 8.2, worked count: page 9's story of two lines makes 30 codes, A translated to two. -/
theorem test_job_total :
    let s := State.reset.setStory 50 { copy 0 with
      stage := .setting, run := some { page := 9, slots := [1] }
      text := [1 :: ascii "TO " ++ [3, 66] ++ ascii "SEA" ++ [2], ascii "WORL" ++ 5 :: ascii "D"] }
    let s := s.setPage 9 { pageOf 50 .queued with
      slots := Page.shut.slots.set 0 (some { depth := 3600, measure := 720, occupant := some (50, 1) }) }
    (after (.xlate 1 65 [[7, 8]]) (s.setPage 9 Page.shut)).entry 65 = [7, 8] ∧
    { s with output := { s.output with xlate := s.output.xlate.set 65 [7, 8] } }.jobTotal 9 = 30 := by
  decide +kernel

/-- R146: an XLATE may not cover the space, nor pass 127. -/
theorem test_xlate_ranges :
    reply (.xlate 1 31 [[1], [2]]) calmRoom = some (.badField, []) ∧ reply (.xlate 1 31 [[1]]) calmRoom = some (.done, [31, 1]) ∧
    reply (.xlate 1 127 [[1], [2]]) calmRoom = some (.badField, []) ∧ reply (.xlate 1 65 [[1]]) room = some (.frozen, []) := by
  decide +kernel

/-- R152: the loss time is clamped to 5 to 120. -/
theorem test_portset :
    [0, 4, 5, 120, 121, 255].map (fun v => ((after (.portset 1 1 (some v) none) room).port .b).lossTime) =
      [5, 5, 5, 120, 120, 120] ∧
    reply (.portset 1 0 none none) room = some (.state, []) ∧ reply (.portset 1 2 none none) room = some (.badField, []) := by
  decide +kernel

/-- R150, R153: a port brought on takes the job nearest the head that it may. -/
theorem test_porton :
    let q (c : PortChoice) : Job := { page := 3, choice := c, total := 7, restarts := 0 }
    reply (.porton 1 1) (room.setQueue [q .b]) = some (.done, [2, 3]) ∧ reply (.porton 1 1) (room.setQueue [q .a]) = some (.done, [1, 0]) := by
  decide +kernel

/-- R154. -/
theorem test_portoff :
    reply (.portoff 1 0) room = some (.done, [2]) ∧ ((after (.portoff 1 0) room).port .a).abort = true ∧
    reply (.portoff 1 1) room = some (.done, [0]) := by
  decide +kernel

/-- R162, R163. -/
theorem test_portclr_and_resume :
    let s := room.updPort .b fun v => { v with state := .recovered, lossLatch := true }
    reply (.portclr 1 1) s = some (.done, [0]) ∧ ((after (.portclr 1 1) s).port .b).lossLatch = false ∧
    reply (.resume 1 1) s = some (.done, [1, 0]) ∧ reply (.resume 1 1) room = some (.state, []) := by
  decide +kernel

/-- R155: the job's last code starts the wait for its result. -/
theorem test_code_accepted :
    let s := room.updPort .a fun v => { v with fifo := [7], job := some { jobOfTwo with remaining := 1 } }
    ((after (.codeAccepted .a) s).port .a).job.map (fun j => (j.phase, j.remaining)) = some (.awaiting, 0) ∧
    ((after (.codeAccepted .a) s).port .a).lossTimer = some 30 ∧ ((after (.codeAccepted .a) room).port .a).codeOut = some 1 := by
  decide +kernel

/-- R158: the abort code is 253. -/
theorem test_abort_code :
    ((after (.abortCodeSent .a) (room.updPort .a fun v => { v with abort := true })).port .a).codeOut = some 253 := by
  decide +kernel

/-- R159: the lead's fall starts the loss timer, its rise stops it. -/
theorem test_ready_lead :
    let s := after (.readyLeadFall .a) room
    (s.port .a).lossTimer = some 30 ∧ ((after (.readyLeadRise .a) s).port .a).lossTimer = none := by
  decide +kernel

/-- R156, R157, R192. -/
theorem test_results :
    let t := after (.resultDone .a) awaitingRoom
    (t.page 2).state = .set ∧ (t.page 2).margin = some { edition := 1, seconds := 601 } ∧ (t.story 5).stage = .set ∧
    ((after (.resultFault .a) awaitingRoom).port .a).state = .halted ∧
    ((after (.resultFault .a) awaitingRoom).story 5).stage = .placed := by
  refine ⟨by decide +kernel, by decide +kernel, by decide +kernel, by decide +kernel, by decide +kernel⟩

/-- Chapter 8's worked sequence: with failover on, the lost job begins again at the READY port. -/
theorem test_port_loss :
    let s := (room.updPort .a fun v => { v with failover := true, lossTimer := some 1 }).updPort .b fun v => { v with state := .ready }
    let t := after (.portLoss .a) s
    (t.port .a).state = .lost ∧ (t.port .b).job.map (fun j => (j.remaining, j.job.restarts)) = some (17, 1) ∧
    t.channel.notices = [.output .a (.lost 2 .failover), .output .b (.failover 2)] := by
  decide +kernel

/-! ### The clock (chapter 9) -/

/-- R168, R54, R159: the tick that brings the countdown to the threshold warns, and the orphan with a second left goes. -/
theorem test_seconds_tick :
    let t := after .secondsTick room
    t.clock.count = 600 ∧ t.clock.fired = true ∧ (t.line 3).state = .idle ∧ (t.story 8).holder = .absent ∧
    t.channel.notices = [.edition .near 1 600, .orphan 8 3 2] := by
  decide +kernel

/-- R169: OVERDUE, or the next edition. -/
theorem test_terminal_count :
    let s : State := { room with clock := { room.clock with count := 1 } }
    (after .terminalCount s).clock.state = .overdue ∧
    (after .terminalCount { s with clock := { s.clock with next := some 3600 } }).clock =
      { state := .running, edition := 2, count := 3600, next := none, threshold := 600, fired := false } := by
  decide +kernel

/-- R172: editions 1 to 15, and a STOPPED clock alone. -/
theorem test_clkstart :
    let s : State := { room with clock := Clock.reset }
    reply (.clkstart 1 16 1) s = some (.badField, []) ∧ reply (.clkstart 1 15 0) s = some (.badField, []) ∧
    (after (.clkstart 1 15 600) s).channel.notices = [.edition .near 15 600] ∧ reply (.clkstart 1 1 1) room = some (.state, []) := by
  decide +kernel

/-- R173, R174: an OVERDUE clock switches at once; edition 15 has no next. -/
theorem test_clknext_and_clkstop :
    let late : State := { room with clock := { room.clock with state := .overdue, edition := 3, count := 200 } }
    (after (.clknext 1 1800) late).clock.edition = 4 ∧ (after (.clknext 1 1800) room).clock.next = some 1800 ∧
    reply (.clknext 1 9) { late with clock := { late.clock with edition := 15 } } = some (.limit, []) ∧
    (after (.clkstop 1) late).clock.count = 0 := by
  decide +kernel

/-- R176: the threshold is clamped to 3,600. -/
theorem test_warn :
    [0, 600, 3600, 3601].map (fun v => (after (.warn 1 v) room).clock.threshold) = [0, 600, 3600, 3600] ∧
    (after (.warn 1 601) room).channel.notices = [.edition .near 1 601] := by
  decide +kernel

/-! ### The channel's own requests (chapter 10) -/

/-- R186: SWEEP clears the two flags once it has reported them. -/
theorem test_sweep :
    let s : State := { room with channel := { room.channel with linkError := true, noticesLost := true } }
    ((reply (.sweep 1) s).map fun r => r.2.drop (r.2.length - 2)) = some [1, 1] ∧
    (after (.sweep 1) s).channel.linkError = false ∧ (after (.sweep 1) s).channel.noticesLost = false := by
  decide +kernel

/-- R187. -/
theorem test_ident : ((reply (.ident 1) room).map fun r => r.2.take 4) = some [12, 128, 1, 32] := by decide +kernel

/-- R188: what waits behind a RESTART is answered BUSY, in order, and what comes later is discarded. -/
theorem test_restart :
    let s : State := { room with channel := { room.channel with
      intake := [{ cmd := .restart 1, answered := false }, { cmd := .queue 2, answered := false }] } }
    (after (.restart 1) s).channel.replies.map (fun r => (r.tag, r.status)) = [(1, .done), (2, .busy)] ∧
    (after (.ident 3) (after (.restart 1) s)).channel = (after (.restart 1) s).channel := by
  decide +kernel

/-- R188, R189, R84, R144, R166: what a RESTART leaves. -/
theorem test_restart_takes_effect :
    let t := after .restartTakesEffect { room with channel := { room.channel with restarting := true } }
    (t.story 2).holder = .absent ∧ (t.line 0).state = .disabled ∧ (t.line 0).dimTime = 900 ∧ t.flashes.list = [] ∧
    (t.page 2).state = .makeup ∧ (t.page 3).state = .set ∧ (t.port .a).state = .offline ∧ (t.port .a).abort = true ∧
    t.clock = room.clock ∧ t.fit.queue = [2, 7, 8, 3] ∧ t.channel.restarting = false := by
  decide +kernel

end Sys2Proof.Tests
end

/-! Holds on open copy (chapter 3): the host's CLOSE, and the orphan window that HOLDTIME sets. -/

namespace Sys2Proof.Machine

/-! ### A host request refused -/

/-- A request its block takes and refuses: the refusal is its reply, with no details, and no record moves (R182). -/
theorem host_refused {s : State} {i : Instr} {act : State → Verdict} {st : Status} (htakes : s.takes i = true)
    (hact : act (s.offer i) = refuse (s.offer i) st) :
    ∃ t, hostStep i act s = .next t ∧ Raised [] s t ∧ Replied i st [] s t ∧ OnlyTouches [.channel] s t := by
  obtain ⟨t, hstep, hreply, hraised, htouch, _⟩ :=
    host_served (ns := []) htakes hact rfl (.refl [.channel] _) (by decide)
  exact ⟨t, hstep, hraised, hreply, htouch⟩

/-! ### The host's CLOSE (R48) -/

theorem State.story_congr {s t : State} (h : t.stories = s.stories) (m : Nat) : t.story m = s.story m := by
  cases m with
  | zero => rfl
  | succ j => simp only [State.story, h]

section Close
variable {s : State} {n : Nat}

theorem State.releaseHold_of_channel (h : (s.story n).holder = .channel) :
    s.releaseHold n = s.updStory n fun r => { r with holder := .absent } := by
  simp only [State.releaseHold, h]

theorem State.hostClose_of_bad_number (h : n < 1 ∨ 512 < n) : s.hostClose n = refuse s .badField := by
  have hbad : ¬ storyOk n = true := by rw [storyOk_iff]; omega
  simp [State.hostClose, hbad]

theorem State.hostClose_of_free (hn : 1 ≤ n ∧ n ≤ 512) (h : (s.story n).stage = .free) :
    s.hostClose n = refuse s .noSuch := by
  simp [State.hostClose, (storyOk_iff n).2 hn, h]

theorem State.hostClose_of_not_channel (h : (s.story n).stage ≠ .free) (hc : (s.story n).holder ≠ .channel) :
    s.hostClose n = refuse s .state := by
  simp [State.hostClose, (storyOk_iff n).2 (s.story_range_of_stage h), h, hc]

theorem State.hostClose_of_channel (h : (s.story n).stage ≠ .free) (hc : (s.story n).holder = .channel) :
    s.hostClose n = (.done, [], s.updStory n fun r => { r with holder := .absent }) := by
  simp [State.hostClose, (storyOk_iff n).2 (s.story_range_of_stage h), h, hc, State.releaseHold_of_channel]

variable {tag : Byte} (htakes : s.takes (.hostClose tag n) = true)
include htakes

theorem exec_hostClose_refused {st : Status}
    (hact : (s.offer (.hostClose tag n)).hostClose n = refuse (s.offer (.hostClose tag n)) st) :
    ∃ t, exec (.hostClose tag n) s = .next t ∧ Raised [] s t ∧
      Replied (.hostClose tag n) st [] s t ∧ OnlyTouches [.channel] s t :=
  host_refused (act := fun s => s.hostClose n) htakes hact

theorem exec_hostClose_released (hstage : (s.story n).stage ≠ .free) (hheld : (s.story n).holder = .channel) :
    ∃ t, exec (.hostClose tag n) s = .next t ∧ Raised [] s t ∧
      Replied (.hostClose tag n) .done [] s t ∧ OnlyTouches [.stories, .channel] s t ∧
      t.story n = { s.story n with holder := .absent } ∧ SameStoriesBut n s t := by
  have hfound (m : Nat) : (s.offer (.hostClose tag n)).story m = s.story m := (s.offer_touches _).story m
  obtain ⟨t, hstep, hreply, hraised, htouch, c, ht⟩ :=
    host_served (act := fun s => s.hostClose n) (ns := []) (ps := [.stories, .channel]) htakes
      (State.hostClose_of_channel (by rwa [hfound]) (by rwa [hfound]))
      rfl ((State.updStory_touches _ n _).mono (by decide)) (by decide)
  have hstory (m : Nat) :
      t.story m = ((s.offer (.hostClose tag n)).updStory n fun r => { r with holder := .absent }).story m :=
    State.story_congr (by rw [ht]) m
  refine ⟨t, hstep, hraised, hreply, htouch, ?_, fun m hm => ?_⟩
  · rw [hstory, State.story_updStory_self _ (s.story_range_of_stage hstage), hfound]
  · rw [hstory, State.story_updStory_ne _ hm, hfound]

end Close

/-- Settles O29: the three refusals of R48 in their order, then the release. -/
theorem hostCloseReleasesChannelHold : Obligations.HostCloseReleasesChannelHold := by
  intro s tag n i htakes
  have hfound : (s.offer i).story n = s.story n := (s.offer_touches i).story n
  by_cases hnumber : n < 1 ∨ 512 < n
  · simp only [if_pos hnumber]
    exact exec_hostClose_refused htakes (State.hostClose_of_bad_number hnumber)
  by_cases hstage : (s.story n).stage = .free
  · simp only [if_neg hnumber, if_pos hstage]
    exact exec_hostClose_refused htakes (State.hostClose_of_free (by omega) (by rwa [hfound]))
  by_cases hheld : (s.story n).holder = .channel
  · simp only [if_neg hnumber, if_neg hstage, if_neg (not_not_intro hheld)]
    exact exec_hostClose_released htakes hstage hheld
  · simp only [if_neg hnumber, if_neg hstage, if_pos hheld]
    exact exec_hostClose_refused htakes
      (State.hostClose_of_not_channel (by rwa [hfound]) (by rwa [hfound]))

/-! ### The orphan window (R53, R57) -/

theorem clamp_eq {lo hi : Nat} (h : lo ≤ hi) (v : Nat) :
    clamp lo hi v = if v < lo then lo else if hi < v then hi else v := by
  unfold clamp
  split_ifs <;> omega

theorem State.holdtime_touches (s : State) (seconds : Nat) : OnlyTouches [.orphanWindow] s (s.holdtime seconds).2.2 := by
  intro p hp
  cases p <;> first | rfl | exact absurd (by decide) hp

section Drop
variable {s : State} {k n : Nat} {u : SignedOn}

theorem State.orphanHeld_of_held (hstate : (s.line k).state = .ready) (hheld : (s.line k).held = some n)
    (huser : (s.line k).user = some u) :
    s.orphanHeld k = s.updStory n fun r => { r with holder := .orphan k u.user s.orphanWindow } := by
  simp only [State.orphanHeld, hstate, hheld, huser, if_true]

/-- Past the hold, a loss of carrier is told to the line, the flash list and the host, and to no story (R65). -/
theorem State.loseCarrier_story (s : State) (k m : Nat) : (s.loseCarrier k).story m = (s.orphanHeld k).story m := by
  simp [State.loseCarrier, State.lampAnew]

theorem State.loseCarrier_holder (hstate : (s.line k).state = .ready) (hheld : (s.line k).held = some n)
    (huser : (s.line k).user = some u) (hn : 1 ≤ n ∧ n ≤ 512) :
    ((s.loseCarrier k).story n).holder = .orphan k u.user s.orphanWindow := by
  rw [State.loseCarrier_story, State.orphanHeld_of_held hstate hheld huser, State.story_updStory_self _ hn]

theorem execCarrierDrop_of_receiving {k : Fin 32} (h : (s.line k).state.receiving = true) :
    execCarrierDrop k s = .next (s.loseCarrier k) := by
  simp only [execCarrierDrop, h, if_true]

end Drop

/-! ### What RESTART can touch (R188) -/

section Restart
variable (s : State)

theorem State.restartHolds_touches : OnlyTouches [.stories] s s.restartHolds := by
  intro p hp
  cases p <;> first | rfl | exact absurd (by decide) hp

theorem State.restartLines_touches : OnlyTouches [.lines, .flashes] s s.restartLines := by
  intro p hp
  cases p <;> first | rfl | exact absurd (by decide) hp

theorem State.restartFit_touches : OnlyTouches [.stories, .fit] s s.restartFit := by
  have hfit : OnlyTouches [.stories, .fit] s { s with fit := { s.fit with inFlight := none } } := by
    intro p hp
    cases p <;> first | rfl | exact absurd (by decide) hp
  unfold State.restartFit
  split
  · exact .refl _ s
  · dsimp only
    split
    · exact hfit
    · exact (hfit.trans (State.updStory_touches _ _ _) (by decide)).trans (State.setFitQueue_touches _ _) (by decide)

theorem State.restartPage_touches (g : Nat) : OnlyTouches [.stories, .pages] s (s.restartPage g) := by
  have hended : OnlyTouches [.stories, .pages] s ((s.endRecord g .cancelled).returnPage g) :=
    ((s.endRecord_touches g _).mono (by decide)).trans (State.returnPage_touches _ g) (by decide)
  unfold State.restartPage
  split
  · exact s.returnPage_touches g
  · exact hended
  · exact hended
  · exact .refl _ s

theorem State.setOutputChannel_touches (o : Output) (c : Channel) :
    OnlyTouches [.output, .channel] s { s with output := o, channel := c } := by
  intro p hp
  cases p <;> first | rfl | exact absurd (by decide) hp

/-- RESTART leaves the desks, the copy store, the orphan window, the clock and the queue of commands as they were. -/
theorem State.restart_touches :
    OnlyTouches [.stories, .lines, .flashes, .fit, .pages, .output, .channel] s s.restart := by
  have hblocks : OnlyTouches [.stories, .lines, .flashes, .fit, .pages, .output, .channel] s
      (pageIds.foldl State.restartPage s.restartHolds.restartLines.restartFit) :=
    ((((s.restartHolds_touches).mono (by decide)).trans (State.restartLines_touches _) (by decide)).trans
      (State.restartFit_touches _) (by decide)).trans (.foldl State.restartPage_touches _ _) (by decide)
  exact hblocks.trans (State.setOutputChannel_touches _ _ _) (by decide)

end Restart

/-- The window a HOLDTIME its block takes leaves in force, and its reply (R57). -/
theorem exec_holdtime {s : State} {tag : Byte} {seconds : Nat} (htakes : s.takes (.holdtime tag seconds) = true) :
    ∃ t, exec (.holdtime tag seconds) s = .next t ∧
      Replied (.holdtime tag seconds) .done (u16 t.orphanWindow) s t ∧ Raised [] s t ∧
      OnlyTouches [.orphanWindow, .channel] s t ∧ t.orphanWindow = clamp 10 600 seconds := by
  obtain ⟨t, hstep, hreply, hraised, htouch, c, rfl⟩ :=
    host_served (act := fun s => s.holdtime seconds) (ns := []) (ps := [.orphanWindow, .channel]) htakes
      rfl rfl ((State.holdtime_touches _ seconds).mono (by decide)) (by decide)
  exact ⟨_, hstep, hreply, hraised, htouch, rfl⟩

/-- A RESTART, whether or not it takes effect now, keeps the orphan window (R57). -/
theorem exec_restartTakesEffect_orphanWindow (s : State) :
    ∃ t, exec .restartTakesEffect s = .next t ∧ t.orphanWindow = s.orphanWindow := by
  refine ⟨_, rfl, ?_⟩
  split
  · exact s.restart_touches.orphanWindow
  · rfl

/-- Settles O31: the request, the drop of carrier, power reset and RESTART in turn. -/
theorem holdtimeSetsOrphanWindow : Obligations.HoldtimeSetsOrphanWindow := by
  refine ⟨?_, fun s k n u hstate hheld huser hlow hhigh => ?_, fun s => ⟨_, rfl, rfl⟩,
    exec_restartTakesEffect_orphanWindow⟩
  · intro s tag seconds i htakes
    obtain ⟨t, hstep, hreply, hraised, htouch, hwindow⟩ := exec_holdtime htakes
    exact ⟨t, hstep, hreply, hraised, htouch, hwindow.trans (clamp_eq (by decide) seconds)⟩
  · have hreceiving : (s.line k).state.receiving = true := by rw [hstate]; rfl
    exact ⟨_, execCarrierDrop_of_receiving hreceiving, State.loseCarrier_holder hstate hheld huser ⟨hlow, hhigh⟩⟩

end Sys2Proof.Machine

/-! Screens, flashes and lamps (chapter 5): what taking a terminal frame into service leaves of its line and of the others, then
HOME and SEEN. -/

namespace Sys2Proof.Machine

/-! ### One line at a time -/

section Lines
variable {s t : State}

theorem SameLinesBut.trans {u : State} {k : Nat} (h : SameLinesBut k s t) (h' : SameLinesBut k t u) : SameLinesBut k s u :=
  fun m hm => (h' m hm).trans (h m hm)

theorem State.updLine_sameLines (s : State) (k : Nat) (f : Line → Line) : SameLinesBut k s (s.updLine k f) :=
  fun _ hm => s.line_updLine_ne hm f

theorem State.refreshLine_sameLines (s : State) (k : Nat) : SameLinesBut k s (s.refreshLine k) :=
  fun m hm => by simp [State.refreshLine, State.line_refresh, hm]

theorem State.lampIf_sameLines (s : State) (k : Nat) (src : LampSource) : SameLinesBut k s (s.lampIf k src) :=
  fun m hm => by simp [State.lampIf, State.line_lamps, hm]

theorem State.wakeLine_sameLines (s : State) (k : Nat) : SameLinesBut k s (s.wake fun m _ => m == k) :=
  fun m hm => by simp [State.line_wake, hm]

theorem State.clearWithdrawn_sameLines (s : State) (k : Nat) : SameLinesBut k s (s.clearWithdrawn k) := by
  unfold State.clearWithdrawn
  split
  · exact (s.updLine_sameLines k _).trans (State.refreshLine_sameLines _ k)
  · exact fun _ _ => rfl

/-- A status line put into the slot changes the slot alone. -/
theorem State.withStatus_eq (s : State) (k : Nat) (l : Line) :
    s.withStatus k l = { l with status := (l.user.map fun u => s.statusLine k u l.withdrawn).or l.status } := by
  cases l
  rename Option SignedOn => user
  cases user <;> rfl

theorem State.line_refreshLine_self (s : State) (k : Fin 32) :
    (s.refreshLine k).line k =
      if (s.line k).state = .ready then s.withStatus k (s.line k) else s.line k := by
  simp [State.refreshLine, State.line_refresh, k.isLt]

theorem State.line_lampIf_self (s : State) (k : Fin 32) (src : LampSource) :
    (s.lampIf k src).line k = { s.line k with
      lamp := if (s.line k).lampSource = src then s.lampLit k (s.line k) else (s.line k).lamp } := by
  by_cases h : (s.line k).lampSource = src <;> simp [State.lampIf, State.line_lamps, k.isLt, h]

/-! ### What a change of the lines alone shows -/

theorem OnlyTouches.homeEntries {ps : List Part} (h : OnlyTouches ps s t) (hp : Part.stories ∉ ps) (p : Nat) (ns : List Nat) :
    t.homeEntries p ns = s.homeEntries p ns := by
  induction ns generalizing p with
  | nil => rfl
  | cons n ns ih => simp only [State.homeEntries, h.story n hp, ih]

theorem OnlyTouches.homeScreen (h : OnlyTouches [.lines] s t) (d p w : Nat) : t.homeScreen d p w = s.homeScreen d p w := by
  simp only [State.homeScreen, h.desk d, h.homeEntries (by decide)]

theorem OnlyTouches.statusLine (h : OnlyTouches [.lines] s t) (k : Nat) (u : SignedOn) (w : Option Nat) :
    t.statusLine k u w = s.statusLine k u w := by
  simp only [State.statusLine, State.newestUnseen, h.desk u.desk, h.clock, h.flashes]

end Lines

/-! ### A frame taken into service (R71, R73, R80, R81, R93) -/

theorem State.waiting_congr {s t : State} {k : Nat} (h : (t.line k).service = (s.line k).service) (i : Instr) :
    t.waiting k i = s.waiting k i := by
  simp only [State.waiting, h]

/-- A passing answer leaves the request in service as it stands (R72). -/
theorem State.answerPassing_service (s : State) (k : Fin 32) (kind : List Byte) (st : Status) :
    ((s.answerPassing k kind st).line k).service = (s.line k).service := by
  rw [State.answerPassing, State.line_updLine_self _ k.isLt]
  dsimp only
  split
  · rfl
  · split <;> rfl

/-- A frame answered as it is taken into service waits for no block (R71). -/
theorem State.answerAtOnce_not_waiting (s : State) (k : Fin 32) (kind : List Byte) (st : Status) (i : Instr) :
    (s.answerAtOnce k kind st).waiting k i = false := by
  simp [State.answerAtOnce, State.answerService, Line.consume, State.waiting, k.isLt]

theorem State.intoService_waiting (s : State) (k : Fin 32) (kind : List Byte) (i : Instr) :
    (s.intoService k kind i).waiting k i = true := by
  simp [State.intoService, State.waiting, k.isLt]

/-- A request's frame taken into service on a READY line: the dim timer set back, the withdrawn story cleared (R71, R80, R93). -/
def State.acceptFrame (s : State) (k : Nat) (i : Instr) : State :=
  ((s.updLine k Line.armDim).clearWithdrawn k).intoService k i.kind i

section Frame
variable {s : State} {k : Fin 32} {i : Instr}

theorem State.frameReady_of_free (hfree : (s.line k).service = none) (hkind : i.kind ≠ kindWord "SIGNON") :
    s.frameReady k i.kind (.request i) = s.acceptFrame k i := by
  simp [State.frameReady, State.acceptFrame, State.line_updLine_self _ k.isLt, Line.armDim, hfree, hkind]

/-- A request that has come to wait on a READY line found no other in service. -/
theorem State.frameReady_of_waiting (hnew : s.waiting k i = false)
    (h : (s.frameReady k i.kind (.request i)).waiting k i = true) :
    (s.line k).service = none ∧ s.frameReady k i.kind (.request i) = s.acceptFrame k i := by
  have harm : ((s.updLine k Line.armDim).line k).service = (s.line k).service := by
    rw [State.line_updLine_self _ k.isLt, Line.armDim]
  have hfree : (s.line k).service = none := by
    by_contra hbusy
    have hsome : ((s.updLine k Line.armDim).line k).service.isSome = true := by
      rwa [harm, Option.isSome_iff_ne_none]
    rw [State.frameReady, if_pos hsome,
      State.waiting_congr ((State.answerPassing_service _ k _ _).trans harm), hnew] at h
    exact absurd h (by decide)
  refine ⟨hfree, State.frameReady_of_free hfree fun hkind => ?_⟩
  simp [State.frameReady, State.line_updLine_self _ k.isLt, Line.armDim, hfree, hkind,
    State.answerAtOnce_not_waiting] at h

/-- A request that has come to wait on an IDLE line found no other in service; only a SIGNON does. -/
theorem State.frameIdle_of_waiting (hnew : s.waiting k i = false)
    (h : (s.frameIdle k i.kind (.request i)).waiting k i = true) :
    (s.line k).service = none ∧ s.frameIdle k i.kind (.request i) = s.intoService k i.kind i := by
  by_cases hfree : (s.line k).service = none
  · by_cases hkind : i.kind = kindWord "SIGNON"
    · exact ⟨hfree, by simp [State.frameIdle, hfree, hkind]⟩
    · simp [State.frameIdle, hfree, hkind, State.answerAtOnce_not_waiting] at h
  · rw [State.frameIdle, if_pos (Option.isSome_iff_ne_none.2 hfree),
      State.waiting_congr (State.answerPassing_service s k _ _), hnew] at h
    exact absurd h (by decide)

theorem State.frameSigning_waiting (s : State) (k : Fin 32) (kind : List Byte) (f : TerminalFrame) (i : Instr) :
    (s.frameSigning k kind f).waiting k i = s.waiting k i := by
  unfold State.frameSigning
  split <;> exact State.waiting_congr (s.answerPassing_service k _ _) i

/-- A line the wake finds DIM keeps its request in service (R81). -/
theorem State.line_wakeLine (s : State) (k : Fin 32) (hdim : (s.line k).state = .dim) :
    ∃ display status, (s.wake fun m _ => m == k.val).line k =
      { (s.line k).armDim with state := .ready, display := display, status := status } := by
  have hwake : (s.wake fun m _ => m == k.val).line k = s.awake k (s.line k) := by
    simp [State.line_wake, k.isLt, hdim]
  rw [hwake]
  unfold State.awake
  dsimp only
  split
  · exact ⟨_, _, rfl⟩
  · exact ⟨_, _, rfl⟩

/-- How a request comes to be taken by its block (R71, R73): it waits in service already, or its frame arrives now and is taken
into service on an IDLE or READY line, or on a DIM line after its wake. -/
theorem State.offerFrame_cases (htakes : s.takesFrame k i = true) :
    s.waiting k i = true ∧ s.offerFrame k i = s ∨
    (s.line k).service = none ∧
      ((s.line k).state = .idle ∧ s.offerFrame k i = s.intoService k i.kind i ∨
       (s.line k).state = .ready ∧ s.offerFrame k i = s.acceptFrame k i ∨
       (s.line k).state = .dim ∧ s.offerFrame k i = (s.wake fun m _ => m == k.val).acceptFrame k i) := by
  unfold State.takesFrame at htakes
  cases hwait : s.waiting k i with
  | true => exact .inl ⟨rfl, by simp [State.offerFrame, hwait]⟩
  | false =>
    have hnote (t : State) : t.noteUnknown k (.request i) = t := rfl
    have hoffer : s.offerFrame k i = s.frameIn k i.kind (.request i) := by simp [State.offerFrame, hwait]
    rw [hoffer] at htakes ⊢
    cases hstate : (s.line k).state <;> simp only [State.frameIn, hstate, hnote] at htakes ⊢
    case disabled => simp [hwait] at htakes
    case lost => simp [hwait] at htakes
    case signing => simp [State.frameSigning_waiting, hwait] at htakes
    case idle =>
      obtain ⟨hfree, htaken⟩ := State.frameIdle_of_waiting hwait htakes
      exact .inr ⟨hfree, .inl ⟨trivial, htaken⟩⟩
    case ready =>
      obtain ⟨hfree, htaken⟩ := State.frameReady_of_waiting hwait htakes
      exact .inr ⟨hfree, .inr (.inl ⟨trivial, htaken⟩)⟩
    case dim =>
      obtain ⟨_, _, hwoken⟩ := s.line_wakeLine k hstate
      have hservice : ((s.wake fun m _ => m == k.val).line k).service = (s.line k).service := by
        rw [hwoken, Line.armDim]
      obtain ⟨hfree, htaken⟩ :=
        State.frameReady_of_waiting ((State.waiting_congr hservice i).trans hwait) htakes
      exact .inr ⟨hservice ▸ hfree, .inr (.inr ⟨trivial, htaken⟩)⟩

theorem State.line_clearWithdrawn (s : State) (k : Fin 32) :
    ∃ status, (s.clearWithdrawn k).line k = { s.line k with withdrawn := none, status := status } := by
  unfold State.clearWithdrawn
  split
  · rw [State.line_refreshLine_self, State.line_updLine_self _ k.isLt]
    split
    · exact ⟨_, State.withStatus_eq _ _ _⟩
    · exact ⟨_, rfl⟩
  · rename_i hnone
    have hkept : (s.line k).withdrawn = none := by simpa using hnone
    exact ⟨(s.line k).status, by rw [← hkept]⟩

theorem State.line_acceptFrame (s : State) (k : Fin 32) (i : Instr) :
    ∃ status, (s.acceptFrame k i).line k =
      { (s.line k).armDim with
        withdrawn := none, status := status, service := some { kind := i.kind, cmd := some i, stage := .waiting } } := by
  obtain ⟨status, hclear⟩ := (s.updLine k Line.armDim).line_clearWithdrawn k
  refine ⟨status, ?_⟩
  rw [State.acceptFrame, State.intoService, State.line_updLine_self _ k.isLt, hclear, State.line_updLine_self _ k.isLt]

theorem State.acceptFrame_sameLines (s : State) (k : Nat) (i : Instr) : SameLinesBut k s (s.acceptFrame k i) :=
  ((s.updLine_sameLines k _).trans (State.clearWithdrawn_sameLines _ k)).trans (State.updLine_sameLines _ k _)

theorem State.offerFrame_sameLines (htakes : s.takesFrame k i = true) : SameLinesBut k s (s.offerFrame k i) := by
  obtain ⟨-, heq⟩ | ⟨-, ⟨-, heq⟩ | ⟨-, heq⟩ | ⟨-, heq⟩⟩ := State.offerFrame_cases htakes <;> rw [heq]
  · exact fun _ _ => rfl
  · exact s.updLine_sameLines k _
  · exact s.acceptFrame_sameLines k i
  · exact (s.wakeLine_sameLines k).trans (State.acceptFrame_sameLines _ k i)

/-- What the taking of a frame leaves of its line; only the wake of a DIM line fills the display slot (R71, R81). -/
theorem State.offerFrame_asFound (htakes : s.takesFrame k i = true) :
    (s.line k).asFound ((s.offerFrame k i).line k) ∧
      ((s.line k).state ≠ .dim → ((s.offerFrame k i).line k).display = (s.line k).display) := by
  have haccept (t : State) : (t.line k).asFound ((t.acceptFrame k i).line k) ∧
      ((t.acceptFrame k i).line k).display = (t.line k).display := by
    obtain ⟨_, hline⟩ := t.line_acceptFrame k i
    rw [hline]
    exact ⟨rfl, rfl⟩
  obtain ⟨-, heq⟩ | ⟨-, ⟨-, heq⟩ | ⟨-, heq⟩ | ⟨hdim, heq⟩⟩ := State.offerFrame_cases htakes <;> rw [heq]
  · exact ⟨.refl _, fun _ => rfl⟩
  · rw [State.intoService, State.line_updLine_self _ k.isLt]
    exact ⟨rfl, fun _ => rfl⟩
  · obtain ⟨hfound, hdisplay⟩ := haccept s
    exact ⟨hfound, fun _ => hdisplay⟩
  · obtain ⟨_, _, hwoken⟩ := s.line_wakeLine k hdim
    have hwake : (s.line k).asFound ((s.wake fun m _ => m == k.val).line k) := by rw [hwoken]; rfl
    exact ⟨hwake.trans (haccept _).1, fun hstate => absurd hdim hstate⟩

/-! ### A terminal request answered (R27, R72) -/

theorem Line.asFound.sameSetup {l m : Line} (h : l.asFound m) : l.sameSetup m := by
  unfold Line.asFound at h
  unfold Line.sameSetup
  rw [h]

theorem State.line_answerService (v : State) (k : Fin 32) (kind : List Byte) (st : Status) (d : List Byte) :
    (v.answerService k kind st d).line k = { v.line k with
      answer := some { service := true, kind := kind, status := st, details := d }
      service := (v.line k).service.map fun x => { x with stage := .answered }
      override := if kind = kindWord "ARM" then (v.line k).override else false } := by
  rw [State.answerService, State.line_updLine_self _ k.isLt, Line.consume]

/-- What a rule leaves of the line it serves when it changes no more than its screens and its lamp. -/
def Line.shown (l m : Line) : Prop := m = { l with display := m.display, status := m.status, lamp := m.lamp }

/-- A terminal request its block takes, whose rule moves no line but the screens and the lamp of its own: the answer stands in the
slot, and of the line nothing else is other than the frame's taking and the rule left it. -/
theorem line_served_shown {act : State → Verdict} {st : Status} {d : List Byte} {v : State} {ps : List Part}
    (htakes : s.takesFrame k i = true) (hact : act (s.offerFrame k i) = (st, d, v))
    (hshown : ((s.offerFrame k i).line k).shown (v.line k)) (hsame : SameLinesBut k (s.offerFrame k i) v)
    (htouch : OnlyTouches ps (s.offerFrame k i) v) (hlines : Part.lines ∈ ps) :
    ∃ t, lineStep k i act s = .next t ∧ OnlyTouches ps s t ∧ SameLinesBut k s t ∧ Served i k st d s t ∧
      OnlyTouches [.lines] v t ∧
      t.line k = { v.line k with
        answer := (t.line k).answer, service := (t.line k).service, override := (t.line k).override } := by
  have hmem : [Part.lines] ⊆ ps := by simpa using hlines
  have hanswer := v.answerService_touches k i.kind st d
  refine ⟨_, line_served htakes hact, ?_, ?_, ?_, hanswer, ?_⟩
  · exact (((s.offerFrame_touches k i).mono hmem).trans htouch (List.Subset.refl ps)).trans hanswer hmem
  · exact ((State.offerFrame_sameLines htakes).trans hsame).trans (v.updLine_sameLines k _)
  · obtain ⟨kind, hservice⟩ := State.waiting_iff.1 htakes
    have hfound := (State.offerFrame_asFound htakes).1
    unfold Line.shown at hshown
    unfold Line.asFound at hfound
    rw [Served, State.line_answerService]
    refine ⟨rfl, ?_, fun harm => if_neg harm, ?_⟩
    · rw [hshown]
      simp [hservice]
    · unfold Line.sameSetup
      rw [hshown, hfound]
  · rw [State.line_answerService]

end Frame

/-! ### HOME (R92) -/

theorem deskOk_iff (d : Nat) : deskOk d = true ↔ d ≤ 15 := by
  simp only [deskOk, decide_eq_true_eq]
  exact Nat.lt_succ_iff

section Home
variable {s : State} {k : Fin 32} {desk first : Option Nat} {u : SignedOn}

theorem State.home_of_user (huser : (s.line k).user = some u) :
    s.home k desk first = s.homeFrom k (desk.getD u.desk) (first.getD 0) := by
  cases desk <;> simp [State.home, huser]

theorem State.homeFrom_refused {d p : Nat} (h : 15 < d ∨ (s.desk d).basket.length < p) :
    s.homeFrom k d p = refuse s .badField := by
  have hdesk : deskOk d = true → ¬ 15 < d := fun hok => by have := (deskOk_iff d).1 hok; omega
  unfold State.homeFrom
  rw [if_pos]
  rcases h with hdesk' | hpos
  · simp [mt hdesk (not_not_intro hdesk')]
  · simp [hpos]

theorem State.homeFrom_listed {d p : Nat} (h : ¬ (15 < d ∨ (s.desk d).basket.length < p)) :
    s.homeFrom k d p = (.done, u8 d ++ u16 (s.desk d).basket.length, s.putHome k d p) := by
  rw [not_or] at h
  obtain ⟨hdesk, hpos⟩ := h
  simp [State.homeFrom, (deskOk_iff d).2 (Nat.le_of_not_lt hdesk), hpos]

theorem State.line_putHome (s : State) (k : Fin 32) (d p : Nat) :
    (s.putHome k d p).line k = { s.line k with display := some (.home (s.homeScreen d p (s.line k).windowSize)) } := by
  rw [State.putHome, State.line_updLine_self _ k.isLt]

end Home

/-- Settles O39: the refusal of R92 leaves the line as the frame's taking left it; otherwise only its display slot is filled. -/
theorem homeListsBasket : Obligations.HomeListsBasket := by
  intro s k desk first u i d p htakes huser
  obtain ⟨hfound, hdisplay⟩ := State.offerFrame_asFound htakes
  unfold Line.asFound at hfound
  have htouch := s.offerFrame_touches k i
  have hact : (s.offerFrame k i).home k desk first = (s.offerFrame k i).homeFrom k d p :=
    State.home_of_user (by rw [hfound, huser])
  have hbasket : ((s.offerFrame k i).desk d).basket = (s.desk d).basket := by rw [htouch.desk]
  by_cases hbad : 15 < d ∨ (s.desk d).basket.length < p
  · simp only [if_pos hbad]
    obtain ⟨t, hstep, htouches, hsame, hserved, -, hline⟩ :=
      line_served_shown (act := fun s => s.home k desk first) (ps := [.lines]) htakes
        (hact.trans (State.homeFrom_refused (by rwa [hbasket]))) rfl (fun _ _ => rfl) (.refl _ _) (by decide)
    refine ⟨t, hstep, htouches, hsame, ?_, ?_, hserved, fun hstate => ?_⟩
    · rw [hline, hfound]
    · rw [hline, hfound]
    · rw [hline]
      exact hdisplay hstate
  · simp only [if_neg hbad]
    obtain ⟨t, hstep, htouches, hsame, hserved, -, hline⟩ :=
      line_served_shown (act := fun s => s.home k desk first) (ps := [.lines]) htakes
        (hact.trans (State.homeFrom_listed (by rwa [hbasket])))
        (by rw [State.line_putHome]; rfl) (State.updLine_sameLines _ k _) (State.putHome_touches _ k d p) (by decide)
    rw [State.line_putHome] at hline
    refine ⟨t, hstep, htouches, hsame, ?_, ?_, ?_, ?_⟩
    · rw [hline, hfound]
    · rw [hline, hfound]
    · rwa [hbasket] at hserved
    · rw [hline, htouch.homeScreen, hfound]
      rfl

/-! ### SEEN (R97) -/

section Seen
variable {s t : State} {k : Fin 32}

theorem State.takesFrame_seen (hstate : (s.line k).state = .ready ∨ (s.line k).state = .dim)
    (hfree : (s.line k).service = none) : s.takesFrame k (.seen k) = true := by
  have hkind : (Instr.seen k).kind ≠ kindWord "SIGNON" := by
    rw [Instr.kind]
    decide
  have hwait : s.waiting k (.seen k) = false := by simp [State.waiting, hfree]
  have hnote (t : State) : t.noteUnknown k (.request (.seen k)) = t := rfl
  rw [State.takesFrame, State.offerFrame, hwait, if_neg (by decide)]
  rcases hstate with hready | hdim
  · simp only [State.frameIn, hready, hnote, State.frameReady_of_free hfree hkind]
    exact State.intoService_waiting _ k _ _
  · obtain ⟨_, _, hwoken⟩ := s.line_wakeLine k hdim
    have hfree' : ((s.wake fun m _ => m == k.val).line k).service = none := by rw [hwoken, Line.armDim, hfree]
    simp only [State.frameIn, hdim, hnote, State.frameReady_of_free hfree' hkind]
    exact State.intoService_waiting _ k _ _

/-- A line out of every unseen set has no unseen flash. -/
theorem State.newestUnseen_of_unseenWithout {k : Nat} (h : t.flashes = unseenWithout k s.flashes) :
    t.newestUnseen k = none := by
  simp [State.newestUnseen, h, unseenWithout, List.find?_eq_none]

/-- A line out of every unseen set has its FLASH lamp dark (R98). -/
theorem State.lampLit_of_unseenWithout {k : Nat} {l : Line} (h : t.flashes = unseenWithout k s.flashes)
    (hsource : l.lampSource = .flash) : t.lampLit k l = false := by
  unfold State.lampLit
  split
  · rfl
  · simp [hsource, h, unseenWithout]

/-- The records as SEEN leaves them (R97). -/
def State.flashesSeen (s : State) (k : Nat) : State := ((s.unseeLine k).refreshLine k).lampIf k .flash

theorem State.seen_eq (s : State) (k : Nat) :
    s.seen k = (.done, u8 (s.flashes.list.countP fun e => e.unseen.contains k), s.flashesSeen k) := rfl

theorem State.flashesSeen_flashes (s : State) (k : Nat) : (s.flashesSeen k).flashes = unseenWithout k s.flashes := rfl

/-- SEEN changes of its line the status slot of a READY one and a FLASH lamp (R97). -/
theorem State.line_flashesSeen (s : State) (k : Fin 32) :
    (s.flashesSeen k).line k = { s.line k with
      status := if (s.line k).state = .ready then ((s.unseeLine k).withStatus k (s.line k)).status else (s.line k).status
      lamp := if (s.line k).lampSource = .flash then false else (s.line k).lamp } := by
  have hrefresh : ((s.unseeLine k).refreshLine k).line k = { s.line k with
      status := if (s.line k).state = .ready then ((s.unseeLine k).withStatus k (s.line k)).status
        else (s.line k).status } := by
    rw [State.line_refreshLine_self, State.unseeLine_line]
    split
    · rw [State.withStatus_eq]
    · rfl
  have hflashes : ((s.unseeLine k).refreshLine k).flashes = unseenWithout k s.flashes := rfl
  rw [State.flashesSeen, State.line_lampIf_self, hrefresh]
  by_cases hsource : (s.line k).lampSource = .flash
  · simp only [if_pos hsource]
    rw [State.lampLit_of_unseenWithout hflashes]
    exact hsource
  · simp only [if_neg hsource]

/-- A READY line's slot holds its status line as the records now stand (R94, R97). -/
theorem State.flashesSeen_status {u : SignedOn} (hready : ((s.flashesSeen k).line k).state = .ready)
    (huser : u ∈ ((s.flashesSeen k).line k).user) :
    ((s.flashesSeen k).line k).status =
      some ((s.flashesSeen k).statusLine k u ((s.flashesSeen k).line k).withdrawn) := by
  have hshown : OnlyTouches [.lines] (s.unseeLine k) (s.flashesSeen k) :=
    (State.refreshLine_touches _ k).trans (State.lampIf_touches _ k .flash) (by decide)
  rw [hshown.statusLine]
  rw [State.line_flashesSeen] at hready huser ⊢
  dsimp only at hready huser ⊢
  rw [if_pos hready, State.withStatus_eq, Option.mem_def.1 huser]
  rfl

theorem State.flashesSeen_sameLines (s : State) (k : Nat) : SameLinesBut k s (s.flashesSeen k) :=
  SameLinesBut.trans (t := s.unseeLine k) (fun _ _ => rfl)
    ((State.refreshLine_sameLines _ k).trans (State.lampIf_sameLines _ k .flash))

theorem State.flashesSeen_touches (s : State) (k : Nat) : OnlyTouches [.lines, .flashes] s (s.flashesSeen k) :=
  (((s.unseeLine_touches k).mono (by decide)).trans (State.refreshLine_touches _ k) (by decide)).trans
    (State.lampIf_touches _ k .flash) (by decide)

end Seen

/-- Settles O40: once the line is in no unseen set, its status line shows no flash and its FLASH lamp is dark. -/
theorem seenAcknowledgesFlashes : Obligations.SeenAcknowledgesFlashes := by
  refine ⟨fun s k hstate hfree => State.takesFrame_seen hstate hfree, ?_⟩
  intro s k i htakes
  have hfound := (State.offerFrame_asFound htakes).1
  unfold Line.asFound at hfound
  have hflashes := (s.offerFrame_touches k i).flashes
  obtain ⟨t, hstep, htouches, hsame, hserved, hlast, hline⟩ :=
    line_served_shown (act := fun s => s.seen k) (ps := [.lines, .flashes]) htakes (State.seen_eq _ k)
      (by rw [State.line_flashesSeen]; rfl) (State.flashesSeen_sameLines _ k) (State.flashesSeen_touches _ k) (by decide)
  have hunseen : t.flashes = unseenWithout k s.flashes := by
    rw [hlast.flashes, State.flashesSeen_flashes, hflashes]
  refine ⟨t, hstep, htouches, hsame, ?_, hunseen, ?_, ?_, ?_, ?_⟩
  · rwa [hflashes] at hserved
  · rw [hline, State.line_flashesSeen, hfound]
  · rw [hline, State.line_flashesSeen, hfound]
  · intro hready u huser
    refine ⟨?_, by simp [State.statusLine, State.newestUnseen_of_unseenWithout hunseen]⟩
    rw [hlast.statusLine]
    rw [hline] at hready huser ⊢
    exact State.flashesSeen_status hready huser
  · rw [hline, State.line_flashesSeen, hfound]

end Sys2Proof.Machine

/-! The proofs of this part are elaborated one after another: each worker thread of the elaborator reserves a stack,
and a text this long would have more of them waiting than its memory limit allows. -/
section
set_option Elab.async false

/-! The rule of every request and the parts of the state that each command can touch, said once for all of them. -/

namespace Sys2Proof.Machine

/-! ### What each request's rule can touch -/

section Rules
variable (s : State)

theorem State.makeStory_touches (n : Nat) (slug : List Byte) (desk style : Nat) (p : Priority) :
    OnlyTouches [.stories, .fit] s (s.makeStory n slug desk style p) :=
  ((s.setStory_touches n _).mono (by decide)).trans (State.setFitQueue_touches _ _) (by decide)

theorem State.create_touches (slug : List Byte) (desk style priority : Nat) :
    OnlyTouches [.stories, .desks, .fit, .lines, .channel] s (s.create slug desk style priority).2.2 := by
  unfold State.create
  repeat' split
  all_goals first
    | exact .refl _ s
    | exact ((s.makeStory_touches _ _ _ _ _).mono (by decide)).trans (State.arrive_touches _ _) (by decide)

theorem State.newStory_touches (k : Nat) (slug : List Byte) (style priority : Nat) :
    OnlyTouches [.stories, .desks, .fit, .lines, .channel] s (s.newStory k slug style priority).2.2 := by
  unfold State.newStory
  repeat' split
  all_goals first
    | exact .refl _ s
    | exact ((((s.makeStory_touches _ _ _ _ _).mono (by decide)).trans (State.takeHold_touches _ _ _) (by decide)).trans
        (State.arrive_touches _ _) (by decide)).trans (State.putWindow_touches _ _ _ _) (by decide)

theorem State.textCheck_touches {n : Nat} {style : Option Nat} {new : List CopyLine} {v : Verdict}
    (h : s.textCheck n style new = some v) : v.2.2 = s := by
  unfold State.textCheck at h
  repeat' split at h
  all_goals cases h <;> rfl

theorem State.textWrite_touches (n : Nat) (style : Option Nat) (text : List CopyLine) :
    OnlyTouches [.stories, .store, .channel, .fit, .pages, .lines] s (s.textWrite n style text).2.2 := by
  unfold State.textWrite
  split
  · exact .refl _ s
  · exact s.changeText_touches n text style

theorem State.textAppend_touches (n : Nat) (style : Option Nat) (new : List CopyLine) :
    OnlyTouches [.stories, .store, .channel, .fit, .pages, .lines] s (s.textAppend n style new).2.2 := by
  unfold State.textAppend
  split
  · rename_i h
    rw [s.textCheck_touches h]
    exact .refl _ s
  · exact s.textWrite_touches _ _ _

theorem State.textReplace_touches (n : Nat) (style : Option Nat) (new : List CopyLine) :
    OnlyTouches [.stories, .store, .channel, .fit, .pages, .lines] s (s.textReplace n style new).2.2 := by
  unfold State.textReplace
  split
  · rename_i h
    rw [s.textCheck_touches h]
    exact .refl _ s
  · exact s.textWrite_touches _ _ _

theorem State.textReplaceRange_touches (n : Nat) (style : Option Nat) (f k : Nat) (new : List CopyLine) :
    OnlyTouches [.stories, .store, .channel, .fit, .pages, .lines] s (s.textReplaceRange n style f k new).2.2 := by
  unfold State.textReplaceRange
  split
  · rename_i h
    rw [s.textCheck_touches h]
    exact .refl _ s
  · split
    · exact .refl _ s
    · exact s.textWrite_touches _ _ _

theorem State.setStore_touches (st : Store) : OnlyTouches [.store] s { s with store := st } := by
  intro p hp
  cases p <;> first | rfl | exact absurd (by decide) hp

theorem State.freeStory_touches (n : Nat) :
    OnlyTouches [.stories, .desks, .store, .pages, .channel] s (s.freeStory n) := by
  have hfreed {t : State} (st : Store) (h : OnlyTouches [.stories, .desks, .store, .pages, .channel] s t) :
      OnlyTouches [.stories, .desks, .store, .pages, .channel] s
        (State.setStory { t with store := st } n Story.freed).storeRelief :=
    ((h.trans (State.setStore_touches t st) (by decide)).trans (State.setStory_touches _ n Story.freed)
      (by decide)).trans (State.storeRelief_touches _) (by decide)
  unfold State.freeStory
  dsimp only
  cases hrun : (s.story n).run with
  | none => exact hfreed _ ((s.leaveSpikes_touches n).mono (by decide))
  | some run =>
    exact ((hfreed _ ((s.emptySlots_touches run.page n).mono (by decide))).trans (State.judge_touches _ _)
      (by decide)).trans (State.noticeFit_touches _ _ _) (by decide)

theorem State.purge_touches (n : Nat) :
    OnlyTouches [.stories, .desks, .store, .pages, .channel] s (s.purge n).2.2 := by
  unfold State.purge
  dsimp only
  repeat' split
  all_goals first
    | exact .refl _ s
    | exact s.freeStory_touches n

theorem State.route_touches (n desk : Nat) : OnlyTouches [.stories, .desks, .lines, .channel] s (s.route n desk) := by
  unfold State.route
  split
  · exact ((s.leaveBasket_touches n).mono (by decide)).trans (State.arrive_touches _ n) (by decide)
  · exact (((s.depart_touches n).mono (by decide)).trans (State.updStory_touches _ n _) (by decide)).trans
      (State.arrive_touches _ n) (by decide)

theorem State.hostRoute_touches (n desk : Nat) :
    OnlyTouches [.stories, .desks, .lines, .channel] s (s.hostRoute n desk).2.2 := by
  unfold State.hostRoute
  repeat' split
  all_goals first
    | exact .refl _ s
    | exact ((s.releaseChannel_touches n).mono (by decide)).trans (State.route_touches _ n desk) (by decide)

theorem State.lineRoute_touches (k n desk : Nat) :
    OnlyTouches [.stories, .desks, .lines, .channel] s (s.lineRoute k n desk).2.2 := by
  unfold State.lineRoute
  dsimp only
  repeat' split
  all_goals first
    | exact .refl _ s
    | exact ((s.releaseOwn_touches k n).mono (by decide)).trans (State.route_touches _ n desk) (by decide)

theorem State.reclass_touches (n : Nat) (p : Priority) :
    OnlyTouches [.stories, .desks, .lines, .channel] s (s.reclass n p) := by
  unfold State.reclass
  split
  · exact (((s.leaveBasket_touches n).mono (by decide)).trans (State.updStory_touches _ n _) (by decide)).trans
      (State.arrive_touches _ n) (by decide)
  · exact (s.updStory_touches n _).mono (by decide)

theorem State.hostPriority_touches (n priority : Nat) :
    OnlyTouches [.stories, .desks, .lines, .channel] s (s.hostPriority n priority).2.2 := by
  unfold State.hostPriority
  repeat' split
  all_goals first
    | exact .refl _ s
    | exact s.reclass_touches n _

theorem State.linePriority_touches (k priority : Nat) :
    OnlyTouches [.stories, .desks, .lines, .channel] s (s.linePriority k priority).2.2 := by
  unfold State.linePriority
  repeat' split
  all_goals first
    | exact .refl _ s
    | exact s.reclass_touches _ _

theorem State.spike_touches (n : Nat) : OnlyTouches [.stories, .desks, .fit, .pages, .lines] s (s.spike n) :=
  ((s.depart_touches n).mono (by decide)).trans (State.enterSpiked_touches _ n) (by decide)

theorem State.hostSpike_touches (n : Nat) :
    OnlyTouches [.stories, .desks, .fit, .pages, .lines] s (s.hostSpike n).2.2 := by
  unfold State.hostSpike
  repeat' split
  all_goals first
    | exact .refl _ s
    | exact ((s.releaseChannel_touches n).mono (by decide)).trans (State.spike_touches _ n) (by decide)

theorem State.lineSpike_touches (k n : Nat) :
    OnlyTouches [.stories, .desks, .fit, .pages, .lines] s (s.lineSpike k n).2.2 := by
  unfold State.lineSpike
  dsimp only
  repeat' split
  all_goals first
    | exact .refl _ s
    | exact ((s.releaseOwn_touches k n).mono (by decide)).trans (State.spike_touches _ n) (by decide)

theorem State.unspike_touches (n : Nat) :
    OnlyTouches [.stories, .desks, .fit, .pages, .lines, .channel] s (s.unspike n).2.2 := by
  unfold State.unspike
  repeat' split
  all_goals first
    | exact .refl _ s
    | exact ((((s.leaveSpikes_touches n).mono (by decide)).trans (State.updStory_touches _ n _) (by decide)).trans
        (State.makeStale_touches _ n) (by decide)).trans (State.arrive_touches _ n) (by decide)

theorem State.hostKill_touches (n : Nat) :
    OnlyTouches [.output, .stories, .pages, .fit, .lines, .desks, .channel] s (s.hostKill n).2.2 := by
  unfold State.hostKill
  dsimp only
  repeat' split
  all_goals first
    | exact .refl _ s
    | exact ((s.releaseChannel_touches n).mono (by decide)).trans (State.kill_touches _ s n) (by decide)

theorem State.lineKill_touches (k n : Nat) :
    OnlyTouches [.output, .stories, .pages, .fit, .lines, .desks, .channel] s (s.lineKill k n).2.2 := by
  unfold State.lineKill
  dsimp only
  repeat' split
  all_goals first
    | exact .refl _ s
    | exact ((s.releaseOwn_touches k n).mono (by decide)).trans (State.kill_touches _ s n) (by decide)

theorem State.armOverride_touches (k : Nat) : OnlyTouches [.lines] s (s.armOverride k).2.2 := by
  unfold State.armOverride
  split
  · exact s.updLine_touches k _
  · exact .refl _ s

theorem State.basketOf_state (desk list p : Nat) : (s.basketOf desk list p).2.2 = s := by
  unfold State.basketOf
  repeat' split
  all_goals rfl

theorem State.lineOpen_touches (k n : Nat) : OnlyTouches [.stories, .lines] s (s.lineOpen k n).2.2 := by
  have hopen : OnlyTouches [.stories, .lines] s (s.openAtLine k n) := by
    unfold State.openAtLine
    split
    · exact (s.takeHold_touches k n).trans (State.putWindow_touches _ k n 0) (by decide)
    · exact (s.putWindow_touches k n 0).mono (by decide)
  unfold State.lineOpen
  dsimp only
  repeat' split
  all_goals first
    | exact .refl _ s
    | exact hopen

theorem State.hostOpen_touches (n : Nat) : OnlyTouches [.stories] s (s.hostOpen n).2.2 := by
  unfold State.hostOpen
  dsimp only
  repeat' split
  all_goals first
    | exact .refl _ s
    | exact s.updStory_touches n _

theorem State.lineClose_touches (k : Nat) : OnlyTouches [.stories, .lines] s (s.lineClose k).2.2 := by
  unfold State.lineClose
  split
  · exact .refl _ s
  · exact (s.releaseHold_touches _).trans (State.putOwnHome_touches _ k) (by decide)

theorem State.hostClose_touches (n : Nat) : OnlyTouches [.stories, .lines] s (s.hostClose n).2.2 := by
  unfold State.hostClose
  repeat' split
  all_goals first
    | exact .refl _ s
    | exact s.releaseHold_touches n

theorem State.withdraw_touches (n : Nat) : OnlyTouches [.stories, .lines] s (s.withdraw n) := by
  unfold State.withdraw
  dsimp only
  split
  · exact ((s.releaseHold_touches n).trans (State.updLine_touches _ _ _) (by decide)).trans
      (State.refreshLine_touches _ _) (by decide)
  · exact s.releaseHold_touches n

theorem State.freeHold_touches (n : Nat) : OnlyTouches [.stories, .lines] s (s.freeHold n).2.2 := by
  unfold State.freeHold
  repeat' split
  all_goals first
    | exact .refl _ s
    | exact s.withdraw_touches n

theorem State.lineset_touches (k : Nat) (speed model dimTime wakeFlash wakeUrgent : Option Nat) :
    OnlyTouches [.lines] s (s.lineset k speed model dimTime wakeFlash wakeUrgent).2.2 := by
  unfold State.lineset
  dsimp only
  repeat' split
  all_goals first
    | exact .refl _ s
    | exact s.updLine_touches k _

theorem State.enable_touches (k : Nat) : OnlyTouches [.lines, .channel] s (s.enable k) := by
  unfold State.enable
  split
  · exact ((s.updLine_touches k _).mono (by decide)).trans (State.lampAnew_touches _ k) (by decide)
  · exact (((s.updLine_touches k _).mono (by decide)).trans (State.lampAnew_touches _ k) (by decide)).trans
      (State.raise_touches _ _) (by decide)

theorem State.lineon_touches (k : Nat) : OnlyTouches [.lines, .channel] s (s.lineon k).2.2 := by
  unfold State.lineon
  dsimp only
  repeat' split
  all_goals first
    | exact .refl _ s
    | exact s.enable_touches k

theorem State.releaseHeld_touches (k : Nat) : OnlyTouches [.stories, .lines] s (s.releaseHeld k) := by
  unfold State.releaseHeld
  split
  · exact s.releaseHold_touches _
  · exact .refl _ s

theorem State.shutLine_touches (k : Nat) : OnlyTouches [.stories, .lines, .flashes, .channel] s (s.shutLine k) := by
  have h : OnlyTouches [.stories, .lines, .flashes, .channel] s
      (((s.releaseHeld k).updLine k Line.disable).unseeLine k) :=
    (((s.releaseHeld_touches k).mono (by decide)).trans (State.updLine_touches _ k _) (by decide)).trans
      (State.unseeLine_touches _ k) (by decide)
  unfold State.shutLine
  dsimp only
  split
  · exact h.trans (State.raise_touches _ _) (by decide)
  · exact h

theorem State.lineoff_touches (k : Nat) : OnlyTouches [.stories, .lines, .flashes, .channel] s (s.lineoff k).2.2 := by
  unfold State.lineoff
  repeat' split
  all_goals first
    | exact .refl _ s
    | exact s.shutLine_touches k

theorem State.linestat_touches (k : Nat) : OnlyTouches [.lines] s (s.linestat k).2.2 := by
  unfold State.linestat
  dsimp only
  split
  · exact .refl _ s
  · dsimp only
    split
    · exact (s.updLine_touches k _).trans (State.lampIf_touches _ k _) (by decide)
    · exact s.updLine_touches k _

theorem State.lateVerdict_state (k : Nat) : (s.lateVerdict k).2.2 = s := by
  unfold State.lateVerdict
  split <;> rfl

theorem State.joinFlashes_touches (k d : Nat) : OnlyTouches [.flashes] s (s.joinFlashes k d) := by
  intro p hp
  cases p <;> first | rfl | exact absurd (by decide) hp

theorem State.releaseStranger_touches (k user : Nat) : OnlyTouches [.stories, .lines] s (s.releaseStranger k user) := by
  unfold State.releaseStranger
  split
  · exact s.releaseHold_touches _
  · exact .refl _ s

theorem State.resumeFor_touches (k user : Nat) : OnlyTouches [.stories, .lines] s (s.resumeFor k user) := by
  unfold State.resumeFor
  split
  · exact s.resumeOrphan_touches k _ _
  · exact .refl _ s

theorem State.grant_touches (k user desk : Nat) (role : Role) :
    OnlyTouches [.stories, .lines, .flashes] s (s.grant k user desk role) :=
  ((((((((((s.updLine_touches k _).mono (by decide)).trans (State.releaseStranger_touches _ k user) (by decide)).trans
    (State.resumeFor_touches _ k user) (by decide)).trans (State.updLine_touches _ k _) (by decide)).trans
    (State.joinFlashes_touches _ k desk) (by decide)).trans (State.answerService_touches _ k _ _ _) (by decide)).trans
    (State.putHome_touches _ k desk 0) (by decide)).trans (State.refreshLine_touches _ k) (by decide)).trans
    (State.updLine_touches _ k _) (by decide)).trans (State.lampAnew_touches _ k) (by decide)

theorem State.verdictGrant_touches (k desk role : Nat) :
    OnlyTouches [.stories, .lines, .flashes] s (s.verdictGrant k desk role).2.2 := by
  unfold State.verdictGrant
  dsimp only
  repeat' split
  all_goals first
    | exact .refl _ s
    | exact s.grant_touches k _ desk _
    | (rw [s.lateVerdict_state]; exact .refl _ s)

theorem State.deny_touches (k : Nat) : OnlyTouches [.lines] s (s.deny k) :=
  (s.updLine_touches k _).trans (State.answerService_touches _ k _ _ _) (by decide)

theorem State.verdictDeny_touches (k : Nat) : OnlyTouches [.lines] s (s.verdictDeny k).2.2 := by
  unfold State.verdictDeny
  repeat' split
  all_goals first
    | exact .refl _ s
    | exact s.deny_touches k
    | (rw [s.lateVerdict_state]; exact .refl _ s)

theorem State.signoff_touches (k : Nat) : OnlyTouches [.stories, .lines, .flashes] s (s.signoff k).2.2 :=
  ((((s.releaseHeld_touches k).mono (by decide)).trans (State.updLine_touches _ k _) (by decide)).trans
    (State.unseeLine_touches _ k) (by decide)).trans (State.lampAnew_touches _ k) (by decide)

theorem State.windowFrom_touches (k : Nat) (first : Option Nat) : OnlyTouches [.lines] s (s.windowFrom k first).2.2 := by
  unfold State.windowFrom
  dsimp only
  repeat' split
  all_goals first
    | exact .refl _ s
    | exact s.putWindow_touches k _ _

theorem State.returnLines_touches (k : Nat) (range : Option (Nat × Nat)) (new : List CopyLine) :
    OnlyTouches [.stories, .store, .channel, .fit, .pages, .lines] s (s.returnLines k range new).2.2 := by
  unfold State.returnLines
  dsimp only
  repeat' split
  all_goals first
    | exact .refl _ s
    | exact (s.changeText_touches _ _ _).trans (State.putWindow_touches _ k _ _) (by decide)

theorem State.home_touches (k : Nat) (desk first : Option Nat) : OnlyTouches [.lines] s (s.home k desk first).2.2 := by
  unfold State.home State.homeFrom
  dsimp only
  repeat' split
  all_goals first
    | exact .refl _ s
    | exact s.putHome_touches k _ _

theorem State.setFlashes_touches (f : Flashes) : OnlyTouches [.flashes] s { s with flashes := f } := by
  intro p hp
  cases p <;> first | rfl | exact absurd (by decide) hp

theorem State.flash_touches (text : List Byte) (mask : BitVec 16) :
    OnlyTouches [.flashes, .lines] s (s.flash text mask).2.2 := by
  unfold State.flash
  split
  · exact .refl _ s
  · exact ((((s.setFlashes_touches _).mono (by decide)).trans (State.refresh_touches _ _) (by decide)).trans
      (State.wake_touches _ _) (by decide)).trans (State.lamps_touches _ _) (by decide)

theorem State.chooseLamp_touches (k source : Nat) : OnlyTouches [.lines] s (s.chooseLamp k source).2.2 := by
  unfold State.chooseLamp
  dsimp only
  repeat' split
  all_goals first
    | exact .refl _ s
    | exact (s.updLine_touches k _).trans (State.lampAnew_touches _ k) (by decide)

theorem State.setFit_touches (e : FitEngine) : OnlyTouches [.fit] s { s with fit := e } := by
  intro p hp
  cases p <;> first | rfl | exact absurd (by decide) hp

theorem State.loadStyle_touches (n : Nat) (f : StyleFields) :
    OnlyTouches [.stories, .fit, .pages, .lines, .channel] s (s.loadStyle n f).2.2 := by
  have hload : OnlyTouches [.stories, .fit, .pages, .lines, .channel] s
      (State.tableLoad s { s with fit := { s.fit with styles := s.fit.styles.setIfInBounds n ((s.style n).merge f) } }) :=
    ((s.setFit_touches _).mono (by decide)).trans (State.tableLoad_touches _ s) (by decide)
  unfold State.loadStyle
  dsimp only
  split
  · exact .refl _ s
  · split
    · exact .refl _ s
    · dsimp only
      exact hload

theorem State.loadWidths_touches (font c : Nat) (values : List Nat) :
    OnlyTouches [.stories, .fit, .pages, .lines, .channel] s (s.loadWidths font c values).2.2 := by
  have hload : OnlyTouches [.stories, .fit, .pages, .lines, .channel] s
      (State.tableLoad s { s with fit := s.fit.loadWidths font c values }) :=
    ((s.setFit_touches _).mono (by decide)).trans (State.tableLoad_touches _ s) (by decide)
  unfold State.loadWidths
  dsimp only
  split
  · exact .refl _ s
  · split
    · exact .refl _ s
    · dsimp only
      exact hload

theorem State.pageopen_touches (label : Nat) (edition tolerance : Option Nat) :
    OnlyTouches [.pages] s (s.pageopen label edition tolerance).2.2 := by
  unfold State.pageopen
  dsimp only
  repeat' split
  all_goals first
    | exact .refl _ s
    | exact s.setPage_touches _ _

theorem State.defineSlot_touches (g k depth measure : Nat) :
    OnlyTouches [.stories, .fit, .pages, .lines, .channel] s (s.defineSlot g k depth measure) := by
  have h : OnlyTouches [.stories, .fit, .pages, .lines, .channel] s
      (s.updPage g fun p => p.setSlot k (some (redefineSlot ((s.page g).slot k) depth measure))) :=
    (s.updPage_touches g _).mono (by decide)
  unfold State.defineSlot
  dsimp only
  repeat' split
  all_goals first
    | exact h
    | exact ((h.trans (State.makeStale_touches _ _) (by decide)).trans (State.judge_touches _ g) (by decide)).trans
        (State.noticeFit_touches _ s g) (by decide)

theorem State.slotDefine_touches (g k depth measure : Nat) :
    OnlyTouches [.stories, .fit, .pages, .lines, .channel] s (s.slotDefine g k depth measure).2.2 := by
  unfold State.slotDefine
  dsimp only
  repeat' split
  all_goals first
    | exact .refl _ s
    | exact s.defineSlot_touches g k depth measure

theorem State.slotUndefine_touches (g k : Nat) : OnlyTouches [.pages] s (s.slotUndefine g k).2.2 := by
  unfold State.slotUndefine
  repeat' split
  all_goals first
    | exact .refl _ s
    | exact s.updPage_touches g _

theorem State.place_touches (n g : Nat) (run : List Nat) :
    OnlyTouches [.stories, .desks, .fit, .pages, .lines, .channel] s (s.place n g run) := by
  have h : OnlyTouches [.stories, .desks, .fit, .pages, .lines, .channel] s
      (if (s.story n).stage = .basket then s.depart n else s.emptySlots g n) := by
    split
    · exact (s.depart_touches n).mono (by decide)
    · exact (s.emptySlots_touches g n).mono (by decide)
  exact ((((((h.trans (State.updStory_touches _ n _) (by decide)).trans (State.updPage_touches _ g _) (by decide)).trans
    (State.makeStale_touches _ n) (by decide)).trans (State.judge_touches _ g) (by decide)).trans
    (State.lampHolder_touches _ n) (by decide))).trans (State.noticeFit_touches _ s g) (by decide)

theorem State.placeStory_touches (n g : Nat) (run : List Nat) :
    OnlyTouches [.stories, .desks, .fit, .pages, .lines, .channel] s (s.placeStory n g run).2.2 := by
  unfold State.placeStory
  dsimp only
  repeat' split
  all_goals first
    | exact .refl _ s
    | exact s.place_touches n g run

theorem State.unplace_touches (n g : Nat) :
    OnlyTouches [.stories, .desks, .fit, .pages, .lines, .channel] s (s.unplace n g) :=
  (((((((s.emptySlots_touches g n).mono (by decide)).trans (State.updStory_touches _ n _) (by decide)).trans
    (State.arrive_touches _ n) (by decide)).trans (State.makeStale_touches _ n) (by decide)).trans
    (State.judge_touches _ g) (by decide)).trans (State.lampHolder_touches _ n) (by decide)).trans
    (State.noticeFit_touches _ s g) (by decide)

theorem State.unplaceStory_touches (n : Nat) :
    OnlyTouches [.stories, .desks, .fit, .pages, .lines, .channel] s (s.unplaceStory n).2.2 := by
  unfold State.unplaceStory
  dsimp only
  repeat' split
  all_goals first
    | exact .refl _ s
    | exact s.unplace_touches n _

theorem State.setChoices_touches (c : Nat) : OnlyTouches [.choices] s { s with choices := c } := by
  intro p hp
  cases p <;> first | rfl | exact absurd (by decide) hp

theorem State.release_touches (g : Nat) (choice : PortChoice) (trim : Bool) :
    OnlyTouches [.output, .stories, .pages, .channel] s (s.release g choice trim) :=
  ((s.updPage_touches g _).mono (by decide)).trans (State.endWait_touches _ g) (by decide)

theorem State.releasePage_touches (g choice trim : Nat) :
    OnlyTouches [.output, .stories, .pages, .channel, .choices] s (s.releasePage g choice trim).2.2 := by
  unfold State.releasePage State.refuseRelease
  dsimp only
  repeat' split
  all_goals first
    | exact .refl _ s
    | exact (s.release_touches g _ _).mono (by decide)
    | exact (s.setChoices_touches _).mono (by decide)

theorem State.cancel_touches (g : Nat) : OnlyTouches [.output, .stories, .pages] s (s.cancel g).2.2 := by
  unfold State.cancel
  dsimp only
  repeat' split
  all_goals first
    | exact .refl _ s
    | exact (s.returnPage_touches g).mono (by decide)
    | exact s.cancelQueued_touches g
    | exact s.cancelSetting_touches g

theorem State.reopen_touches (g : Nat) : OnlyTouches [.stories, .fit, .pages, .lines, .channel] s (s.reopen g).2.2 := by
  unfold State.reopen
  repeat' split
  all_goals first
    | exact .refl _ s
    | exact ((s.reopenPage_touches g).mono (by decide)).trans (State.noticeFit_touches _ s g) (by decide)

theorem State.pageshut_touches (g : Nat) : OnlyTouches [.pages] s (s.pageshut g).2.2 := by
  unfold State.pageshut
  dsimp only
  repeat' split
  all_goals first
    | exact .refl _ s
    | exact s.setPage_touches g _

theorem State.pageinfo_state (g : Nat) : (s.pageinfo g).2.2 = s := by
  unfold State.pageinfo
  split <;> rfl

theorem State.setOutput_touches (o : Output) : OnlyTouches [.output] s { s with output := o } := by
  intro p hp
  cases p <;> first | rfl | exact absurd (by decide) hp

theorem State.loadXlate_touches (c : Nat) (entries : List (List Nat)) :
    OnlyTouches [.output] s (s.loadXlate c entries).2.2 := by
  unfold State.loadXlate
  repeat' split
  all_goals first
    | exact .refl _ s
    | exact s.setOutput_touches _

theorem State.portset_touches (port : Nat) (lossTime failover : Option Nat) :
    OnlyTouches [.output] s (s.portset port lossTime failover).2.2 := by
  unfold State.portset
  dsimp only
  repeat' split
  all_goals first
    | exact .refl _ s
    | exact s.updPort_touches _ _

theorem State.portReady_touches (p : Port) : OnlyTouches [.output, .pages] s (s.portReady p) :=
  ((s.updPort_touches p _).mono (by decide)).trans (State.arbitrate_touches _) (by decide)

theorem State.porton_touches (port : Nat) : OnlyTouches [.output, .pages] s (s.porton port).2.2 := by
  unfold State.porton
  dsimp only
  repeat' split
  all_goals first
    | exact .refl _ s
    | exact s.portReady_touches _

theorem State.portoff_touches (port : Nat) : OnlyTouches [.output, .stories, .pages] s (s.portoff port).2.2 := by
  unfold State.portoff
  repeat' split
  all_goals first
    | exact .refl _ s
    | exact s.cancelAtPort_touches _ _ _
    | exact (s.updPort_touches _ _).mono (by decide)

theorem State.resumePort_touches (port : Nat) : OnlyTouches [.output, .pages] s (s.resumePort port).2.2 := by
  unfold State.resumePort
  dsimp only
  repeat' split
  all_goals first
    | exact .refl _ s
    | exact s.portReady_touches _

theorem State.portclr_touches (port : Nat) : OnlyTouches [.output] s (s.portclr port).2.2 := by
  unfold State.portclr
  split
  · exact s.updPort_touches _ _
  · exact .refl _ s

theorem State.portstat_state (port : Nat) : (s.portstat port).2.2 = s := by
  unfold State.portstat
  split <;> rfl

theorem State.infoOf_state (n : Nat) : (s.infoOf n).2.2 = s := by
  unfold State.infoOf
  repeat' split
  all_goals rfl

theorem State.readLines_state (n f : Nat) : (s.readLines n f).2.2 = s := by
  unfold State.readLines
  dsimp only
  repeat' split
  all_goals rfl

theorem State.setClock_touches (c : Clock) : OnlyTouches [.clock] s { s with clock := c } := by
  intro p hp
  cases p <;> first | rfl | exact absurd (by decide) hp

theorem State.startClock_touches (edition countdown : Nat) :
    OnlyTouches [.clock, .channel, .lines] s (s.startClock edition countdown) :=
  (((s.setClock_touches _).mono (by decide)).trans ((State.warnNear_touches _).mono (qs := [.clock, .channel, .lines])
    (by decide)) (by decide)).trans (State.clockEvent_touches _) (by decide)

theorem State.clkstart_touches (edition countdown : Nat) :
    OnlyTouches [.clock, .channel, .lines] s (s.clkstart edition countdown).2.2 := by
  unfold State.clkstart
  dsimp only
  repeat' split
  all_goals first
    | exact .refl _ s
    | exact s.startClock_touches edition countdown

theorem State.clknext_touches (countdown : Nat) : OnlyTouches [.clock, .channel, .lines] s (s.clknext countdown).2.2 := by
  have h : OnlyTouches [.clock, .channel, .lines] s (s.nextDeadline countdown) := by
    unfold State.nextDeadline
    split
    · exact (s.setClock_touches _).mono (by decide)
    · exact s.switchEdition_touches countdown
    · exact .refl _ s
  unfold State.clknext
  dsimp only
  repeat' split
  all_goals first
    | exact .refl _ s
    | exact h

theorem State.stopClock_touches : OnlyTouches [.clock, .channel, .lines] s s.stopClock := by
  unfold State.stopClock
  split
  · exact .refl _ s
  · exact ((s.setClock_touches _).mono (by decide)).trans (State.clockEvent_touches _) (by decide)

theorem State.setThreshold_touches (seconds : Nat) :
    OnlyTouches [.clock, .channel, .lines] s (s.setThreshold seconds) := by
  have h : OnlyTouches [.clock, .channel, .lines] s
      (State.lampsDeadline { s with clock := { s.clock with threshold := clamp 0 3600 seconds } }) :=
    ((s.setClock_touches _).mono (by decide)).trans (State.lampsDeadline_touches _) (by decide)
  unfold State.setThreshold
  dsimp only
  split
  · exact h.trans (State.warnNear_touches _) (by decide)
  · exact h

theorem State.setChannel_touches (c : Channel) : OnlyTouches [.channel] s { s with channel := c } := by
  intro p hp
  cases p <;> first | rfl | exact absurd (by decide) hp

end Rules

end Sys2Proof.Machine

namespace Sys2Proof.Machine

/-! ### The rule of each request -/

/-- The rule of the block that owns a request: what `exec` hands to `hostStep` or `lineStep` (`exec_fromHost`, `exec_fromLine`). A
SIGNON, a RESTART and the events of the part are served in their own ways. -/
def State.rule (s : State) : Instr → Verdict
  | .create _ slug desk style priority => s.create slug desk style priority
  | .textAppend _ n style new => s.textAppend n style new
  | .textReplace _ n style new => s.textReplace n style new
  | .textReplaceRange _ n style f k new => s.textReplaceRange n style f k new
  | .read _ n f => s.readLines n f
  | .info _ n => s.infoOf n
  | .purge _ n => s.purge n
  | .new k slug style priority => s.newStory k slug style priority
  | .hostRoute _ n desk => s.hostRoute n desk
  | .terminalRoute k n desk => s.lineRoute k n desk
  | .hostPriority _ n priority => s.hostPriority n priority
  | .terminalPriority k priority => s.linePriority k priority
  | .hostSpike _ n => s.hostSpike n
  | .terminalSpike k n => s.lineSpike k n
  | .unspike _ n => s.unspike n
  | .hostKill _ n => s.hostKill n
  | .terminalKill k n => s.lineKill k n
  | .arm k => s.armOverride k
  | .basket _ desk list p => s.basketOf desk list p
  | .terminalOpen k n => s.lineOpen k n
  | .hostOpen _ n => s.hostOpen n
  | .terminalClose k => s.lineClose k
  | .hostClose _ n => s.hostClose n
  | .free _ n => s.freeHold n
  | .holdtime _ seconds => s.holdtime seconds
  | .lineset _ k speed model dimTime wakeFlash wakeUrgent => s.lineset k speed model dimTime wakeFlash wakeUrgent
  | .lineon _ k => s.lineon k
  | .lineoff _ k => s.lineoff k
  | .linestat _ k => s.linestat k
  | .verdictGrant _ k desk role => s.verdictGrant k desk role
  | .verdictDeny _ k => s.verdictDeny k
  | .signoff k => s.signoff k
  | .window k first => s.windowFrom k first
  | .ret k range new => s.returnLines k range new
  | .home k desk first => s.home k desk first
  | .seen k => s.seen k
  | .flash _ text mask => s.flash text mask
  | .lamp _ k source => s.chooseLamp k source
  | .style _ n f => s.loadStyle n f
  | .widths _ font c values => s.loadWidths font c values
  | .pageopen _ label edition tolerance => s.pageopen label edition tolerance
  | .slotDefine _ g k depth measure => s.slotDefine g k depth measure
  | .slotUndefine _ g k => s.slotUndefine g k
  | .place _ n g run => s.placeStory n g run
  | .unplace _ n => s.unplaceStory n
  | .release _ g choice trim => s.releasePage g choice trim
  | .cancel _ g => s.cancel g
  | .reopen _ g => s.reopen g
  | .pageshut _ g => s.pageshut g
  | .pageinfo _ g => s.pageinfo g
  | .xlate _ c entries => s.loadXlate c entries
  | .portset _ port lossTime failover => s.portset port lossTime failover
  | .porton _ port => s.porton port
  | .portoff _ port => s.portoff port
  | .resume _ port => s.resumePort port
  | .portclr _ port => s.portclr port
  | .portstat _ port => s.portstat port
  | .queue _ => (.done, queueBytes s.output.queue, s)
  | .clkstart _ edition countdown => s.clkstart edition countdown
  | .clknext _ countdown => s.clknext countdown
  | .clkstop _ => (.done, [], s.stopClock)
  | .clkread _ => (.done, clockBytes s.clock, s)
  | .warn _ seconds => s.warn seconds
  | .sweep _ => s.sweep
  | .ident _ => (.done, identBytes, s)
  | _ => refuse s .badField

/-- Every host request but a RESTART is served by its rule (R180, R182). -/
theorem exec_fromHost {i : Instr} (hhost : i.fromHost = true) (hrestart : ∀ tag, i ≠ .restart tag) (s : State) :
    exec i s = hostStep i (fun s => s.rule i) s := by
  cases i
  case restart tag => exact absurd rfl (hrestart tag)
  all_goals first
    | exact absurd hhost Bool.false_ne_true
    | rfl

/-- Every terminal request but a SIGNON is served by its rule (R71, R72). -/
theorem exec_fromLine {i : Instr} {k : Fin 32} (hline : i.fromLine = some k) (hsignon : ∀ l user, i ≠ .signon l user)
    (s : State) : exec i s = lineStep k i (fun s => s.rule i) s := by
  cases i
  case signon l user => exact absurd rfl (hsignon l user)
  all_goals cases hline
  all_goals rfl

end Sys2Proof.Machine

namespace Sys2Proof

/-! ### The parts each command can touch -/

/-- The parts of the state that a command can touch: what its rule or its event changes (`rule_touches`, `exec_touches`); the
channel of a host request and the line of a terminal one are added by `Instr.reach`. -/
def Instr.parts : Instr → List Machine.Part
  | .create .. | .new .. => [.stories, .desks, .fit, .lines, .channel]
  | .textAppend .. | .textReplace .. | .textReplaceRange .. | .ret .. => [.stories, .store, .channel, .fit, .pages, .lines]
  | .purge .. => [.stories, .desks, .store, .pages, .channel]
  | .hostRoute .. | .terminalRoute .. | .hostPriority .. | .terminalPriority .. => [.stories, .desks, .lines, .channel]
  | .hostSpike .. | .terminalSpike .. => [.stories, .desks, .fit, .pages, .lines]
  | .unspike .. | .place .. | .unplace .. => [.stories, .desks, .fit, .pages, .lines, .channel]
  | .hostKill .. | .terminalKill .. => [.output, .stories, .pages, .fit, .lines, .desks, .channel]
  | .arm .. | .lineset .. | .linestat .. | .verdictDeny .. | .window .. | .home .. | .lamp .. => [.lines]
  | .terminalOpen .. | .hostOpen .. | .terminalClose .. | .hostClose .. | .free .. => [.stories, .lines]
  | .holdtime .. => [.orphanWindow]
  | .lineon .. | .carrierReturn .. | .signon .. => [.lines, .channel]
  | .lineoff .. | .carrierDrop .. => [.stories, .lines, .flashes, .channel]
  | .verdictGrant .. | .signoff .. => [.stories, .lines, .flashes]
  | .seen .. | .flash .. => [.lines, .flashes]
  | .style .. | .widths .. | .slotDefine .. | .reopen .. => [.stories, .fit, .pages, .lines, .channel]
  | .pageopen .. | .slotUndefine .. | .pageshut .. => [.pages]
  | .release .. => [.output, .stories, .pages, .channel, .choices]
  | .cancel .. | .portoff .. => [.output, .stories, .pages]
  | .xlate .. | .portset .. | .portclr .. | .abortCodeSent .. | .readyLeadFall .. => [.output]
  | .porton .. | .resume .. | .codeAccepted .. => [.output, .pages]
  | .clkstart .. | .clknext .. | .clkstop .. | .warn .. | .terminalCount => [.clock, .channel, .lines]
  | .sweep .. | .restart .. | .hostFrameDiscarded .. | .requestArrival .. => [.channel]
  | .hostFrameSent => [.channel, .choices]
  | .orphanExpiry .. => [.stories, .lines, .channel]
  | .terminalFrameReceived .. | .terminalFrameDiscarded .. | .lineFrameSent .. | .signonTimeout .. | .dim .. => [.lines]
  | .fitTake => [.stories, .fit, .pages, .lines]
  | .fitCompletion => [.stories, .fit, .pages, .output, .lines, .channel]
  | .readyLeadRise .. => [.output, .channel]
  | .resultDone .. | .resultFault .. | .portLoss .. => [.output, .stories, .pages, .channel]
  | .secondsTick => [.clock, .channel, .lines, .stories, .output, .pages]
  | .restartTakesEffect => [.stories, .lines, .flashes, .fit, .pages, .output, .channel]
  | .powerReset =>
    [.stories, .desks, .store, .orphanWindow, .lines, .flashes, .fit, .pages, .output, .clock, .channel]
  | .unknownRequest .. | .read .. | .info .. | .basket .. | .pageinfo .. | .portstat .. | .queue .. | .clkread .. | .ident ..
  | .resultCodeOther .. => []

/-- The parts that a step of the command can touch, the channel of a host request and the line of a terminal one included. -/
def Instr.reach (i : Instr) : List Machine.Part :=
  if i.fromHost then .channel :: i.parts else if i.fromLine.isSome then .lines :: i.parts else i.parts

end Sys2Proof

namespace Sys2Proof.Machine

theorem OnlyTouches.of_eq {ps : List Part} {s t : State} (h : t = s) : OnlyTouches ps s t := h ▸ .refl ps s

theorem State.sweep_touches (s : State) : OnlyTouches [.channel] s s.sweep.2.2 := s.setChannel_touches _

/-- What a request's rule can touch. -/
theorem State.rule_touches (s : State) (i : Instr) : OnlyTouches i.parts s (s.rule i).2.2 := by
  cases i
  case create tag slug desk style priority => exact s.create_touches slug desk style priority
  case textAppend => exact s.textAppend_touches _ _ _
  case textReplace => exact s.textReplace_touches _ _ _
  case textReplaceRange => exact s.textReplaceRange_touches _ _ _ _ _
  case read => exact .of_eq (s.readLines_state _ _)
  case info => exact .of_eq (s.infoOf_state _)
  case purge => exact s.purge_touches _
  case new => exact s.newStory_touches _ _ _ _
  case hostRoute => exact s.hostRoute_touches _ _
  case terminalRoute => exact s.lineRoute_touches _ _ _
  case hostPriority => exact s.hostPriority_touches _ _
  case terminalPriority => exact s.linePriority_touches _ _
  case hostSpike => exact s.hostSpike_touches _
  case terminalSpike => exact s.lineSpike_touches _ _
  case unspike => exact s.unspike_touches _
  case hostKill => exact s.hostKill_touches _
  case terminalKill => exact s.lineKill_touches _ _
  case arm => exact s.armOverride_touches _
  case basket => exact .of_eq (s.basketOf_state _ _ _)
  case terminalOpen => exact s.lineOpen_touches _ _
  case hostOpen => exact (s.hostOpen_touches _).mono (qs := [.stories, .lines]) (by decide)
  case terminalClose => exact s.lineClose_touches _
  case hostClose => exact s.hostClose_touches _
  case free => exact s.freeHold_touches _
  case holdtime => exact s.holdtime_touches _
  case lineset => exact s.lineset_touches _ _ _ _ _ _
  case lineon => exact s.lineon_touches _
  case lineoff => exact s.lineoff_touches _
  case linestat => exact s.linestat_touches _
  case verdictGrant => exact s.verdictGrant_touches _ _ _
  case verdictDeny => exact s.verdictDeny_touches _
  case signoff => exact s.signoff_touches _
  case window => exact s.windowFrom_touches _ _
  case ret => exact s.returnLines_touches _ _ _
  case home => exact s.home_touches _ _ _
  case seen => exact s.flashesSeen_touches _
  case flash => exact (s.flash_touches _ _).mono (qs := [.lines, .flashes]) (by decide)
  case lamp => exact s.chooseLamp_touches _ _
  case style => exact s.loadStyle_touches _ _
  case widths => exact s.loadWidths_touches _ _ _
  case pageopen => exact s.pageopen_touches _ _ _
  case slotDefine => exact s.slotDefine_touches _ _ _ _
  case slotUndefine => exact s.slotUndefine_touches _ _
  case place => exact s.placeStory_touches _ _ _
  case unplace => exact s.unplaceStory_touches _
  case release => exact s.releasePage_touches _ _ _
  case cancel => exact s.cancel_touches _
  case reopen => exact s.reopen_touches _
  case pageshut => exact s.pageshut_touches _
  case pageinfo => exact .of_eq (s.pageinfo_state _)
  case xlate => exact s.loadXlate_touches _ _
  case portset => exact s.portset_touches _ _ _
  case porton => exact s.porton_touches _
  case portoff => exact s.portoff_touches _
  case resume => exact s.resumePort_touches _
  case portclr => exact s.portclr_touches _
  case portstat => exact .of_eq (s.portstat_state _)
  case clkstart => exact s.clkstart_touches _ _
  case clknext => exact s.clknext_touches _
  case clkstop => exact s.stopClock_touches
  case warn => exact s.setThreshold_touches _
  case sweep => exact s.sweep_touches
  all_goals exact .refl _ s

theorem hostStep_touches {i : Instr} {act : State → Verdict} {ps : List Part}
    (hact : ∀ s, OnlyTouches ps s (act s).2.2) (s : State) :
    ∃ t, hostStep i act s = .next t ∧ OnlyTouches (.channel :: ps) s t := by
  refine ⟨_, rfl, ?_⟩
  have hoffer := (s.offer_touches i).mono (List.cons_subset_cons .channel (List.nil_subset ps))
  unfold State.serveHost
  split
  · exact (hoffer.trans (hact _) (List.subset_cons_self _ _)).trans (State.setChannel_touches _ _)
      (List.cons_subset_cons _ (List.nil_subset _))
  · exact hoffer

theorem lineStep_touches {k : Fin 32} {i : Instr} {act : State → Verdict} {ps : List Part}
    (hact : ∀ s, OnlyTouches ps s (act s).2.2) (s : State) :
    ∃ t, lineStep k i act s = .next t ∧ OnlyTouches (.lines :: ps) s t := by
  refine ⟨_, rfl, ?_⟩
  have hlines : [Part.lines] ⊆ .lines :: ps := List.cons_subset_cons _ (List.nil_subset _)
  have hoffer := (s.offerFrame_touches k i).mono hlines
  unfold State.serveLine
  dsimp only
  split
  · exact (hoffer.trans (hact _) (List.subset_cons_self _ _)).trans (State.answerService_touches _ _ _ _ _) hlines
  · exact hoffer

/-! ### The part's own events -/

section Events
variable (s : State)

theorem execPowerReset_touches : ∃ t, execPowerReset s = .next t ∧ OnlyTouches Instr.powerReset.parts s t := by
  refine ⟨_, rfl, ?_⟩
  intro p hp
  cases p <;> first | rfl | exact absurd (by decide) hp

theorem execHostFrameSent_touches : ∃ t, execHostFrameSent s = .next t ∧ OnlyTouches [.channel, .choices] s t := by
  refine ⟨_, rfl, ?_⟩
  split
  · exact (s.setChannel_touches _).mono (by decide)
  · split
    · exact (s.setChannel_touches _).mono (by decide)
    · intro p hp
      cases p <;> first | rfl | exact absurd (by decide) hp
  · exact (s.setChannel_touches _).mono (by decide)

theorem execOrphanExpiry_touches (n : Nat) :
    ∃ t, execOrphanExpiry n s = .next t ∧ OnlyTouches [.stories, .lines, .channel] s t := by
  refine ⟨_, rfl, ?_⟩
  repeat' split
  all_goals first
    | exact .refl _ s
    | exact s.orphanExpires_touches n _ _

theorem State.orphanHeld_touches (k : Nat) : OnlyTouches [.stories] s (s.orphanHeld k) := by
  unfold State.orphanHeld
  dsimp only
  repeat' split
  all_goals first
    | exact .refl _ s
    | exact s.updStory_touches _ _

theorem State.loseCarrier_touches (k : Nat) : OnlyTouches [.stories, .lines, .flashes, .channel] s (s.loseCarrier k) :=
  (((((s.orphanHeld_touches k).mono (by decide)).trans (State.updLine_touches _ k _) (by decide)).trans
    (State.unseeLine_touches _ k) (by decide)).trans (State.lampAnew_touches _ k) (by decide)).trans
    (State.raise_touches _ _) (by decide)

theorem execCarrierDrop_touches (k : Fin 32) :
    ∃ t, execCarrierDrop k s = .next t ∧ OnlyTouches [.stories, .lines, .flashes, .channel] s t := by
  refine ⟨_, rfl, ?_⟩
  split
  · exact s.loseCarrier_touches k
  · exact (s.updLine_touches _ _).mono (by decide)

theorem State.regainCarrier_touches (k : Nat) : OnlyTouches [.lines, .channel] s (s.regainCarrier k) :=
  (((s.updLine_touches k _).mono (by decide)).trans (State.lampAnew_touches _ k) (by decide)).trans
    (State.raise_touches _ _) (by decide)

theorem execCarrierReturn_touches (k : Fin 32) :
    ∃ t, execCarrierReturn k s = .next t ∧ OnlyTouches [.lines, .channel] s t := by
  refine ⟨_, rfl, ?_⟩
  split
  · exact s.regainCarrier_touches k
  · exact (s.updLine_touches _ _).mono (by decide)

theorem execTerminalFrameReceived_touches (k : Fin 32) (chars : List Byte) :
    ∃ t, execTerminalFrameReceived k chars s = .next t ∧ OnlyTouches [.lines] s t :=
  ⟨_, rfl, .foldl (fun t b => t.receiveChar_touches k b) chars s⟩

theorem execTerminalFrameDiscarded_touches (k : Fin 32) (f : LineFault) :
    ∃ t, execTerminalFrameDiscarded k f s = .next t ∧ OnlyTouches [.lines] s t := by
  refine ⟨_, rfl, ?_⟩
  split
  · exact s.gateFault_touches k f
  · exact .refl _ s

theorem execLineFrameSent_touches (k : Fin 32) : ∃ t, execLineFrameSent k s = .next t ∧ OnlyTouches [.lines] s t := by
  refine ⟨_, rfl, ?_⟩
  split
  · exact s.updLine_touches _ _
  · exact .refl _ s

theorem State.beginSignon_touches (k user : Nat) : OnlyTouches [.lines, .channel] s (s.beginSignon k user) :=
  ((s.updLine_touches k _).mono (by decide)).trans (State.raise_touches _ _) (by decide)

theorem execSignon_touches (k : Fin 32) (user : Nat) :
    ∃ t, execSignon k user s = .next t ∧ OnlyTouches [.lines, .channel] s t := by
  refine ⟨_, rfl, ?_⟩
  have hoffer := (s.offerFrame_touches k (.signon k user)).mono (qs := [.lines, .channel]) (by decide)
  dsimp only
  repeat' split
  · exact hoffer.trans (State.beginSignon_touches _ k user) (by decide)
  · exact hoffer.trans (State.answerService_touches _ _ _ _ _) (by decide)
  · exact hoffer

theorem execSignonTimeout_touches (k : Fin 32) : ∃ t, execSignonTimeout k s = .next t ∧ OnlyTouches [.lines] s t := by
  refine ⟨_, rfl, ?_⟩
  repeat' split
  all_goals first
    | exact .refl _ s
    | exact s.signonExpires_touches k

theorem execDim_touches (k : Fin 32) : ∃ t, execDim k s = .next t ∧ OnlyTouches [.lines] s t := by
  refine ⟨_, rfl, ?_⟩
  repeat' split
  all_goals first
    | exact .refl _ s
    | exact s.goDim_touches k

theorem State.takeFit_touches : OnlyTouches [.stories, .fit, .pages, .lines] s s.takeFit := by
  unfold State.takeFit
  split
  · exact (((s.setFit_touches _).mono (by decide)).trans (State.updStory_touches _ _ _) (by decide)).trans
      (State.handOff_touches _ _) (by decide)
  · exact .refl _ s

theorem State.requeueFit_touches (n : Nat) : OnlyTouches [.stories, .fit, .pages, .lines] s (s.requeueFit n) :=
  (((s.updStory_touches n _).mono (by decide)).trans (State.setFitQueue_touches _ _) (by decide)).trans
    (State.handOff_touches _ _) (by decide)

theorem State.writeFit_touches (n : Nat) (f : FitResults) :
    OnlyTouches [.stories, .fit, .pages, .output, .lines, .channel] s (s.writeFit n f) :=
  ((((s.updStory_touches n _).mono (by decide)).trans (State.handOff_touches _ n) (by decide)).trans
    (State.noticeFitOf_touches _ s n) (by decide)).trans (State.endWaitOf_touches _ n) (by decide)

theorem State.completeFit_touches : OnlyTouches [.stories, .fit, .pages, .output, .lines, .channel] s s.completeFit := by
  unfold State.completeFit
  split
  · exact .refl _ s
  · have h : OnlyTouches [.stories, .fit, .pages, .output, .lines, .channel] s
        { s with fit := { s.fit with inFlight := none } } := (s.setFit_touches _).mono (by decide)
    dsimp only
    split
    · exact h
    · split
      · exact h.trans (State.requeueFit_touches _ _) (by decide)
      · exact h.trans (State.writeFit_touches _ _ _) (by decide)

theorem State.acceptCode_touches (p : Port) : OnlyTouches [.output, .pages] s (s.acceptCode p) := by
  unfold State.acceptCode
  dsimp only
  repeat' split
  all_goals first
    | exact .refl _ s
    | exact ((s.setPort_touches p _).mono (by decide)).trans (State.updPage_touches _ _ _) (by decide)

theorem execAbortCodeSent_touches (p : Port) : ∃ t, execAbortCodeSent p s = .next t ∧ OnlyTouches [.output] s t := by
  refine ⟨_, rfl, ?_⟩
  split
  · exact s.updPort_touches p _
  · exact .refl _ s

theorem execReadyLeadRise_touches (p : Port) :
    ∃ t, execReadyLeadRise p s = .next t ∧ OnlyTouches [.output, .channel] s t := by
  refine ⟨_, rfl, ?_⟩
  dsimp only
  repeat' split
  · exact (s.setPort_touches p _).mono (by decide)
  · exact ((s.setPort_touches p _).mono (by decide)).trans (State.raise_touches _ _) (by decide)
  · exact (s.setPort_touches p _).mono (by decide)

theorem State.completeJob_touches (p : Port) (g : Nat) :
    OnlyTouches [.output, .stories, .pages, .channel] s (s.completeJob p g) :=
  (((((s.moveStories_touches g _ _).mono (by decide)).trans (State.updPage_touches _ g _) (by decide)).trans
    (State.updPort_touches _ p _) (by decide)).trans (State.arbitrate_touches _) (by decide)).trans
    (State.raise_touches _ _) (by decide)

theorem State.failJob_touches (p : Port) (g : Nat) :
    OnlyTouches [.output, .stories, .pages, .channel] s (s.failJob p g) :=
  ((((s.updPort_touches p _).mono (by decide)).trans (State.endRecord_touches _ g _) (by decide)).trans
    (State.returnPage_touches _ g) (by decide)).trans (State.raise_touches _ _) (by decide)

theorem execResultDone_touches (p : Port) :
    ∃ t, execResultDone p s = .next t ∧ OnlyTouches [.output, .stories, .pages, .channel] s t := by
  refine ⟨_, rfl, ?_⟩
  split
  · exact s.completeJob_touches p _
  · exact .refl _ s

theorem execResultFault_touches (p : Port) :
    ∃ t, execResultFault p s = .next t ∧ OnlyTouches [.output, .stories, .pages, .channel] s t := by
  refine ⟨_, rfl, ?_⟩
  split
  · exact s.failJob_touches p _
  · exact .refl _ s

theorem execPortLoss_touches (p : Port) :
    ∃ t, execPortLoss p s = .next t ∧ OnlyTouches [.output, .stories, .pages, .channel] s t := by
  refine ⟨_, rfl, ?_⟩
  split
  · exact s.lossExpires_touches p
  · exact .refl _ s

theorem execSecondsTick_touches :
    ∃ t, execSecondsTick s = .next t ∧ OnlyTouches [.clock, .channel, .lines, .stories, .output, .pages] s t :=
  ⟨_, rfl, ((((s.clockTick_touches).mono (by decide)).trans (.foldl State.lineTick_touches _ _) (by decide)).trans
    (.foldl State.orphanTick_touches _ _) (by decide)).trans (State.lossTick_touches _) (by decide)⟩

theorem execTerminalCount_touches :
    ∃ t, execTerminalCount s = .next t ∧ OnlyTouches [.clock, .channel, .lines] s t := by
  refine ⟨_, rfl, ?_⟩
  split
  · exact s.terminalCount_touches
  · exact .refl _ s

theorem execRestart_touches (tag : Byte) : ∃ t, execRestart tag s = .next t ∧ OnlyTouches [.channel] s t := by
  refine ⟨_, rfl, ?_⟩
  dsimp only
  split
  · exact (s.offer_touches _).trans (State.setChannel_touches _ _) (by decide)
  · exact s.offer_touches _

theorem execRestartTakesEffect_touches :
    ∃ t, execRestartTakesEffect s = .next t ∧ OnlyTouches Instr.restartTakesEffect.parts s t := by
  refine ⟨_, rfl, ?_⟩
  split
  · exact s.restart_touches
  · exact .refl _ s

end Events

/-- A request served by its rule reaches what the rule touches, and its requester's records. -/
theorem exec_rule_touches {i : Instr} (hrequest : i.fromHost = true ∨ i.fromLine.isSome = true)
    (hrestart : ∀ tag, i ≠ .restart tag) (hsignon : ∀ l user, i ≠ .signon l user) (s : State) :
    ∃ t, exec i s = .next t ∧ OnlyTouches i.reach s t := by
  unfold Instr.reach
  by_cases hhost : i.fromHost = true
  · rw [if_pos hhost, exec_fromHost hhost hrestart]
    exact hostStep_touches (fun s => s.rule_touches i) s
  · have hline := hrequest.resolve_left hhost
    obtain ⟨k, hk⟩ := Option.isSome_iff_exists.mp hline
    rw [if_neg hhost, if_pos hline, exec_fromLine hk hsignon]
    exact lineStep_touches (fun s => s.rule_touches i) s

/-- Every command answers a next state, and what it can touch on the way there is what `Instr.reach` lists. -/
theorem exec_touches (i : Instr) (s : State) : ∃ t, exec i s = .next t ∧ OnlyTouches i.reach s t := by
  cases i
  case powerReset => exact execPowerReset_touches s
  case hostFrameDiscarded => exact ⟨_, rfl, s.setChannel_touches _⟩
  case requestArrival => exact ⟨_, rfl, s.setChannel_touches _⟩
  case hostFrameSent => exact execHostFrameSent_touches s
  case orphanExpiry n => exact execOrphanExpiry_touches s n
  case carrierDrop k => exact execCarrierDrop_touches s k
  case carrierReturn k => exact execCarrierReturn_touches s k
  case terminalFrameReceived k chars => exact execTerminalFrameReceived_touches s k chars
  case terminalFrameDiscarded k f => exact execTerminalFrameDiscarded_touches s k f
  case lineFrameSent k => exact execLineFrameSent_touches s k
  case signon k user =>
    obtain ⟨t, hstep, htouch⟩ := execSignon_touches s k user
    exact ⟨t, hstep, htouch.mono (List.subset_cons_self _ _)⟩
  case signonTimeout k => exact execSignonTimeout_touches s k
  case dim k => exact execDim_touches s k
  case fitTake => exact ⟨_, rfl, s.takeFit_touches⟩
  case fitCompletion => exact ⟨_, rfl, s.completeFit_touches⟩
  case codeAccepted p => exact ⟨_, rfl, s.acceptCode_touches p⟩
  case abortCodeSent p => exact execAbortCodeSent_touches s p
  case readyLeadRise p => exact execReadyLeadRise_touches s p
  case readyLeadFall p => exact ⟨_, rfl, s.setPort_touches p _⟩
  case resultDone p => exact execResultDone_touches s p
  case resultFault p => exact execResultFault_touches s p
  case resultCodeOther => exact ⟨s, rfl, .refl _ s⟩
  case portLoss p => exact execPortLoss_touches s p
  case secondsTick => exact execSecondsTick_touches s
  case terminalCount => exact execTerminalCount_touches s
  case restart tag =>
    obtain ⟨t, hstep, htouch⟩ := execRestart_touches s tag
    exact ⟨t, hstep, htouch.mono (List.subset_cons_self _ _)⟩
  case restartTakesEffect => exact execRestartTakesEffect_touches s
  all_goals first
    | exact exec_rule_touches (.inl rfl) (by intro _ h; cases h) (by intro _ _ h; cases h) s
    | exact exec_rule_touches (.inr rfl) (by intro _ h; cases h) (by intro _ _ h; cases h) s

/-- The parts a command cannot reach stand as they were. -/
theorem exec_frame {i : Instr} {s t : State} (h : exec i s = .next t) : OnlyTouches i.reach s t := by
  obtain ⟨u, hstep, htouch⟩ := exec_touches i s
  rw [h] at hstep
  cases hstep
  exact htouch

theorem pending_not_mem_reach (i : Instr) : Part.pending ∉ i.reach := by
  cases i <;> exact of_decide_eq_true rfl

/-- Settles O2: every command answers next and reaches no command that waits. -/
theorem everyCommandAnswersNext : Obligations.EveryCommandAnswersNext := by
  intro c s
  obtain ⟨t, hstep, htouch⟩ := exec_touches c s
  exact ⟨t, hstep, htouch.pending (pending_not_mem_reach c)⟩

/-- Settles O1: both by the definition of a step. -/
theorem stepRunsFrontCommand : Obligations.StepRunsFrontCommand := by
  intro s c rest
  refine ⟨fun h => ?_, fun h => ?_⟩ <;> simp only [step, h]

end Sys2Proof.Machine

/-! The edition clock (chapter 9): what each event and request does to the clock, and its law. -/

namespace Sys2Proof.Machine

/-! ### How a law is kept -/

section Keeps
variable {P : State → Prop} {s t : State}

/-- What every command keeps, every step keeps, if it does not read the commands that wait. -/
theorem step_keeps (hpending : ∀ s q, P s → P { s with pending := q })
    (hexec : ∀ i s t, P s → exec i s = .next t → P t) : ∀ s t, P s → step s = .next t → P t := by
  intro s t hs hstep
  unfold step at hstep
  split at hstep
  · cases hstep
    exact hs
  · exact hexec _ _ _ (hpending _ _ hs) hstep

/-- What reads no channel is kept by a host request whose rule keeps it. -/
theorem hostStep_keeps {i : Instr} {act : State → Verdict} (hchannel : ∀ s c, P s → P { s with channel := c })
    (hact : ∀ s, P s → P (act s).2.2) (hs : P s) (hstep : hostStep i act s = .next t) : P t := by
  cases hstep
  have hfound : P (s.offer i) := by
    rw [s.offer_eq i]
    exact hchannel _ _ hs
  unfold State.serveHost
  split
  · exact hchannel _ _ (hact _ hfound)
  · exact hfound

/-- What reads no line is kept by a terminal request whose rule keeps it. -/
theorem lineStep_keeps {k : Fin 32} {i : Instr} {act : State → Verdict} (hlines : ∀ s ls, P s → P { s with lines := ls })
    (hact : ∀ s, P s → P (act s).2.2) (hs : P s) (hstep : lineStep k i act s = .next t) : P t := by
  cases hstep
  have hfound : P (s.offerFrame k i) := by
    rw [s.offerFrame_eq k i]
    exact hlines _ _ hs
  unfold State.serveLine
  dsimp only
  split
  · exact hlines _ _ (hact _ hfound)
  · exact hfound

end Keeps

/-! ### The clock as each event leaves it -/

section Clock
variable (s : State)

@[simp] theorem State.clockEvent_clock : s.clockEvent.clock = s.clock := s.clockEvent_touches.clock

@[simp] theorem State.lampsDeadline_clock : s.lampsDeadline.clock = s.clock := rfl

@[simp] theorem State.raiseEdition_clock (e : EditionEvent) : (s.raiseEdition e).clock = s.clock := rfl

@[simp] theorem State.minutesPass_clock (old : Nat) : (s.minutesPass old).clock = s.clock := (s.minutesPass_touches old).clock

@[simp] theorem State.nearLamps_clock (due : Bool) : (s.nearLamps due).clock = s.clock := (s.nearLamps_touches due).clock

/-- The near warning moves the latch alone (R168). -/
theorem State.warnNear_clock : s.warnNear.clock = { s.clock with fired := s.clock.nearDue || s.clock.fired } := by
  unfold State.warnNear
  cases hdue : s.clock.nearDue <;> simp

theorem State.switchEdition_clock (c : Nat) :
    (s.switchEdition c).clock =
      { state := .running, edition := s.clock.edition + 1, count := c, next := none, threshold := s.clock.threshold,
        fired := decide (s.clock.threshold ≠ 0) && decide (c ≤ s.clock.threshold) } := by
  simp only [State.switchEdition, State.clockEvent_clock, State.warnNear_clock, State.raiseEdition_clock, Clock.nearDue,
    Bool.not_false, Bool.and_true, Bool.or_false]
  rfl

theorem State.terminalCount_clock_of_pending {c : Nat} (h : s.clock.next = some c) :
    s.terminalCount = s.switchEdition c := by
  simp only [State.terminalCount, h]

theorem State.terminalCount_clock_of_none (h : s.clock.next = none) :
    s.terminalCount.clock = { s.clock with state := .overdue, count := 0 } := by
  simp [State.terminalCount, h]

theorem State.startClock_clock (edition countdown : Nat) :
    (s.startClock edition countdown).clock =
      { state := .running, edition := edition, count := countdown, next := none, threshold := s.clock.threshold,
        fired := decide (s.clock.threshold ≠ 0) && decide (countdown ≤ s.clock.threshold) } := by
  simp [State.startClock, State.warnNear_clock, Clock.nearDue]

theorem State.stopClock_clock :
    s.stopClock.clock =
      if s.clock.state = .stopped then s.clock else { s.clock with state := .stopped, count := 0, next := none } := by
  unfold State.stopClock
  split <;> simp

theorem State.setThreshold_clock (seconds : Nat) :
    (s.setThreshold seconds).clock =
      let c := { s.clock with threshold := clamp 0 3600 seconds }
      { c with fired := decide (s.clock.state = .running) && c.nearDue || c.fired } := by
  unfold State.setThreshold
  by_cases h : s.clock.state = .running
  · simp [h, State.warnNear_clock]
  · simp [h]

/-- The clock a second later, where the terminal count is not reached (R168, R170). -/
theorem State.clockTick_clock_running (h : s.clock.state = .running) (hcount : 1 < s.clock.count) :
    s.clockTick.clock =
      let c := { s.clock with count := s.clock.count - 1 }
      { c with fired := c.nearDue || c.fired } := by
  simp [State.clockTick, h, Nat.not_le.2 hcount, State.warnNear_clock]

theorem State.clockTick_clock_overdue (h : s.clock.state = .overdue) :
    s.clockTick.clock = { s.clock with count := min 65535 (s.clock.count + 1) } := by
  simp [State.clockTick, h]

theorem State.clockTick_stopped (h : s.clock.state = .stopped) : s.clockTick = s := by
  simp only [State.clockTick, h]

theorem State.clockTick_terminal (h : s.clock.state = .running) (hcount : s.clock.count ≤ 1) :
    s.clockTick = s.terminalCount := by
  simp only [State.clockTick, h, if_pos hcount]

end Clock

/-! ### The clock's law (R167, R169, R173) -/

section Law
variable {s t : State}

theorem ClockLaw.congr (hs : ClockLaw s) (h : t.clock = s.clock) : ClockLaw t := by
  unfold ClockLaw at *
  rwa [h]

/-- A RUNNING clock in its ranges, with no switch pending, is lawful. -/
theorem ClockLaw.of_running {e c th : Nat} {f : Bool}
    (h : t.clock = { state := .running, edition := e, count := c, next := none, threshold := th, fired := f })
    (he : 1 ≤ e ∧ e ≤ 15) (hc : 1 ≤ c ∧ c ≤ 65535) (hth : th ≤ 3600) : ClockLaw t := by
  unfold ClockLaw
  rw [h]
  exact ⟨he.1, he.2, hth, hc.2, fun _ => hc.1, nofun, trivial⟩

theorem State.switchEdition_law {c : Nat} (hs : ClockLaw s) (hedition : s.clock.edition < 15) (hc : 1 ≤ c ∧ c ≤ 65535) :
    ClockLaw (s.switchEdition c) :=
  .of_running (s.switchEdition_clock c) ⟨Nat.le_add_left _ _, hedition⟩ hc hs.2.2.1

theorem State.terminalCount_law (hs : ClockLaw s) : ClockLaw s.terminalCount := by
  obtain ⟨hlow, hhigh, hthreshold, hcount, hrunning, hstopped, hnext⟩ := id hs
  cases h : s.clock.next with
  | some c =>
    simp only [h] at hnext
    obtain ⟨-, hedition, hc⟩ := hnext
    rw [s.terminalCount_clock_of_pending h]
    exact State.switchEdition_law hs hedition hc
  | none =>
    unfold ClockLaw
    rw [s.terminalCount_clock_of_none h]
    exact ⟨hlow, hhigh, hthreshold, Nat.zero_le _, nofun, nofun, by simp only [h]⟩

theorem State.clockTick_law (hs : ClockLaw s) : ClockLaw s.clockTick := by
  obtain ⟨hlow, hhigh, hthreshold, hcount, hrunning, hstopped, hnext⟩ := id hs
  cases hstate : s.clock.state with
  | stopped => rwa [s.clockTick_stopped hstate]
  | running =>
    by_cases hlast : s.clock.count ≤ 1
    · rw [s.clockTick_terminal hstate hlast]
      exact State.terminalCount_law hs
    · unfold ClockLaw
      rw [s.clockTick_clock_running hstate (by omega)]
      dsimp only
      rw [hstate] at hnext ⊢
      exact ⟨hlow, hhigh, hthreshold, by omega, fun _ => by omega, nofun, hnext⟩
  | overdue =>
    unfold ClockLaw
    rw [s.clockTick_clock_overdue hstate]
    dsimp only
    rw [hstate] at hnext ⊢
    exact ⟨hlow, hhigh, hthreshold, by omega, nofun, nofun, hnext⟩

theorem State.startClock_law {edition countdown : Nat} (hs : ClockLaw s) (he : within 1 15 edition = true)
    (hc : within 1 65535 countdown = true) : ClockLaw (s.startClock edition countdown) := by
  simp only [within, Bool.and_eq_true, decide_eq_true_eq] at he hc
  exact .of_running (s.startClock_clock edition countdown) he hc hs.2.2.1

theorem State.clkstart_law {edition countdown : Nat} (hs : ClockLaw s) : ClockLaw (s.clkstart edition countdown).2.2 := by
  unfold State.clkstart
  split
  · exact hs
  next hfields =>
    simp only [Bool.not_eq_true', Bool.and_eq_false_iff, not_or, Bool.not_eq_false] at hfields
    split
    · exact State.startClock_law hs hfields.1 hfields.2
    · exact hs

theorem State.clknext_law {countdown : Nat} (hs : ClockLaw s) : ClockLaw (s.clknext countdown).2.2 := by
  obtain ⟨hlow, hhigh, hthreshold, hcount, hrunning, hstopped, hnext⟩ := id hs
  unfold State.clknext
  split
  · exact hs
  next hfield =>
    split
    · exact hs
    next hstate =>
      split
      · exact hs
      next hlast =>
        simp only [within, Bool.not_eq_true', Bool.not_eq_false, Bool.and_eq_true, decide_eq_true_eq] at hfield
        have hedition : s.clock.edition < 15 := lt_of_le_of_ne hhigh hlast
        dsimp only
        unfold State.nextDeadline
        split
        next hrun => exact ⟨hlow, hhigh, hthreshold, hcount, hrunning, hstopped, hrun, hedition, hfield⟩
        next => exact State.switchEdition_law hs hedition hfield
        next => exact hs

theorem State.stopClock_law (hs : ClockLaw s) : ClockLaw s.stopClock := by
  unfold ClockLaw
  rw [s.stopClock_clock]
  split
  · exact hs
  · exact ⟨hs.1, hs.2.1, hs.2.2.1, Nat.zero_le _, nofun, fun _ => rfl, trivial⟩

theorem State.setThreshold_law {seconds : Nat} (hs : ClockLaw s) : ClockLaw (s.setThreshold seconds) := by
  obtain ⟨hlow, hhigh, -, hcount, hrunning, hstopped, hnext⟩ := hs
  unfold ClockLaw
  rw [s.setThreshold_clock]
  exact ⟨hlow, hhigh, by simp only [clamp]; omega, hcount, hrunning, hstopped, hnext⟩

theorem Clock.reset_law : ClockLaw State.reset :=
  ⟨by decide, by decide, by decide, by decide, nofun, fun _ => rfl, trivial⟩

theorem execSecondsTick_clockLaw (hs : ClockLaw s) (hstep : execSecondsTick s = .next t) : ClockLaw t := by
  have ht := Host.Outcome.next.inj hstep
  rw [← ht]
  refine (State.clockTick_law hs).congr ?_
  have hlines := OnlyTouches.foldl State.lineTick_touches lineIds s.clockTick
  exact (((hlines.mono (qs := [.lines, .stories, .channel, .output, .pages]) (by decide)).trans
    (.foldl State.orphanTick_touches _ _) (by decide)).trans (State.lossTick_touches _) (by decide)).clock

theorem execTerminalCount_clockLaw (hs : ClockLaw s) (hstep : execTerminalCount s = .next t) : ClockLaw t := by
  cases hstep
  split
  · exact State.terminalCount_law hs
  · exact hs

theorem exec_clockLaw (i : Instr) (s t : State) (hs : ClockLaw s) (hstep : exec i s = .next t) : ClockLaw t := by
  have hchannel (s : State) (c : Channel) (h : ClockLaw s) : ClockLaw { s with channel := c } := h
  have hframe (h : Part.clock ∉ i.reach) : ClockLaw t := hs.congr ((exec_frame hstep).clock h)
  cases i
  case secondsTick => exact execSecondsTick_clockLaw hs hstep
  case terminalCount => exact execTerminalCount_clockLaw hs hstep
  case clkstart => exact hostStep_keeps hchannel (fun _ => State.clkstart_law) hs hstep
  case clknext => exact hostStep_keeps hchannel (fun _ => State.clknext_law) hs hstep
  case clkstop => exact hostStep_keeps hchannel (fun _ => State.stopClock_law) hs hstep
  case warn => exact hostStep_keeps hchannel (fun _ => State.setThreshold_law) hs hstep
  case powerReset =>
    cases hstep
    exact Clock.reset_law.congr rfl
  all_goals exact hframe (of_decide_eq_true rfl)

end Law

/-- Settles O5: the seven commands that reach the clock keep its ranges; the others leave it as it was. -/
theorem clockLawKept : Obligations.ClockLawKept :=
  step_keeps (fun _ _ h => h) exec_clockLaw

end Sys2Proof.Machine

/-! The flash list (R95): what unseen sets leave of it, and its law. -/

namespace Sys2Proof.Machine

/-! ### Entries but for their unseen sets -/

/-- What an entry is, its unseen set apart. -/
def FlashEntry.body (e : FlashEntry) : Nat × List Byte × BitVec 16 := (e.number, e.text, e.mask)

/-- The same entries in the same order under the same next number, whatever their unseen sets. -/
def SameEntries (s t : State) : Prop :=
  t.flashes.next = s.flashes.next ∧ t.flashes.list.map FlashEntry.body = s.flashes.list.map FlashEntry.body

section SameEntries
variable {s t u : State}

theorem SameEntries.of_eq (h : t.flashes = s.flashes) : SameEntries s t := by
  unfold SameEntries
  rw [h]
  exact ⟨rfl, rfl⟩

theorem SameEntries.trans (h : SameEntries s t) (k : SameEntries t u) : SameEntries s u :=
  ⟨k.1.trans h.1, k.2.trans h.2⟩

theorem State.unseeLine_sameEntries (s : State) (k : Nat) : SameEntries s (s.unseeLine k) :=
  ⟨rfl, by simp [State.unseeLine, FlashEntry.body]⟩

theorem State.joinFlashes_sameEntries (s : State) (k d : Nat) : SameEntries s (s.joinFlashes k d) := by
  refine ⟨rfl, ?_⟩
  simp only [State.joinFlashes, List.map_map]
  refine List.map_congr_left fun e _ => ?_
  simp only [Function.comp]
  split <;> rfl

theorem flashChain_congr {l m : List FlashEntry} (h : m.map FlashEntry.body = l.map FlashEntry.body) {next : Nat}
    (hl : flashChain next l) : flashChain next m := by
  induction l generalizing m next with
  | nil => rw [List.map_eq_nil_iff.1 h]; exact hl
  | cons e es ih =>
    cases m with
    | nil => exact trivial
    | cons d ds =>
      simp only [List.map_cons, List.cons.injEq, FlashEntry.body, Prod.mk.injEq] at h
      obtain ⟨⟨hnumber, -⟩, hrest⟩ := h
      obtain ⟨hbefore, hchain⟩ := hl
      exact ⟨hnumber.trans hbefore, ih hrest (hnumber ▸ hchain)⟩

theorem flashChain_dropLast {l : List FlashEntry} {next : Nat} (h : flashChain next l) : flashChain next l.dropLast := by
  induction l generalizing next with
  | nil => exact h
  | cons e es ih =>
    cases es with
    | nil => exact trivial
    | cons d ds => exact ⟨h.1, ih h.2⟩

/-- The law of the flash list does not read the unseen sets. -/
theorem FlashLaw.congr (hs : FlashLaw s) (h : SameEntries s t) : FlashLaw t := by
  obtain ⟨hlength, hlow, hhigh, hchain, hentry⟩ := hs
  obtain ⟨hnext, hlist⟩ := h
  unfold FlashLaw
  simp only [hnext]
  refine ⟨?_, hlow, hhigh, flashChain_congr hlist hchain, fun e he => ?_⟩
  · have := congrArg List.length hlist
    simp only [List.length_map] at this
    rwa [this]
  · have hmem : e.body ∈ s.flashes.list.map FlashEntry.body := hlist ▸ List.mem_map_of_mem he
    obtain ⟨d, hd, hbody⟩ := List.mem_map.1 hmem
    simp only [FlashEntry.body, Prod.mk.injEq] at hbody
    obtain ⟨-, htext, hmask⟩ := hbody
    rw [← htext, ← hmask]
    exact hentry d hd

end SameEntries

/-! ### Each rule that reaches the flash list -/

section Rules
variable (s : State)

theorem State.lineoff_sameEntries (k : Nat) : SameEntries s (s.lineoff k).2.2 := by
  unfold State.lineoff
  split
  · exact .of_eq rfl
  · split
    · exact .of_eq rfl
    · have hshut : SameEntries s (((s.releaseHeld k).updLine k Line.disable).unseeLine k) :=
        (SameEntries.of_eq ((s.releaseHeld_touches k).flashes)).trans (State.unseeLine_sameEntries _ k)
      dsimp only [State.shutLine]
      split
      · exact hshut
      · exact hshut

theorem State.signoff_sameEntries (k : Nat) : SameEntries s (s.signoff k).2.2 :=
  ((SameEntries.of_eq ((s.releaseHeld_touches k).flashes)).trans (State.unseeLine_sameEntries _ k)).trans
    (.of_eq (State.lampAnew_touches _ k).flashes)

theorem State.seen_sameEntries (k : Nat) : SameEntries s (s.seen k).2.2 := s.unseeLine_sameEntries k

theorem State.loseCarrier_sameEntries (k : Nat) : SameEntries s (s.loseCarrier k) :=
  ((SameEntries.of_eq ((s.orphanHeld_touches k).flashes)).trans (State.unseeLine_sameEntries _ k)).trans
    (.of_eq (State.lampAnew_touches _ k).flashes)

/-- A GRANT up to the flashes its line joins (steps 1 to 5 of R76). -/
def State.enrol (k user desk : Nat) (role : Role) : State :=
  ((((s.updLine k fun l => { l with signonTimer := none, outcome := .granted }).releaseStranger k user).resumeFor
    k user).updLine k fun l =>
      { l with state := .ready, user := some { user := user, desk := desk, role := role } }).joinFlashes k desk

theorem State.enrol_sameEntries (k user desk : Nat) (role : Role) : SameEntries s (s.enrol k user desk role) := by
  unfold State.enrol
  refine SameEntries.trans (.of_eq ?_) (State.joinFlashes_sameEntries _ k desk)
  rw [State.updLine_flashes, (State.resumeFor_touches _ k user).flashes, (State.releaseStranger_touches _ k user).flashes,
    State.updLine_flashes]

/-- Past its flashes a GRANT answers, and changes lines alone (step 6 of R76). -/
theorem State.grant_enrol_touches (k user desk : Nat) (role : Role) :
    OnlyTouches [.lines] (s.enrol k user desk role) (s.grant k user desk role) :=
  (((((State.answerService_touches _ k _ _ _).trans (State.putHome_touches _ k desk 0) (by decide)).trans
    (State.refreshLine_touches _ k) (by decide)).trans (State.updLine_touches _ k _) (by decide)).trans
    (State.lampAnew_touches _ k) (by decide))

theorem State.grant_sameEntries (k user desk : Nat) (role : Role) : SameEntries s (s.grant k user desk role) :=
  (s.enrol_sameEntries k user desk role).trans (.of_eq (s.grant_enrol_touches k user desk role).flashes)

theorem State.verdictGrant_sameEntries (k desk role : Nat) : SameEntries s (s.verdictGrant k desk role).2.2 := by
  unfold State.verdictGrant
  split
  · exact .of_eq rfl
  · split
    · exact .of_eq rfl
    · split
      · exact s.grant_sameEntries k _ desk _
      · rw [s.lateVerdict_state]
        exact .of_eq rfl

@[simp] theorem State.addFlash_flashes (text : List Byte) (mask : BitVec 16) :
    (s.addFlash text mask).flashes = s.flashes.add text mask (s.flashLines mask) := rfl

variable {s}

/-- The entries a FLASH leaves behind its own (step 1 of R96). -/
def Flashes.kept (f : Flashes) : List FlashEntry := if Config.flashes ≤ f.list.length then f.list.dropLast else f.list

theorem Flashes.kept_length {f : Flashes} (h : f.list.length ≤ Config.flashes) : f.kept.length < Config.flashes := by
  have hpositive : 0 < Config.flashes := by decide
  unfold Flashes.kept
  split
  · rw [List.length_dropLast]
    omega
  · omega

theorem Flashes.kept_subset (f : Flashes) : f.kept ⊆ f.list := by
  unfold Flashes.kept
  split
  · exact List.dropLast_subset _
  · exact List.Subset.refl _

theorem Flashes.kept_chain {f : Flashes} {next : Nat} (h : flashChain next f.list) : flashChain next f.kept := by
  unfold Flashes.kept
  split
  · exact flashChain_dropLast h
  · exact h

theorem flashBefore_next {n : Nat} (hlow : 1 ≤ n) : flashBefore (if n = 255 then 1 else n + 1) = n := by
  unfold flashBefore
  split_ifs <;> omega

theorem State.addFlash_law {text : List Byte} {mask : BitVec 16} (hs : FlashLaw s) (htext : flashTextOk text = true)
    (hmask : mask ≠ 0) : FlashLaw (s.addFlash text mask) := by
  obtain ⟨hlength, hlow, hhigh, hchain, hentry⟩ := hs
  unfold FlashLaw
  rw [State.addFlash_flashes]
  refine ⟨Flashes.kept_length hlength, ?_, ?_, ⟨(flashBefore_next hlow).symm, Flashes.kept_chain hchain⟩, fun e he => ?_⟩
  · dsimp only [Flashes.add]
    split <;> omega
  · dsimp only [Flashes.add]
    split <;> omega
  · rcases List.mem_cons.1 he with rfl | hold
    · exact ⟨htext, hmask⟩
    · exact hentry e (s.flashes.kept_subset hold)

theorem State.flash_law {text : List Byte} {mask : BitVec 16} (hs : FlashLaw s) : FlashLaw (s.flash text mask).2.2 := by
  unfold State.flash
  split
  · exact hs
  next hfields =>
    simp only [Bool.or_eq_true, Bool.not_eq_true', beq_iff_eq, not_or, Bool.not_eq_false] at hfields
    exact State.addFlash_law hs hfields.1 hfields.2

end Rules

/-! ### The flash list's law (R95) -/

theorem FlashLaw.emptied {s t : State} (hs : FlashLaw s) (h : t.flashes = { s.flashes with list := [] }) : FlashLaw t := by
  unfold FlashLaw
  rw [h]
  exact ⟨Nat.zero_le _, hs.2.1, hs.2.2.1, trivial, nofun⟩

theorem State.reset_flashLaw : FlashLaw State.reset := ⟨by decide, by decide, by decide, trivial, nofun⟩

theorem State.restart_flashes (s : State) : s.restart.flashes = { s.flashes with list := [] } := by
  have hfit := (State.restartFit_touches s.restartHolds.restartLines).flashes
  have hpages := (OnlyTouches.foldl State.restartPage_touches pageIds s.restartHolds.restartLines.restartFit).flashes
  unfold State.restart
  dsimp only
  rw [hpages, hfit]
  rfl

theorem exec_flashLaw (i : Instr) (s t : State) (hs : FlashLaw s) (hstep : exec i s = .next t) : FlashLaw t := by
  have hchannel (s : State) (c : Channel) (h : FlashLaw s) : FlashLaw { s with channel := c } := h
  have hlines (s : State) (ls : Vector Line 32) (h : FlashLaw s) : FlashLaw { s with lines := ls } := h
  have hframe (h : Part.flashes ∉ i.reach) : FlashLaw t := hs.congr (.of_eq ((exec_frame hstep).flashes h))
  cases i
  case lineoff => exact hostStep_keeps hchannel (fun s h => h.congr (s.lineoff_sameEntries _)) hs hstep
  case verdictGrant => exact hostStep_keeps hchannel (fun s h => h.congr (s.verdictGrant_sameEntries _ _ _)) hs hstep
  case signoff => exact lineStep_keeps hlines (fun s h => h.congr (s.signoff_sameEntries _)) hs hstep
  case seen => exact lineStep_keeps hlines (fun s h => h.congr (s.seen_sameEntries _)) hs hstep
  case flash => exact hostStep_keeps hchannel (fun _ => State.flash_law) hs hstep
  case carrierDrop =>
    cases hstep
    split
    · exact hs.congr (s.loseCarrier_sameEntries _)
    · exact hs
  case restartTakesEffect =>
    have ht := Host.Outcome.next.inj hstep
    rw [← ht]
    split
    · exact hs.emptied s.restart_flashes
    · exact hs
  case powerReset =>
    cases hstep
    exact State.reset_flashLaw.congr (.of_eq rfl)
  all_goals exact hframe (of_decide_eq_true rfl)

/-- Settles O6: only FLASH, RESTART and power reset move the entries; every other command leaves them but for their unseen sets. -/
theorem flashLawKept : Obligations.FlashLawKept :=
  step_keeps (fun _ _ h => h) exec_flashLaw

end Sys2Proof.Machine

/-! The aspects of the records that the laws read, and which of them each operation can move: a finer frame than the parts of the
state (`OnlyTouches`), from which a law that reads none of the aspects moved is kept at once. -/

namespace Sys2Proof

/-- The aspects of the records that the laws of the records read. -/
inductive Aspect where
  /-- the texts and the chains of the stories -/
  | copy
  | baseStyle
  /-- no record becomes FREE -/
  | free
  /-- which stories stand in BASKET -/
  | basketed
  /-- which stories are SPIKED -/
  | spiked
  | stage
  | storyDesk
  | priority
  | holder
  | run
  | storyFit
  | changed
  | results
  /-- the baskets and their urgent counts -/
  | baskets
  | spikeLists
  | lineState
  | user
  | held
  | service
  | pageState
  | slots
  | pageFit
  | pageJob
  | choice
  | tolerance
  /-- the blocks of the pool -/
  | pool
  /-- the style and width tables -/
  | tables
  | fitQueue
  | inFlight
  | queue
  | ports
  | xlate
  /-- the host channel, but for notices raised -/
  | channel
  deriving DecidableEq

end Sys2Proof

namespace Sys2Proof.Machine

/-! ### Records that keep an aspect -/

/-- From story record `r` to `q` an aspect of the stories is kept. -/
def Story.keeps (r q : Story) : Aspect → Prop
  | .copy => q.text = r.text ∧ q.chain = r.chain
  | .baseStyle => q.style = r.style
  | .free => q.stage = .free → r.stage = .free
  | .basketed => q.stage = .basket ↔ r.stage = .basket
  | .spiked => q.stage = .spiked ↔ r.stage = .spiked
  | .stage => q.stage = r.stage
  | .storyDesk => q.desk = r.desk
  | .priority => q.priority = r.priority
  | .holder => q.holder = r.holder
  | .run => q.run = r.run
  | .storyFit => q.fit = r.fit
  | .changed => q.changed = r.changed
  | .results => q.results = r.results
  | _ => True

/-- From desk record `d` to `e` an aspect of the desks is kept. -/
def Desk.keeps (d e : Desk) : Aspect → Prop
  | .baskets => e.basket = d.basket ∧ e.urgent = d.urgent
  | .spikeLists => e.spikes = d.spikes
  | _ => True

/-- From line context `l` to `m` an aspect of the lines is kept. -/
def Line.keeps (l m : Line) : Aspect → Prop
  | .lineState => m.state = l.state
  | .user => m.user = l.user
  | .held => m.held = l.held
  | .service => m.service = l.service
  | _ => True

/-- From page record `p` to `q` an aspect of the pages is kept. -/
def Page.keeps (p q : Page) : Aspect → Prop
  | .pageState => q.state = p.state
  | .slots => q.slots = p.slots
  | .pageFit => q.fit = p.fit
  | .pageJob => q.job = p.job
  | .choice => q.choice = p.choice
  | .tolerance => q.tolerance = p.tolerance
  | _ => True

/-- From state `s` to `t` an aspect is kept. -/
def State.keeps (s t : State) (a : Aspect) : Prop :=
  (∀ n, (s.story n).keeps (t.story n) a) ∧ (∀ d, (s.desk d).keeps (t.desk d) a) ∧
  (∀ k, (s.line k).keeps (t.line k) a) ∧ (∀ g, (s.page g).keeps (t.page g) a) ∧
  match a with
  | .pool => t.store.fresh = s.store.fresh ∧ t.store.returned = s.store.returned
  | .tables => t.fit.styles = s.fit.styles ∧ t.fit.widths = s.fit.widths
  | .fitQueue => t.fit.queue = s.fit.queue
  | .inFlight => t.fit.inFlight = s.fit.inFlight
  | .queue => t.output.queue = s.output.queue
  | .ports => ∀ p, t.port p = s.port p
  | .xlate => t.output.xlate = s.output.xlate
  | .channel => ∃ ns : List Notice, t.channel = ns.foldl Channel.raise s.channel
  | _ => True

/-- From `s` to `t` no aspect moves but those listed. -/
def OnlyMoves (as : List Aspect) (s t : State) : Prop := ∀ a ∉ as, s.keeps t a

theorem Story.keeps_refl (r : Story) (a : Aspect) : r.keeps r a := by
  cases a <;> first | exact trivial | exact rfl | exact id | exact Iff.rfl | exact ⟨rfl, rfl⟩

theorem Desk.keeps_refl (d : Desk) (a : Aspect) : d.keeps d a := by
  cases a <;> first | exact trivial | exact rfl | exact ⟨rfl, rfl⟩

theorem Line.keeps_refl (l : Line) (a : Aspect) : l.keeps l a := by
  cases a <;> first | exact trivial | exact rfl

theorem Page.keeps_refl (p : Page) (a : Aspect) : p.keeps p a := by
  cases a <;> first | exact trivial | exact rfl

theorem Story.keeps.trans {r q o : Story} {a : Aspect} (h : r.keeps q a) (k : q.keeps o a) : r.keeps o a := by
  cases a
  case copy => exact ⟨k.1.trans h.1, k.2.trans h.2⟩
  case free => exact fun hfree => h (k hfree)
  case basketed => exact Iff.trans k h
  case spiked => exact Iff.trans k h
  all_goals first | exact trivial | exact Eq.trans k h

theorem Desk.keeps.trans {d e f : Desk} {a : Aspect} (h : d.keeps e a) (k : e.keeps f a) : d.keeps f a := by
  cases a
  case baskets => exact ⟨k.1.trans h.1, k.2.trans h.2⟩
  all_goals first | exact trivial | exact Eq.trans k h

theorem Line.keeps.trans {l m o : Line} {a : Aspect} (h : l.keeps m a) (k : m.keeps o a) : l.keeps o a := by
  cases a <;> first | exact trivial | exact Eq.trans k h

theorem Page.keeps.trans {p q o : Page} {a : Aspect} (h : p.keeps q a) (k : q.keeps o a) : p.keeps o a := by
  cases a <;> first | exact trivial | exact Eq.trans k h

theorem State.keeps.trans {s t u : State} {a : Aspect} (h : s.keeps t a) (k : t.keeps u a) : s.keeps u a := by
  obtain ⟨hstory, hdesk, hline, hpage, hrest⟩ := h
  obtain ⟨kstory, kdesk, kline, kpage, krest⟩ := k
  refine ⟨fun n => (hstory n).trans (kstory n), fun d => (hdesk d).trans (kdesk d), fun l => (hline l).trans (kline l),
    fun g => (hpage g).trans (kpage g), ?_⟩
  cases a
  case pool => exact ⟨krest.1.trans hrest.1, krest.2.trans hrest.2⟩
  case tables => exact ⟨krest.1.trans hrest.1, krest.2.trans hrest.2⟩
  case ports => exact fun p => (krest p).trans (hrest p)
  case channel =>
    obtain ⟨ns, hns⟩ := hrest
    obtain ⟨ms, hms⟩ := krest
    exact ⟨ns ++ ms, by rw [hms, hns, List.foldl_append]⟩
  all_goals first | exact trivial | exact Eq.trans krest hrest

theorem State.keeps_refl (s : State) (a : Aspect) : s.keeps s a := by
  refine ⟨fun _ => Story.keeps_refl _ a, fun _ => Desk.keeps_refl _ a, fun _ => Line.keeps_refl _ a,
    fun _ => Page.keeps_refl _ a, ?_⟩
  cases a <;> first | exact trivial | exact rfl | exact ⟨rfl, rfl⟩ | exact fun _ => rfl | exact ⟨[], rfl⟩

/-! ### The relation -/

theorem OnlyMoves.refl (as : List Aspect) (s : State) : OnlyMoves as s s := fun a _ => s.keeps_refl a

/-- One operation more. -/
theorem OnlyMoves.step {as bs : List Aspect} {s t u : State} (h : OnlyMoves as s t) (k : OnlyMoves bs t u)
    (hb : bs ⊆ as := by decide) : OnlyMoves as s u :=
  fun a ha => (h a ha).trans (k a fun m => ha (hb m))

theorem OnlyMoves.mono {as bs : List Aspect} {s t : State} (h : OnlyMoves as s t) (hb : as ⊆ bs := by decide) :
    OnlyMoves bs s t :=
  fun a ha => h a fun m => ha (hb m)

theorem OnlyMoves.of_eq {as : List Aspect} {s t : State} (h : t = s) : OnlyMoves as s t := h ▸ .refl as s

theorem OnlyMoves.foldl {α : Type} {as : List Aspect} {f : State → α → State} (h : ∀ s a, OnlyMoves as s (f s a))
    (l : List α) (s : State) : OnlyMoves as s (l.foldl f s) := by
  induction l generalizing s with
  | nil => exact .refl as s
  | cons a l ih => exact (h s a).step (ih _) (List.Subset.refl as)

/-- What touches none of the parts that hold these aspects moves none of them. -/
theorem OnlyTouches.moves_channel {ps : List Part} {s t : State} (h : OnlyTouches ps s t)
    (hp : ∀ p ∈ [Part.stories, .desks, .store, .lines, .fit, .pages, .output], p ∉ ps := by decide) :
    OnlyMoves [.channel] s t := by
  intro a ha
  have hout (p : Part) (hmem : p ∈ [Part.stories, .desks, .store, .lines, .fit, .pages, .output]) : s.agree t p :=
    h p (hp p hmem)
  have hstories : t.stories = s.stories := hout .stories (by decide)
  have hdesks : t.desks = s.desks := hout .desks (by decide)
  have hstore : t.store = s.store := hout .store (by decide)
  have hlines : t.lines = s.lines := hout .lines (by decide)
  have hfit : t.fit = s.fit := hout .fit (by decide)
  have hpages : t.pages = s.pages := hout .pages (by decide)
  have houtput : t.output = s.output := hout .output (by decide)
  refine ⟨fun n => ?_, fun d => ?_, fun k => ?_, fun g => ?_, ?_⟩
  · rw [State.story_congr hstories]; exact Story.keeps_refl _ a
  · rw [State.desk, State.desk, hdesks]; exact Desk.keeps_refl _ a
  · rw [State.line, State.line, hlines]; exact Line.keeps_refl _ a
  · rw [show t.page g = s.page g by cases g <;> simp only [State.page, hpages]]; exact Page.keeps_refl _ a
  · rw [hstore, hfit, houtput]
    cases a
    case channel => exact absurd (by decide) ha
    all_goals first | exact trivial | exact rfl | exact ⟨rfl, rfl⟩ | (intro p; cases p <;> simp only [State.port, houtput])

theorem OnlyTouches.moves {ps : List Part} {s t : State} (h : OnlyTouches ps s t)
    (hp : ∀ p ∈ [Part.stories, .desks, .store, .lines, .fit, .pages, .output, .channel], p ∉ ps := by decide) :
    OnlyMoves [] s t := by
  have hrest := h.moves_channel fun p hmem => hp p (by simp only [List.mem_cons] at hmem ⊢; tauto)
  intro a _
  by_cases hchannel : a = .channel
  · have heq : t.channel = s.channel := h .channel (hp .channel (by decide))
    subst hchannel
    exact ⟨fun _ => trivial, fun _ => trivial, fun _ => trivial, fun _ => trivial, [], heq⟩
  · exact hrest a (by simpa using hchannel)

/-! ### Single updates -/

section Updates
variable (s : State)

theorem State.setStory_moves {as : List Aspect} {n : Nat} {r : Story} (hr : ∀ a ∉ as, (s.story n).keeps r a) :
    OnlyMoves as s (s.setStory n r) := by
  intro a ha
  refine ⟨fun m => ?_, fun _ => Desk.keeps_refl _ a, fun _ => Line.keeps_refl _ a, fun _ => Page.keeps_refl _ a, ?_⟩
  · rw [State.story_setStory]
    split
    next h => rw [h.1]; exact hr a ha
    next => exact Story.keeps_refl _ a
  · cases a <;> first | exact trivial | exact rfl | exact ⟨rfl, rfl⟩ | exact fun _ => rfl | exact ⟨[], rfl⟩

theorem State.updStory_moves {as : List Aspect} {n : Nat} {f : Story → Story}
    (hf : ∀ a ∉ as, (s.story n).keeps (f (s.story n)) a) : OnlyMoves as s (s.updStory n f) :=
  s.setStory_moves hf

theorem State.updDesk_moves {as : List Aspect} {d : Nat} {f : Desk → Desk} (hf : ∀ a ∉ as, (s.desk d).keeps (f (s.desk d)) a) :
    OnlyMoves as s (s.updDesk d f) := by
  intro a ha
  refine ⟨fun _ => Story.keeps_refl _ a, fun e => ?_, fun _ => Line.keeps_refl _ a, fun _ => Page.keeps_refl _ a, ?_⟩
  · rw [State.desk_updDesk]
    split
    next h => rw [h.1]; exact hf a ha
    next => exact Desk.keeps_refl _ a
  · cases a <;> first | exact trivial | exact rfl | exact ⟨rfl, rfl⟩ | exact fun _ => rfl | exact ⟨[], rfl⟩

theorem State.updLine_moves {as : List Aspect} {k : Nat} {f : Line → Line} (hf : ∀ a ∉ as, (s.line k).keeps (f (s.line k)) a) :
    OnlyMoves as s (s.updLine k f) := by
  intro a ha
  refine ⟨fun _ => Story.keeps_refl _ a, fun _ => Desk.keeps_refl _ a, fun m => ?_, fun _ => Page.keeps_refl _ a, ?_⟩
  · rw [State.line_updLine]
    split
    next h => rw [h.1]; exact hf a ha
    next => exact Line.keeps_refl _ a
  · cases a <;> first | exact trivial | exact rfl | exact ⟨rfl, rfl⟩ | exact fun _ => rfl | exact ⟨[], rfl⟩

theorem State.mapLines_moves {as : List Aspect} {f : Nat → Line → Line} (hf : ∀ k, ∀ a ∉ as, (s.line k).keeps (f k (s.line k)) a) :
    OnlyMoves as s (s.mapLines f) := by
  intro a ha
  refine ⟨fun _ => Story.keeps_refl _ a, fun _ => Desk.keeps_refl _ a, fun k => ?_, fun _ => Page.keeps_refl _ a, ?_⟩
  · rw [State.line_mapLines]
    split
    next => exact hf k a ha
    next h => rw [s.line_eq_reset h]; exact Line.keeps_refl _ a
  · cases a <;> first | exact trivial | exact rfl | exact ⟨rfl, rfl⟩ | exact fun _ => rfl | exact ⟨[], rfl⟩

theorem State.setPage_moves {as : List Aspect} {g : Nat} {v : Page} (hv : ∀ a ∉ as, (s.page g).keeps v a) :
    OnlyMoves as s (s.setPage g v) := by
  intro a ha
  refine ⟨fun _ => Story.keeps_refl _ a, fun _ => Desk.keeps_refl _ a, fun _ => Line.keeps_refl _ a, fun h => ?_, ?_⟩
  · rw [State.page_setPage]
    split
    next h => rw [h.1]; exact hv a ha
    next => exact Page.keeps_refl _ a
  · cases a <;> first | exact trivial | exact rfl | exact ⟨rfl, rfl⟩ | exact fun _ => rfl | exact ⟨[], rfl⟩

theorem State.updPage_moves {as : List Aspect} {g : Nat} {f : Page → Page} (hf : ∀ a ∉ as, (s.page g).keeps (f (s.page g)) a) :
    OnlyMoves as s (s.updPage g f) :=
  s.setPage_moves hf

theorem State.setFitEngine_moves {as : List Aspect} {e : FitEngine}
    (htables : .tables ∉ as → e.styles = s.fit.styles ∧ e.widths = s.fit.widths)
    (hqueue : .fitQueue ∉ as → e.queue = s.fit.queue) (hflight : .inFlight ∉ as → e.inFlight = s.fit.inFlight) :
    OnlyMoves as s { s with fit := e } := by
  intro a ha
  refine ⟨fun _ => Story.keeps_refl _ a, fun _ => Desk.keeps_refl _ a, fun _ => Line.keeps_refl _ a,
    fun _ => Page.keeps_refl _ a, ?_⟩
  cases a
  case tables => exact htables ha
  case fitQueue => exact hqueue ha
  case inFlight => exact hflight ha
  all_goals first | exact trivial | exact rfl | exact ⟨rfl, rfl⟩ | exact fun _ => rfl | exact ⟨[], rfl⟩

theorem State.setFitQueue_moves (q : List Nat) : OnlyMoves [.fitQueue] s (s.setFitQueue q) :=
  s.setFitEngine_moves (fun _ => ⟨rfl, rfl⟩) (fun h => absurd (by decide) h) (fun _ => rfl)

theorem State.setOutput_moves {as : List Aspect} {o : Output} (hqueue : .queue ∉ as → o.queue = s.output.queue)
    (hports : .ports ∉ as → o.portA = s.output.portA ∧ o.portB = s.output.portB) (hxlate : .xlate ∉ as → o.xlate = s.output.xlate) :
    OnlyMoves as s { s with output := o } := by
  intro a ha
  refine ⟨fun _ => Story.keeps_refl _ a, fun _ => Desk.keeps_refl _ a, fun _ => Line.keeps_refl _ a,
    fun _ => Page.keeps_refl _ a, ?_⟩
  cases a
  case queue => exact hqueue ha
  case ports => intro p; cases p; exacts [(hports ha).1, (hports ha).2]
  case xlate => exact hxlate ha
  case channel => exact ⟨[], rfl⟩
  all_goals first | exact trivial | exact rfl | exact ⟨rfl, rfl⟩

theorem State.setQueue_moves (q : List Job) : OnlyMoves [.queue] s (s.setQueue q) :=
  s.setOutput_moves (fun h => absurd (by decide) h) (fun _ => ⟨rfl, rfl⟩) (fun _ => rfl)

theorem State.setPort_moves (p : Port) (v : SetterPort) : OnlyMoves [.ports] s (s.setPort p v) :=
  s.setOutput_moves (fun _ => rfl) (fun h => absurd (by decide) h) (fun _ => rfl)

theorem State.updPort_moves (p : Port) (f : SetterPort → SetterPort) : OnlyMoves [.ports] s (s.updPort p f) :=
  s.setPort_moves p _

theorem State.setStore_moves {as : List Aspect} {st : Store}
    (hpool : .pool ∉ as → st.fresh = s.store.fresh ∧ st.returned = s.store.returned) :
    OnlyMoves as s { s with store := st } := by
  intro a ha
  refine ⟨fun _ => Story.keeps_refl _ a, fun _ => Desk.keeps_refl _ a, fun _ => Line.keeps_refl _ a,
    fun _ => Page.keeps_refl _ a, ?_⟩
  cases a
  case pool => exact hpool ha
  all_goals first | exact trivial | exact rfl | exact ⟨rfl, rfl⟩ | exact fun _ => rfl | exact ⟨[], rfl⟩

theorem State.raise_moves (n : Notice) : OnlyMoves [] s (s.raise n) := by
  intro a _
  by_cases hchannel : a = .channel
  · subst hchannel
    exact ⟨fun _ => trivial, fun _ => trivial, fun _ => trivial, fun _ => trivial, [n], rfl⟩
  · exact OnlyTouches.moves_channel (s.raise_touches n) (by decide) a (by simpa using hchannel)

theorem State.unseeLine_moves (k : Nat) : OnlyMoves [] s (s.unseeLine k) := (s.unseeLine_touches k).moves

/-- A line of which none of these four fields changes. -/
theorem Line.keeps_of_eq {l m : Line} (hstate : m.state = l.state) (huser : m.user = l.user) (hheld : m.held = l.held)
    (hservice : m.service = l.service) (a : Aspect) : l.keeps m a := by
  cases a
  case lineState => exact hstate
  case user => exact huser
  case held => exact hheld
  case service => exact hservice
  all_goals exact trivial

end Updates

end Sys2Proof.Machine

/-! Which aspects of the records each operation can move. -/

namespace Sys2Proof.Machine

section Operations
variable (s : State)

/-! ### Screens, lamps and judgements -/

theorem State.withStatus_keeps (k : Nat) (l : Line) (a : Aspect) : l.keeps (s.withStatus k l) a := by
  rw [State.withStatus_eq]
  exact Line.keeps_of_eq rfl rfl rfl rfl a

theorem State.refresh_moves (p : Nat → Line → Bool) : OnlyMoves [] s (s.refresh p) := by
  refine s.mapLines_moves fun k a _ => ?_
  split
  · exact s.withStatus_keeps k _ a
  · exact Line.keeps_refl _ a

theorem State.lamps_moves (p : Nat → Line → Bool) : OnlyMoves [] s (s.lamps p) := by
  refine s.mapLines_moves fun k a _ => ?_
  split
  · exact Line.keeps_of_eq rfl rfl rfl rfl a
  · exact Line.keeps_refl _ a

/-- A line woken keeps its user, its hold and its request in service (R81). -/
theorem State.awake_keeps (k : Nat) (l : Line) : (s.awake k l).user = l.user ∧ (s.awake k l).held = l.held ∧
    (s.awake k l).service = l.service := by
  unfold State.awake
  dsimp only
  split <;> exact ⟨rfl, rfl, rfl⟩

theorem State.wake_moves (p : Nat → Line → Bool) : OnlyMoves [.lineState] s (s.wake p) := by
  refine s.mapLines_moves fun k a ha => ?_
  split
  · obtain ⟨huser, hheld, hservice⟩ := s.awake_keeps k (s.line k)
    cases a
    case user => exact huser
    case held => exact hheld
    case service => exact hservice
    case lineState => exact absurd (by decide) ha
    all_goals exact trivial
  · exact Line.keeps_refl _ a

theorem State.lampAnew_moves (k : Nat) : OnlyMoves [] s (s.lampAnew k) := s.lamps_moves _
theorem State.lampIf_moves (k : Nat) (src : LampSource) : OnlyMoves [] s (s.lampIf k src) := s.lamps_moves _
theorem State.lampHolder_moves (n : Nat) : OnlyMoves [] s (s.lampHolder n) := by
  unfold State.lampHolder
  split
  · exact s.lampIf_moves _ _
  · exact .refl _ s
theorem State.putWindow_moves (k n f : Nat) : OnlyMoves [] s (s.putWindow k n f) :=
  s.updLine_moves fun a _ => Line.keeps_of_eq rfl rfl rfl rfl a
theorem State.putHome_moves (k d p : Nat) : OnlyMoves [] s (s.putHome k d p) :=
  s.updLine_moves fun a _ => Line.keeps_of_eq rfl rfl rfl rfl a
theorem State.putOwnHome_moves (k : Nat) : OnlyMoves [] s (s.putOwnHome k) := by
  unfold State.putOwnHome
  split
  · exact s.putHome_moves k _ 0
  · exact .refl _ s

theorem State.judge_moves (g : Nat) : OnlyMoves [.pageFit] s (s.judge g) :=
  s.updPage_moves fun a ha => by cases a <;> first | exact trivial | exact rfl | exact absurd (by decide) ha
theorem State.judgeStory_moves (n : Nat) : OnlyMoves [.pageFit] s (s.judgeStory n) := by
  unfold State.judgeStory
  dsimp only
  split
  · split
    · exact s.judge_moves _
    · exact .refl _ s
  · exact .refl _ s
theorem State.noticeFit_moves (before : State) (g : Nat) : OnlyMoves [] s (State.noticeFit before g s) := by
  unfold State.noticeFit
  split
  · exact .refl _ s
  · exact s.raise_moves _
theorem State.noticeFitOf_moves (before : State) (n : Nat) : OnlyMoves [] s (State.noticeFitOf before n s) := by
  unfold State.noticeFitOf
  split
  · exact s.noticeFit_moves before _
  · exact .refl _ s
theorem State.noticeFits_moves (before : State) : OnlyMoves [] s (State.noticeFits before s) :=
  .foldl (fun t g => t.noticeFit_moves before g) pageIds s
theorem State.handOff_moves (n : Nat) : OnlyMoves [.pageFit] s (s.handOff n) :=
  (s.judgeStory_moves n).step (State.lampHolder_moves _ n)

/-! ### Fit states and texts -/

theorem Story.keeps_holder (r : Story) (h : Holder) : ∀ a ∉ [Aspect.holder], r.keeps { r with holder := h } a := by
  intro a ha
  cases a <;> first | exact trivial | exact rfl | exact ⟨rfl, rfl⟩ | exact Iff.rfl | exact id | exact absurd (by decide) ha

theorem Story.keeps_fit (r : Story) (f : FitState) (c : Bool) :
    ∀ a ∉ [Aspect.storyFit, .changed], r.keeps { r with fit := f, changed := c } a := by
  intro a ha
  cases a <;> first | exact trivial | exact rfl | exact ⟨rfl, rfl⟩ | exact Iff.rfl | exact id | exact absurd (by decide) ha

theorem State.setFitState_moves (n : Nat) (f : FitState) :
    OnlyMoves [.storyFit] s (s.updStory n fun r => { r with fit := f }) :=
  s.updStory_moves fun a ha => by
    cases a <;> first | exact trivial | exact rfl | exact ⟨rfl, rfl⟩ | exact Iff.rfl | exact id | exact absurd (by decide) ha

theorem State.setChanged_moves (n : Nat) (c : Bool) :
    OnlyMoves [.changed] s (s.updStory n fun r => { r with changed := c }) :=
  s.updStory_moves fun a ha => by
    cases a <;> first | exact trivial | exact rfl | exact ⟨rfl, rfl⟩ | exact Iff.rfl | exact id | exact absurd (by decide) ha

theorem State.makeStale_moves (n : Nat) : OnlyMoves [.storyFit, .changed, .fitQueue, .pageFit] s (s.makeStale n) := by
  have hstale : OnlyMoves [.storyFit, .changed, .fitQueue, .pageFit] s
      (State.handOff ((s.updStory n fun r => { r with fit := .stale }).setFitQueue (s.fit.queue ++ [n])) n) :=
    ((s.setFitState_moves n .stale).mono.step (State.setFitQueue_moves _ _)).step (State.handOff_moves _ n)
  unfold State.makeStale
  split
  · exact .refl _ s
  · exact (s.setChanged_moves n true).mono
  · exact hstale
  · exact hstale

theorem Story.keeps_afterTableLoad (r : Story) : ∀ a ∉ [Aspect.storyFit, .changed], r.keeps r.afterTableLoad a := by
  intro a ha
  unfold Story.afterTableLoad
  split
  · split
    · exact r.keeps_fit .stale r.changed a ha
    · exact r.keeps_fit r.fit true a ha
    · exact r.keeps_refl a
    · exact r.keeps_refl a
  · exact r.keeps_refl a

theorem Story.freed_afterTableLoad : Story.freed.afterTableLoad = Story.freed := rfl

theorem State.story_mapStories (f : Story → Story) (hf : f Story.freed = Story.freed) (n : Nat) :
    State.story { s with stories := s.stories.map f } n = f (s.story n) := by
  cases n with
  | zero => exact hf.symm
  | succ k =>
    simp only [State.story, Vector.getElem?_map]
    by_cases hk : k < 512
    · simp [hk]
    · simp [hk, hf]

theorem State.mapStories_moves {as : List Aspect} {f : Story → Story} (hfreed : f Story.freed = Story.freed)
    (hf : ∀ r : Story, ∀ a ∉ as, r.keeps (f r) a) : OnlyMoves as s { s with stories := s.stories.map f } := by
  intro a ha
  refine ⟨fun n => ?_, fun _ => Desk.keeps_refl _ a, fun _ => Line.keeps_refl _ a, fun _ => Page.keeps_refl _ a, ?_⟩
  · rw [s.story_mapStories f hfreed]
    exact hf _ a ha
  · cases a <;> first | exact trivial | exact rfl | exact ⟨rfl, rfl⟩ | exact fun _ => rfl | exact ⟨[], rfl⟩

theorem State.page_mapPages (f : Page → Page) (hf : f Page.shut = Page.shut) (g : Nat) :
    State.page { s with pages := s.pages.map f } g = f (s.page g) := by
  cases g with
  | zero => exact hf.symm
  | succ k =>
    simp only [State.page, Vector.getElem?_map]
    by_cases hk : k < 48
    · simp [hk]
    · simp [hk, hf]

/-- Every page in MAKEUP judged afresh (R105, R133). -/
def State.judgeMakeup : State :=
  { s with pages := s.pages.map fun p => if p.state = .makeup then { p with fit := s.judgement p } else p }

theorem State.page_judgeMakeup (g : Nat) :
    s.judgeMakeup.page g = if (s.page g).state = .makeup then { s.page g with fit := s.judgement (s.page g) } else s.page g :=
  s.page_mapPages (fun p => if p.state = .makeup then { p with fit := s.judgement p } else p) rfl g

theorem State.judgeMakeup_moves : OnlyMoves [.pageFit] s s.judgeMakeup := by
  intro a ha
  refine ⟨fun _ => Story.keeps_refl _ a, fun _ => Desk.keeps_refl _ a, fun _ => Line.keeps_refl _ a, fun g => ?_, ?_⟩
  · rw [s.page_judgeMakeup]
    split
    · cases a <;> first | exact trivial | exact rfl | exact absurd (by decide) ha
    · exact Page.keeps_refl _ a
  · cases a <;> first | exact trivial | exact rfl | exact ⟨rfl, rfl⟩ | exact fun _ => rfl | exact ⟨[], rfl⟩

/-- Every story in BASKET or PLACED made out of date at once (R105, R120). -/
def State.loadStale : State :=
  { s with stories := s.stories.map Story.afterTableLoad, fit := { s.fit with queue := s.fit.queue ++ s.tableStale } }

theorem State.tableLoad_eq (before : State) :
    State.tableLoad before s =
      State.noticeFits before (s.loadStale.judgeMakeup.lamps fun _ l => l.lampSource == .overset && l.held.isSome) := rfl

theorem State.loadStale_moves : OnlyMoves [.storyFit, .changed, .fitQueue] s s.loadStale :=
  (((s.mapStories_moves Story.freed_afterTableLoad Story.keeps_afterTableLoad).mono).step
    (State.setFitQueue_moves _ (s.fit.queue ++ s.tableStale)))

theorem State.tableLoad_moves (before : State) :
    OnlyMoves [.storyFit, .changed, .fitQueue, .pageFit] s (State.tableLoad before s) := by
  rw [State.tableLoad_eq]
  exact ((s.loadStale_moves.mono.step (State.judgeMakeup_moves _)).step (State.lamps_moves _ _)).step
    (State.noticeFits_moves _ before)

theorem State.storeLatch_moves : OnlyMoves [] s s.storeLatch := by
  have hlow (b : Bool) : OnlyMoves [] s { s with store := { s.store with low := b } } := s.setStore_moves fun _ => ⟨rfl, rfl⟩
  unfold State.storeLatch
  split
  · exact (hlow true).step (State.raise_moves _ _)
  · split
    · exact hlow false
    · exact .refl _ s

theorem State.storeRelief_moves : OnlyMoves [] s s.storeRelief := by
  unfold State.storeRelief
  split
  · exact s.setStore_moves fun _ => ⟨rfl, rfl⟩
  · exact .refl _ s

theorem State.writeText_moves (n : Nat) (text : List CopyLine) (style : Option Nat) :
    OnlyMoves [.copy, .baseStyle, .pool] s (s.writeText n text style) := by
  have hpool (st : Store) : OnlyMoves [.copy, .baseStyle, .pool] s { s with store := st } :=
    s.setStore_moves fun h => absurd (by decide) h
  unfold State.writeText
  dsimp only
  refine (hpool _).step (bs := [.copy, .baseStyle]) (State.updStory_moves _ fun a ha => ?_)
  cases a <;> first | exact trivial | exact rfl | exact ⟨rfl, rfl⟩ | exact Iff.rfl | exact id | exact absurd (by decide) ha

theorem State.changeText_moves (n : Nat) (text : List CopyLine) (style : Option Nat) :
    OnlyMoves [.copy, .baseStyle, .pool, .storyFit, .changed, .fitQueue, .pageFit] s (s.changeText n text style) :=
  ((((s.writeText_moves n text style).mono.step (State.storeLatch_moves _)).step (State.makeStale_moves _ n)).step
    (State.lampHolder_moves _ n)).step (State.noticeFitOf_moves _ s n)

/-! ### Baskets, spike lists and holds -/

theorem State.joinBasket_moves (n : Nat) : OnlyMoves [.baskets] s (s.joinBasket n) :=
  s.updDesk_moves fun a ha => by cases a <;> first | exact trivial | exact rfl | exact absurd (by decide) ha
theorem State.leaveBasket_moves (n : Nat) : OnlyMoves [.baskets] s (s.leaveBasket n) :=
  s.updDesk_moves fun a ha => by cases a <;> first | exact trivial | exact rfl | exact absurd (by decide) ha
theorem State.leaveSpikes_moves (n : Nat) : OnlyMoves [.spikeLists] s (s.leaveSpikes n) :=
  s.updDesk_moves fun a ha => by cases a <;> first | exact trivial | exact ⟨rfl, rfl⟩ | exact absurd (by decide) ha

theorem State.announce_moves (n : Nat) : OnlyMoves [.lineState] s (s.announce n) := by
  have h : OnlyMoves [.lineState] s ((s.raise (.arrival (s.story n).desk n)).refreshDesk (s.story n).desk) :=
    (s.raise_moves _).mono.step (State.refresh_moves _ _)
  unfold State.announce
  dsimp only
  split
  · exact (h.step (State.wake_moves _ _)).step (State.lamps_moves _ _)
  · exact h.step (State.lamps_moves _ _)
theorem State.arrive_moves (n : Nat) : OnlyMoves [.baskets, .lineState] s (s.arrive n) :=
  (s.joinBasket_moves n).mono.step (State.announce_moves _ n)
theorem State.depart_moves (n : Nat) : OnlyMoves [.baskets] s (s.depart n) :=
  ((s.leaveBasket_moves n).step (State.refresh_moves _ _)).step (State.lamps_moves _ _)

theorem State.emptySlots_moves (g n : Nat) : OnlyMoves [.slots] s (s.emptySlots g n) :=
  s.updPage_moves fun a ha => by cases a <;> first | exact trivial | exact rfl | exact absurd (by decide) ha
theorem State.stopFit_moves (n : Nat) : OnlyMoves [.fitQueue, .inFlight] s (s.stopFit n) :=
  s.setFitEngine_moves (fun _ => ⟨rfl, rfl⟩) (fun h => absurd (by decide) h) (fun h => absurd (by decide) h)

theorem State.enterSpiked_moves (n : Nat) :
    OnlyMoves [.fitQueue, .inFlight, .slots, .stage, .basketed, .spiked, .run, .storyFit, .changed, .spikeLists] s
      (s.enterSpiked n) := by
  have hspiked (r : Story) : ∀ a ∉ [Aspect.stage, .basketed, .spiked, .run, .storyFit, .changed],
      r.keeps { r with stage := .spiked, run := none, fit := .none, changed := false } a := by
    intro a ha
    cases a
    case free => exact nofun
    all_goals first | exact trivial | exact rfl | exact ⟨rfl, rfl⟩ | exact absurd (by decide) ha
  have hlist (t : State) (d : Nat) : OnlyMoves [.spikeLists] t (t.updDesk d fun d => { d with spikes := d.spikes ++ [n] }) :=
    t.updDesk_moves fun a ha => by cases a <;> first | exact trivial | exact ⟨rfl, rfl⟩ | exact absurd (by decide) ha
  unfold State.enterSpiked
  dsimp only
  split
  · exact (((s.stopFit_moves n).mono.step (State.emptySlots_moves _ _ n)).step
      (State.updStory_moves _ (hspiked _))).step (hlist _ _)
  · exact ((s.stopFit_moves n).mono.step (State.updStory_moves _ (hspiked _))).step (hlist _ _)

theorem State.setHolder_moves (n : Nat) (h : Holder) : OnlyMoves [.holder] s (s.updStory n fun r => { r with holder := h }) :=
  s.updStory_moves (Story.keeps_holder _ h)

theorem State.setHeld_moves (k : Nat) (h : Option Nat) : OnlyMoves [.held] s (s.updLine k fun l => { l with held := h }) :=
  s.updLine_moves fun a ha => by cases a <;> first | exact trivial | exact rfl | exact absurd (by decide) ha

theorem State.releaseHold_moves (n : Nat) : OnlyMoves [.holder, .held] s (s.releaseHold n) := by
  have h : OnlyMoves [.holder, .held] s (s.updStory n fun r => { r with holder := .absent }) := (s.setHolder_moves n _).mono
  unfold State.releaseHold
  dsimp only
  split
  · exact h
  · exact h
  · refine (h.step (bs := [.held]) (State.updLine_moves _ fun a ha => ?_)).step (State.lampIf_moves _ _ _)
    split <;> cases a <;> first | exact trivial | exact rfl | exact absurd (by decide) ha
  · exact (h.step (State.setHeld_moves _ _ none)).step (State.lampIf_moves _ _ _)

theorem State.takeHold_moves (k n : Nat) : OnlyMoves [.holder, .held] s (s.takeHold k n) :=
  ((s.setHolder_moves n _).mono.step (State.setHeld_moves _ k _)).step (State.lampIf_moves _ k _)
theorem State.releaseOwn_moves (k n : Nat) : OnlyMoves [.holder, .held] s (s.releaseOwn k n) := by
  unfold State.releaseOwn
  split
  · exact (s.releaseHold_moves n).step (State.putOwnHome_moves _ k)
  · exact .refl _ s
theorem State.releaseChannel_moves (n : Nat) : OnlyMoves [.holder, .held] s (s.releaseChannel n) := by
  unfold State.releaseChannel
  split
  · exact s.releaseHold_moves n
  · exact .refl _ s

/-! ### Jobs, ports and pages -/

theorem Page.keeps_state (p : Page) (st : PageState) (trim : Bool) :
    ∀ a ∉ [Aspect.pageState], p.keeps { p with state := st, trim := trim } a := by
  intro a ha
  cases a <;> first | exact trivial | exact rfl | exact absurd (by decide) ha

theorem Page.keeps_job (p : Page) (j : Option JobRecord) : ∀ a ∉ [Aspect.pageJob], p.keeps { p with job := j } a := by
  intro a ha
  cases a <;> first | exact trivial | exact rfl | exact absurd (by decide) ha

theorem State.recordJob_moves (g : Nat) (j : JobRecord) : OnlyMoves [.pageJob] s (s.recordJob g j) :=
  s.updPage_moves (Page.keeps_job _ _)
theorem State.endRecord_moves (g : Nat) (o : JobOutcome) : OnlyMoves [.pageJob] s (s.endRecord g o) :=
  s.updPage_moves (Page.keeps_job _ _)
theorem State.setPageState_moves (g : Nat) (st : PageState) :
    OnlyMoves [.pageState] s (s.updPage g fun p => { p with state := st }) :=
  s.updPage_moves (Page.keeps_state _ st _)
theorem State.backToMakeup_moves (g : Nat) :
    OnlyMoves [.pageState] s (s.updPage g fun p => { p with state := .makeup, trim := false }) :=
  s.updPage_moves (Page.keeps_state _ .makeup false)

theorem State.beginJob_moves (p : Port) (j : Job) : OnlyMoves [.ports, .pageJob, .pageState] s (s.beginJob p j) :=
  ((s.updPort_moves p _).mono.step (State.recordJob_moves _ _ _)).step (State.setPageState_moves _ _ _)
theorem State.portTakes_moves (p : Port) : OnlyMoves [.queue, .ports, .pageJob, .pageState] s (s.portTakes p) := by
  unfold State.portTakes
  split
  · split
    · exact (s.setQueue_moves _).mono.step (State.beginJob_moves _ p _)
    · exact .refl _ s
  · exact .refl _ s
theorem State.arbitrate_moves : OnlyMoves [.queue, .ports, .pageJob, .pageState] s s.arbitrate :=
  (s.portTakes_moves .a).step (State.portTakes_moves _ .b)

theorem Story.keeps_stage (r : Story) {old new : Stage} (hold : old.onPage = true) (hnew : new.onPage = true) :
    ∀ a ∉ [Aspect.stage], r.keeps (if r.stage = old then { r with stage := new } else r) a := by
  intro a ha
  split
  next h =>
    have hne : new ≠ .free ∧ new ≠ .basket ∧ new ≠ .spiked := by cases new <;> simp_all [Stage.onPage]
    have hne' : r.stage ≠ .basket ∧ r.stage ≠ .spiked := by rw [h]; cases old <;> simp_all [Stage.onPage]
    cases a
    case free => exact fun hfree => absurd hfree hne.1
    case basketed => exact ⟨fun hnew => absurd hnew hne.2.1, fun hold => absurd hold hne'.1⟩
    case spiked => exact ⟨fun hnew => absurd hnew hne.2.2, fun hold => absurd hold hne'.2⟩
    all_goals first | exact trivial | exact rfl | exact ⟨rfl, rfl⟩ | exact absurd (by decide) ha
  next => exact r.keeps_refl a

theorem State.moveStories_moves (g : Nat) {old new : Stage} (hold : old.onPage = true := by rfl)
    (hnew : new.onPage = true := by rfl) : OnlyMoves [.stage] s (s.moveStories g old new) :=
  .foldl (fun t _ => t.updStory_moves (Story.keeps_stage _ hold hnew)) _ s
theorem State.returnPage_moves (g : Nat) : OnlyMoves [.stage, .pageState, .pageFit] s (s.returnPage g) :=
  ((s.moveStories_moves g).mono.step (State.backToMakeup_moves _ g)).step (State.judge_moves _ g)
theorem State.cancelQueued_moves (g : Nat) :
    OnlyMoves [.queue, .pageJob, .stage, .pageState, .pageFit] s (s.cancelQueued g) :=
  ((s.setQueue_moves _).mono.step (State.endRecord_moves _ g _)).step (State.returnPage_moves _ g)
theorem State.cancelAtPort_moves (p : Port) (g : Nat) (next : PortState) :
    OnlyMoves [.ports, .pageJob, .stage, .pageState, .pageFit] s (s.cancelAtPort p g next) :=
  ((s.updPort_moves p _).mono.step (State.endRecord_moves _ g _)).step (State.returnPage_moves _ g)
theorem State.cancelSetting_moves (g : Nat) :
    OnlyMoves [.queue, .ports, .pageJob, .stage, .pageState, .pageFit] s (s.cancelSetting g) := by
  unfold State.cancelSetting
  split
  · exact (s.cancelAtPort_moves _ g _).mono.step (State.arbitrate_moves _)
  · exact (s.returnPage_moves g).mono
theorem State.reopenPage_moves (g : Nat) :
    OnlyMoves [.stage, .pageState, .storyFit, .changed, .fitQueue, .pageFit] s (s.reopenPage g) :=
  (((s.moveStories_moves g).mono.step (State.backToMakeup_moves _ g)).step
    (.foldl (fun t n => t.makeStale_moves n) _ _)).step (State.judge_moves _ g)
theorem State.queuePage_moves (g : Nat) :
    OnlyMoves [.queue, .ports, .pageJob, .stage, .pageState] s (s.queuePage g) :=
  (((((s.setQueue_moves _).mono.step (State.recordJob_moves _ g _)).step (State.setPageState_moves _ g _)).step
    (State.moveStories_moves _ g)).step (State.raise_moves _ _)).step (State.arbitrate_moves _)
theorem State.decideRelease_moves (g : Nat) :
    OnlyMoves [.queue, .ports, .pageJob, .stage, .pageState, .pageFit] s (s.decideRelease g) := by
  unfold State.decideRelease
  dsimp only
  split
  · exact (s.returnPage_moves g).mono.step (State.raise_moves _ _)
  · split
    · exact (s.returnPage_moves g).mono.step (State.raise_moves _ _)
    · exact (s.queuePage_moves g).mono
theorem State.endWait_moves (g : Nat) :
    OnlyMoves [.queue, .ports, .pageJob, .stage, .pageState, .pageFit] s (s.endWait g) := by
  unfold State.endWait
  dsimp only
  split
  · exact s.decideRelease_moves g
  · exact .refl _ s
theorem State.endWaitOf_moves (n : Nat) :
    OnlyMoves [.queue, .ports, .pageJob, .stage, .pageState, .pageFit] s (s.endWaitOf n) := by
  unfold State.endWaitOf
  split
  · exact s.endWait_moves _
  · exact .refl _ s
theorem State.killReturn_moves (g : Nat) :
    OnlyMoves [.queue, .ports, .pageJob, .stage, .pageState, .storyFit, .changed, .fitQueue, .pageFit] s
      (s.killReturn g) := by
  unfold State.killReturn
  split
  · exact (s.returnPage_moves g).mono
  · exact (s.cancelQueued_moves g).mono
  · exact (s.cancelSetting_moves g).mono
  · exact (s.reopenPage_moves g).mono
  · exact .refl _ s
  · exact .refl _ s
theorem State.kill_moves (before : State) (n : Nat) :
    OnlyMoves [.queue, .ports, .pageJob, .stage, .pageState, .storyFit, .changed, .fitQueue, .pageFit, .inFlight, .slots,
      .basketed, .spiked, .run, .spikeLists] s (State.kill before s n) := by
  unfold State.kill
  split
  · exact (s.enterSpiked_moves n).mono
  · exact (((s.killReturn_moves _).mono.step (State.enterSpiked_moves _ n)).step (State.judge_moves _ _)).step
      (State.noticeFit_moves _ before _)
theorem State.losePort_moves (p : Port) (j : PortJob) :
    OnlyMoves [.queue, .ports, .pageJob, .stage, .pageState, .pageFit] s (s.losePort p j) := by
  have h : OnlyMoves [.queue, .ports, .pageJob, .stage, .pageState, .pageFit] s
      (if (s.port p).lossLatch then s.updPort p SetterPort.loseJob
        else (s.updPort p SetterPort.loseJob).raise (.output p (.lost j.job.page (s.lossFate p)))) := by
    split
    · exact (s.updPort_moves p _).mono
    · exact (s.updPort_moves p _).mono.step (State.raise_moves _ _)
  unfold State.losePort
  dsimp only
  split
  · exact (h.step (State.beginJob_moves _ _ _)).step (State.raise_moves _ _)
  · exact (((h.step (State.setQueue_moves _ _)).step (State.recordJob_moves _ _ _)).step
      (State.setPageState_moves _ _ _)).step (State.arbitrate_moves _)
  · exact ((h.step (State.recordJob_moves _ _ _)).step (State.returnPage_moves _ _)).step (State.raise_moves _ _)
theorem State.lossExpires_moves (p : Port) :
    OnlyMoves [.queue, .ports, .pageJob, .stage, .pageState, .pageFit] s (s.lossExpires p) := by
  unfold State.lossExpires
  split
  · exact s.losePort_moves p _
  · exact .refl _ s
theorem State.lossTick_moves :
    OnlyMoves [.queue, .ports, .pageJob, .stage, .pageState, .pageFit] s s.lossTick := by
  have h : OnlyMoves [.queue, .ports, .pageJob, .stage, .pageState, .pageFit] s ((s.lossFalls .a).lossFalls .b) :=
    (s.updPort_moves .a _).mono.step (State.updPort_moves _ .b _)
  unfold State.lossTick
  dsimp only
  split <;> split
  · exact (h.step (State.lossExpires_moves _ .a)).step (State.lossExpires_moves _ .b)
  · exact h.step (State.lossExpires_moves _ .b)
  · exact h.step (State.lossExpires_moves _ .a)
  · exact h

/-! ### Lines -/

theorem Line.keeps_service {l m : Line} (hstate : m.state = l.state) (huser : m.user = l.user) (hheld : m.held = l.held) :
    ∀ a ∉ [Aspect.service], l.keeps m a := by
  intro a ha
  cases a
  case lineState => exact hstate
  case user => exact huser
  case held => exact hheld
  case service => exact absurd (by decide) ha
  all_goals exact trivial

theorem State.answerService_moves (k : Nat) (kind : List Byte) (st : Status) (d : List Byte) :
    OnlyMoves [.service] s (s.answerService k kind st d) :=
  s.updLine_moves (Line.keeps_service rfl rfl rfl)
theorem State.intoService_moves (k : Nat) (kind : List Byte) (i : Instr) : OnlyMoves [.service] s (s.intoService k kind i) :=
  s.updLine_moves (Line.keeps_service rfl rfl rfl)
theorem State.answerAtOnce_moves (k : Nat) (kind : List Byte) (st : Status) :
    OnlyMoves [.service] s (s.answerAtOnce k kind st) :=
  OnlyMoves.step (s.updLine_moves (Line.keeps_service rfl rfl rfl)) (State.answerService_moves _ k _ _ _)
theorem State.answerPassing_moves (k : Nat) (kind : List Byte) (st : Status) : OnlyMoves [] s (s.answerPassing k kind st) := by
  refine s.updLine_moves fun a _ => ?_
  dsimp only
  split
  · exact Line.keeps_of_eq rfl rfl rfl rfl a
  · split
    · exact Line.keeps_refl _ a
    · exact Line.keeps_of_eq rfl rfl rfl rfl a
theorem State.clearWithdrawn_moves (k : Nat) : OnlyMoves [] s (s.clearWithdrawn k) := by
  unfold State.clearWithdrawn
  split
  · exact OnlyMoves.step (s.updLine_moves fun a _ => Line.keeps_of_eq rfl rfl rfl rfl a) (State.refresh_moves _ _)
  · exact .refl _ s
theorem State.setLatch_moves (k : Nat) (f : Latches → Latches) : OnlyMoves [] s (s.setLatch k f) := by
  have h : OnlyMoves [] s (s.updLine k fun l => { l with latches := f l.latches }) :=
    s.updLine_moves fun a _ => Line.keeps_of_eq rfl rfl rfl rfl a
  unfold State.setLatch
  dsimp only
  split
  · exact h
  · exact h.step (State.lampIf_moves _ k _)
theorem State.noteUnknown_moves (k : Nat) (f : TerminalFrame) : OnlyMoves [] s (s.noteUnknown k f) := by
  unfold State.noteUnknown
  split
  · exact s.setLatch_moves k _
  · exact .refl _ s
theorem State.frameIdle_moves (k : Nat) (kind : List Byte) (f : TerminalFrame) :
    OnlyMoves [.service] s (s.frameIdle k kind f) := by
  unfold State.frameIdle
  split
  · exact (s.answerPassing_moves k kind _).mono
  · split
    · exact s.answerAtOnce_moves k kind _
    · exact s.answerAtOnce_moves k kind _
    · split
      · exact s.intoService_moves k kind _
      · exact s.answerAtOnce_moves k kind _
theorem State.frameSigning_moves (k : Nat) (kind : List Byte) (f : TerminalFrame) :
    OnlyMoves [.service] s (s.frameSigning k kind f) := by
  unfold State.frameSigning
  split
  · exact (s.answerPassing_moves k kind _).mono
  · exact (s.answerPassing_moves k kind _).mono
theorem State.frameReady_moves (k : Nat) (kind : List Byte) (f : TerminalFrame) :
    OnlyMoves [.service] s (s.frameReady k kind f) := by
  have h : OnlyMoves [.service] s (s.updLine k Line.armDim) := s.updLine_moves fun a _ => Line.keeps_of_eq rfl rfl rfl rfl a
  have c := h.step (State.clearWithdrawn_moves _ k)
  unfold State.frameReady
  dsimp only
  split
  · exact h.step (State.answerPassing_moves _ k kind _)
  · split
    · exact c.step (State.answerAtOnce_moves _ k kind _)
    · split
      · exact c.step (State.answerAtOnce_moves _ k kind _)
      · exact c.step (State.answerAtOnce_moves _ k kind _)
      · exact c.step (State.intoService_moves _ k kind _)
theorem State.frameIn_moves (k : Nat) (kind : List Byte) (f : TerminalFrame) :
    OnlyMoves [.service, .lineState] s (s.frameIn k kind f) := by
  unfold State.frameIn
  split
  · exact .refl _ s
  · exact .refl _ s
  · exact (s.noteUnknown_moves k f).mono.step (State.frameIdle_moves _ k kind f)
  · exact (s.noteUnknown_moves k f).mono.step (State.frameSigning_moves _ k kind f)
  · exact (s.noteUnknown_moves k f).mono.step (State.frameReady_moves _ k kind f)
  · exact ((s.wake_moves _).mono.step (State.noteUnknown_moves _ k f)).step (State.frameReady_moves _ k kind f)
theorem State.offerFrame_moves (k : Nat) (i : Instr) : OnlyMoves [.service, .lineState] s (s.offerFrame k i) := by
  unfold State.offerFrame
  split
  · exact .refl _ s
  · exact s.frameIn_moves k _ _
theorem State.setRx_moves (k : Nat) (bs : List Byte) : OnlyMoves [] s (s.updLine k fun l => { l with rx := bs }) :=
  s.updLine_moves fun a _ => Line.keeps_of_eq rfl rfl rfl rfl a
theorem State.gateFault_moves (k : Nat) (x : LineFault) : OnlyMoves [] s (s.gateFault k x) :=
  (s.setRx_moves k []).step (State.setLatch_moves _ k _)
theorem State.frameDone_moves (k : Fin 32) (bs : List Byte) : OnlyMoves [.service, .lineState] s (s.frameDone k bs) := by
  unfold State.frameDone
  split
  · exact (s.setRx_moves k []).mono.step (State.frameIn_moves _ _ _ _)
  · exact (s.gateFault_moves _ _).mono
theorem State.receiveChar_moves (k : Fin 32) (b : Byte) : OnlyMoves [.service, .lineState] s (State.receiveChar k s b) := by
  unfold State.receiveChar
  dsimp only
  split
  · split
    · split
      · exact (s.setRx_moves k [b]).mono
      · exact .refl _ s
    · split
      · exact (s.gateFault_moves _ _).mono
      · split
        · exact s.frameDone_moves k _
        · exact (s.setRx_moves k _).mono
  · exact .refl _ s
theorem State.resumeOrphan_moves (k m n : Nat) : OnlyMoves [.holder, .held] s (s.resumeOrphan k m n) :=
  ((s.setHeld_moves m none).mono.step (State.lampIf_moves _ m _)).step (State.takeHold_moves _ k n)
theorem State.signonExpires_moves (k : Nat) : OnlyMoves [.lineState, .service] s (s.signonExpires k) := by
  refine OnlyMoves.step (s.updLine_moves fun a ha => ?_) (State.answerService_moves _ k _ _ _)
  cases a <;> first | exact trivial | exact rfl | exact absurd (by decide) ha
theorem State.goDim_moves (k : Nat) : OnlyMoves [.lineState] s (s.goDim k) :=
  s.updLine_moves fun a ha => by cases a <;> first | exact trivial | exact rfl | exact absurd (by decide) ha
theorem State.lineTick_moves (k : Nat) : OnlyMoves [.lineState, .service] s (s.lineTick k) := by
  unfold State.lineTick
  dsimp only
  repeat' split
  all_goals
    first
      | exact .refl _ s
      | exact s.signonExpires_moves k
      | exact (s.goDim_moves k).mono
      | exact (s.updLine_moves fun a _ => Line.keeps_of_eq rfl rfl rfl rfl a)
theorem State.orphanExpires_moves (n user k : Nat) : OnlyMoves [.holder, .held] s (s.orphanExpires n user k) :=
  (s.releaseHold_moves n).step (State.raise_moves _ _)
theorem State.orphanTick_moves (n : Nat) : OnlyMoves [.holder, .held] s (s.orphanTick n) := by
  unfold State.orphanTick
  split
  · split
    · exact s.orphanExpires_moves n _ _
    · exact (s.setHolder_moves n _).mono
  · exact .refl _ s

/-! ### The clock -/

theorem State.clockEvent_moves : OnlyMoves [] s s.clockEvent := (s.refresh_moves _).step (State.lamps_moves _ _)
theorem State.setClock_moves (c : Clock) : OnlyMoves [] s { s with clock := c } := (s.setClock_touches c).moves
theorem State.warnNear_moves : OnlyMoves [] s s.warnNear := by
  unfold State.warnNear
  split
  · exact (s.setClock_moves _).step (State.raise_moves _ _)
  · exact .refl _ s
theorem State.switchEdition_moves (c : Nat) : OnlyMoves [] s (s.switchEdition c) :=
  (((s.setClock_moves _).step (State.raise_moves _ _)).step (State.warnNear_moves _)).step (State.clockEvent_moves _)
theorem State.terminalCount_moves : OnlyMoves [] s s.terminalCount := by
  unfold State.terminalCount
  split
  · exact s.switchEdition_moves _
  · exact ((s.setClock_moves _).step (State.raise_moves _ _)).step (State.clockEvent_moves _)
theorem State.minutesPass_moves (old : Nat) : OnlyMoves [] s (s.minutesPass old) := by
  unfold State.minutesPass
  split
  · exact .refl _ s
  · exact s.refresh_moves _
theorem State.nearLamps_moves (due : Bool) : OnlyMoves [] s (s.nearLamps due) := by
  unfold State.nearLamps
  split
  · exact s.lamps_moves _
  · exact .refl _ s
theorem State.clockTick_moves : OnlyMoves [] s s.clockTick := by
  unfold State.clockTick
  split
  · exact .refl _ s
  · split
    · exact s.terminalCount_moves
    · exact (((s.setClock_moves _).step (State.warnNear_moves _)).step (State.nearLamps_moves _ _)).step
        (State.minutesPass_moves _ _)
  · exact (s.setClock_moves _).step (State.minutesPass_moves _ _)

end Operations

end Sys2Proof.Machine

/-! Which aspects of the records each command can move. -/

namespace Sys2Proof.Machine

section Rules
variable (s : State)

/-! ### The rules of the copy directory and the desks -/

theorem State.makeStory_moves {n : Nat} (hfree : (s.story n).stage = .free) (slug : List Byte) (desk style : Nat)
    (p : Priority) :
    OnlyMoves [.copy, .baseStyle, .basketed, .stage, .storyDesk, .priority, .holder, .run, .storyFit, .changed, .results,
      .fitQueue] s (s.makeStory n slug desk style p) := by
  refine OnlyMoves.step (bs := [.fitQueue]) (s.setStory_moves fun a ha => ?_) (State.setFitQueue_moves _ _)
  cases a
  case free => exact nofun
  case spiked => exact ⟨nofun, fun h => absurd (hfree.symm.trans h) (by decide)⟩
  all_goals first | exact trivial | exact absurd (by decide) ha

theorem State.lowestFree_free {n : Nat} (h : s.lowestFree = some n) : (s.story n).stage = .free := by
  have := List.find?_some h
  simpa using this

theorem State.create_moves (slug : List Byte) (desk style priority : Nat) :
    OnlyMoves [.copy, .baseStyle, .basketed, .stage, .storyDesk, .priority, .holder, .run, .storyFit, .changed, .results,
      .fitQueue, .baskets, .lineState] s (s.create slug desk style priority).2.2 := by
  unfold State.create
  split
  · exact .refl _ s
  · split
    · split
      · exact .refl _ s
      next n h => exact (s.makeStory_moves (s.lowestFree_free h) _ _ _ _).mono.step (State.arrive_moves _ _)
    · exact .refl _ s

theorem State.newStory_moves (k : Nat) (slug : List Byte) (style priority : Nat) :
    OnlyMoves [.copy, .baseStyle, .basketed, .stage, .storyDesk, .priority, .holder, .run, .storyFit, .changed, .results,
      .fitQueue, .baskets, .lineState, .held] s (s.newStory k slug style priority).2.2 := by
  unfold State.newStory
  split
  · exact .refl _ s
  · split
    · split
      · exact .refl _ s
      · split
        · exact .refl _ s
        · split
          · exact .refl _ s
          next n h =>
            exact (((s.makeStory_moves (s.lowestFree_free h) _ _ _ _).mono.step (State.takeHold_moves _ _ _)).step
              (State.arrive_moves _ _)).step (State.putWindow_moves _ _ _ _)
    · exact .refl _ s

theorem State.textWrite_moves (n : Nat) (style : Option Nat) (text : List CopyLine) :
    OnlyMoves [.copy, .baseStyle, .pool, .storyFit, .changed, .fitQueue, .pageFit] s (s.textWrite n style text).2.2 := by
  unfold State.textWrite
  split
  · exact .refl _ s
  · exact s.changeText_moves n text style

theorem State.textAppend_moves (n : Nat) (style : Option Nat) (new : List CopyLine) :
    OnlyMoves [.copy, .baseStyle, .pool, .storyFit, .changed, .fitQueue, .pageFit] s (s.textAppend n style new).2.2 := by
  unfold State.textAppend
  split
  next h => exact .of_eq (s.textCheck_touches h)
  next => exact s.textWrite_moves _ _ _

theorem State.textReplace_moves (n : Nat) (style : Option Nat) (new : List CopyLine) :
    OnlyMoves [.copy, .baseStyle, .pool, .storyFit, .changed, .fitQueue, .pageFit] s (s.textReplace n style new).2.2 := by
  unfold State.textReplace
  split
  next h => exact .of_eq (s.textCheck_touches h)
  next => exact s.textWrite_moves _ _ _

theorem State.textReplaceRange_moves (n : Nat) (style : Option Nat) (f k : Nat) (new : List CopyLine) :
    OnlyMoves [.copy, .baseStyle, .pool, .storyFit, .changed, .fitQueue, .pageFit] s
      (s.textReplaceRange n style f k new).2.2 := by
  unfold State.textReplaceRange
  split
  next h => exact .of_eq (s.textCheck_touches h)
  next =>
    split
    · exact .refl _ s
    · exact s.textWrite_moves _ _ _

theorem State.route_moves (n desk : Nat) : OnlyMoves [.baskets, .lineState, .storyDesk] s (s.route n desk) := by
  have hdesk (t : State) : OnlyMoves [.storyDesk] t (t.updStory n fun r => { r with desk := desk }) :=
    t.updStory_moves fun a ha => by
      cases a <;>
        first | exact trivial | exact rfl | exact ⟨rfl, rfl⟩ | exact Iff.rfl | exact id | exact absurd (by decide) ha
  unfold State.route
  split
  · exact (s.leaveBasket_moves n).mono.step (State.arrive_moves _ n)
  · exact ((s.depart_moves n).mono.step (hdesk _)).step (State.arrive_moves _ n)

theorem State.hostRoute_moves (n desk : Nat) :
    OnlyMoves [.holder, .held, .baskets, .lineState, .storyDesk] s (s.hostRoute n desk).2.2 := by
  unfold State.hostRoute
  repeat' split
  all_goals first
    | exact .refl _ s
    | exact (s.releaseChannel_moves n).mono.step (State.route_moves _ n desk)

theorem State.lineRoute_moves (k n desk : Nat) :
    OnlyMoves [.holder, .held, .baskets, .lineState, .storyDesk] s (s.lineRoute k n desk).2.2 := by
  unfold State.lineRoute
  dsimp only
  repeat' split
  all_goals first
    | exact .refl _ s
    | exact (s.releaseOwn_moves k n).mono.step (State.route_moves _ n desk)

theorem State.setPriority_moves (n : Nat) (p : Priority) :
    OnlyMoves [.priority] s (s.updStory n fun r => { r with priority := p }) :=
  s.updStory_moves fun a ha => by
    cases a <;> first | exact trivial | exact rfl | exact ⟨rfl, rfl⟩ | exact Iff.rfl | exact id | exact absurd (by decide) ha

theorem State.reclass_moves (n : Nat) (p : Priority) : OnlyMoves [.priority, .baskets, .lineState] s (s.reclass n p) := by
  unfold State.reclass
  split
  · exact ((s.leaveBasket_moves n).mono.step (State.setPriority_moves _ n p)).step (State.arrive_moves _ n)
  · exact (s.setPriority_moves n p).mono

theorem State.hostPriority_moves (n priority : Nat) :
    OnlyMoves [.priority, .baskets, .lineState] s (s.hostPriority n priority).2.2 := by
  unfold State.hostPriority
  repeat' split
  all_goals first
    | exact .refl _ s
    | exact s.reclass_moves n _

theorem State.linePriority_moves (k priority : Nat) :
    OnlyMoves [.priority, .baskets, .lineState] s (s.linePriority k priority).2.2 := by
  unfold State.linePriority
  repeat' split
  all_goals first
    | exact .refl _ s
    | exact s.reclass_moves _ _

theorem State.spike_moves (n : Nat) :
    OnlyMoves [.baskets, .fitQueue, .inFlight, .slots, .stage, .basketed, .spiked, .run, .storyFit, .changed, .spikeLists] s
      (s.spike n) :=
  (s.depart_moves n).mono.step (State.enterSpiked_moves _ n)

theorem State.hostSpike_moves (n : Nat) :
    OnlyMoves [.holder, .held, .baskets, .fitQueue, .inFlight, .slots, .stage, .basketed, .spiked, .run, .storyFit, .changed,
      .spikeLists] s (s.hostSpike n).2.2 := by
  unfold State.hostSpike
  repeat' split
  all_goals first
    | exact .refl _ s
    | exact (s.releaseChannel_moves n).mono.step (State.spike_moves _ n)

theorem State.lineSpike_moves (k n : Nat) :
    OnlyMoves [.holder, .held, .baskets, .fitQueue, .inFlight, .slots, .stage, .basketed, .spiked, .run, .storyFit, .changed,
      .spikeLists] s (s.lineSpike k n).2.2 := by
  unfold State.lineSpike
  dsimp only
  repeat' split
  all_goals first
    | exact .refl _ s
    | exact (s.releaseOwn_moves k n).mono.step (State.spike_moves _ n)

theorem State.returnSpiked_moves (n : Nat) :
    OnlyMoves [.spikeLists, .stage, .basketed, .spiked, .storyFit, .changed, .fitQueue, .pageFit, .baskets, .lineState] s
      (s.returnSpiked n) := by
  have hstage (t : State) :
      OnlyMoves [.stage, .basketed, .spiked] t (t.updStory n fun r => { r with stage := .basket }) :=
    t.updStory_moves fun a ha => by
      cases a
      case free => exact nofun
      all_goals first | exact trivial | exact rfl | exact ⟨rfl, rfl⟩ | exact absurd (by decide) ha
  exact (((s.leaveSpikes_moves n).mono.step (hstage _)).step (State.makeStale_moves _ n)).step (State.arrive_moves _ n)

theorem State.unspike_moves (n : Nat) :
    OnlyMoves [.spikeLists, .stage, .basketed, .spiked, .storyFit, .changed, .fitQueue, .pageFit, .baskets, .lineState] s
      (s.unspike n).2.2 := by
  unfold State.unspike
  repeat' split
  all_goals first
    | exact .refl _ s
    | exact s.returnSpiked_moves n

theorem State.hostKill_moves (n : Nat) :
    OnlyMoves [.holder, .held, .queue, .ports, .pageJob, .stage, .pageState, .storyFit, .changed, .fitQueue, .pageFit,
      .inFlight, .slots, .basketed, .spiked, .run, .spikeLists] s (s.hostKill n).2.2 := by
  unfold State.hostKill
  dsimp only
  repeat' split
  all_goals first
    | exact .refl _ s
    | exact (s.releaseChannel_moves n).mono.step (State.kill_moves _ s n)

theorem State.lineKill_moves (k n : Nat) :
    OnlyMoves [.holder, .held, .queue, .ports, .pageJob, .stage, .pageState, .storyFit, .changed, .fitQueue, .pageFit,
      .inFlight, .slots, .basketed, .spiked, .run, .spikeLists] s (s.lineKill k n).2.2 := by
  unfold State.lineKill
  dsimp only
  repeat' split
  all_goals first
    | exact .refl _ s
    | exact (s.releaseOwn_moves k n).mono.step (State.kill_moves _ s n)

/-! ### The rules of holds and lines -/

theorem State.armOverride_moves (k : Nat) : OnlyMoves [] s (s.armOverride k).2.2 := by
  unfold State.armOverride
  split
  · exact s.updLine_moves fun a _ => Line.keeps_of_eq rfl rfl rfl rfl a
  · exact .refl _ s

theorem State.lineOpen_moves (k n : Nat) : OnlyMoves [.holder, .held] s (s.lineOpen k n).2.2 := by
  have hopen : OnlyMoves [.holder, .held] s (s.openAtLine k n) := by
    unfold State.openAtLine
    split
    · exact (s.takeHold_moves k n).step (State.putWindow_moves _ k n 0)
    · exact (s.putWindow_moves k n 0).mono
  unfold State.lineOpen
  dsimp only
  repeat' split
  all_goals first
    | exact .refl _ s
    | exact hopen

theorem State.hostOpen_moves (n : Nat) : OnlyMoves [.holder] s (s.hostOpen n).2.2 := by
  unfold State.hostOpen
  dsimp only
  repeat' split
  all_goals first
    | exact .refl _ s
    | exact s.setHolder_moves n _

theorem State.lineClose_moves (k : Nat) : OnlyMoves [.holder, .held] s (s.lineClose k).2.2 := by
  unfold State.lineClose
  split
  · exact .refl _ s
  · exact (s.releaseHold_moves _).step (State.putOwnHome_moves _ k)

theorem State.hostClose_moves (n : Nat) : OnlyMoves [.holder, .held] s (s.hostClose n).2.2 := by
  unfold State.hostClose
  repeat' split
  all_goals first
    | exact .refl _ s
    | exact s.releaseHold_moves n

theorem State.withdraw_moves (n : Nat) : OnlyMoves [.holder, .held] s (s.withdraw n) := by
  unfold State.withdraw
  dsimp only
  split
  · exact ((s.releaseHold_moves n).step (bs := []) (State.updLine_moves _ fun a _ => Line.keeps_of_eq rfl rfl rfl rfl a)).step
      (State.refresh_moves _ _)
  · exact s.releaseHold_moves n

theorem State.freeHold_moves (n : Nat) : OnlyMoves [.holder, .held] s (s.freeHold n).2.2 := by
  unfold State.freeHold
  repeat' split
  all_goals first
    | exact .refl _ s
    | exact s.withdraw_moves n

theorem Line.keeps_configure (l : Line) (speed model dimTime : Option Nat) (wakeFlash wakeUrgent : Option Bool) (a : Aspect) :
    l.keeps (l.configure speed model dimTime wakeFlash wakeUrgent) a := by
  unfold Line.configure
  dsimp only
  split <;> exact Line.keeps_of_eq rfl rfl rfl rfl a

theorem State.lineset_moves (k : Nat) (speed model dimTime wakeFlash wakeUrgent : Option Nat) :
    OnlyMoves [] s (s.lineset k speed model dimTime wakeFlash wakeUrgent).2.2 := by
  unfold State.lineset
  dsimp only
  repeat' split
  all_goals first
    | exact .refl _ s
    | exact s.updLine_moves fun a _ => Line.keeps_configure _ _ _ _ _ _ a

theorem Line.keeps_state {l m : Line} (huser : m.user = l.user) (hheld : m.held = l.held) (hservice : m.service = l.service) :
    ∀ a ∉ [Aspect.lineState], l.keeps m a := by
  intro a ha
  cases a
  case user => exact huser
  case held => exact hheld
  case service => exact hservice
  case lineState => exact absurd (by decide) ha
  all_goals exact trivial

theorem State.enable_moves (k : Nat) : OnlyMoves [.lineState] s (s.enable k) := by
  unfold State.enable
  split
  · exact OnlyMoves.step (s.updLine_moves (Line.keeps_state rfl rfl rfl)) (State.lampAnew_moves _ k)
  · exact OnlyMoves.step (OnlyMoves.step (s.updLine_moves (Line.keeps_state rfl rfl rfl)) (State.lampAnew_moves _ k))
      (State.raise_moves _ _)

theorem State.lineon_moves (k : Nat) : OnlyMoves [.lineState] s (s.lineon k).2.2 := by
  unfold State.lineon
  dsimp only
  repeat' split
  all_goals first
    | exact .refl _ s
    | exact s.enable_moves k

theorem State.releaseHeld_moves (k : Nat) : OnlyMoves [.holder, .held] s (s.releaseHeld k) := by
  unfold State.releaseHeld
  split
  · exact s.releaseHold_moves _
  · exact .refl _ s

/-- An update of a line may move every aspect of the lines, and no other. -/
theorem State.updLine_moves_lines (k : Nat) (f : Line → Line) :
    OnlyMoves [.lineState, .user, .held, .service] s (s.updLine k f) :=
  s.updLine_moves fun a ha => by cases a <;> first | exact trivial | exact absurd (by decide) ha

theorem State.shutLine_moves (k : Nat) : OnlyMoves [.holder, .lineState, .user, .held, .service] s (s.shutLine k) := by
  have h : OnlyMoves [.holder, .lineState, .user, .held, .service] s
      (((s.releaseHeld k).updLine k Line.disable).unseeLine k) :=
    ((s.releaseHeld_moves k).mono.step (State.updLine_moves_lines _ k _)).step (State.unseeLine_moves _ k)
  unfold State.shutLine
  dsimp only
  split
  · exact h.step (State.raise_moves _ _)
  · exact h

theorem State.lineoff_moves (k : Nat) : OnlyMoves [.holder, .lineState, .user, .held, .service] s (s.lineoff k).2.2 := by
  unfold State.lineoff
  repeat' split
  all_goals first
    | exact .refl _ s
    | exact s.shutLine_moves k

theorem State.linestat_moves (k : Nat) : OnlyMoves [] s (s.linestat k).2.2 := by
  have h : OnlyMoves [] s (s.updLine k fun l => { l with latches := .clear }) :=
    s.updLine_moves fun a _ => Line.keeps_of_eq rfl rfl rfl rfl a
  unfold State.linestat
  dsimp only
  split
  · exact .refl _ s
  · dsimp only
    split
    · exact h.step (State.lampIf_moves _ k _)
    · exact h

theorem State.releaseStranger_moves (k user : Nat) : OnlyMoves [.holder, .held] s (s.releaseStranger k user) := by
  unfold State.releaseStranger
  split
  · exact s.releaseHold_moves _
  · exact .refl _ s

theorem State.resumeFor_moves (k user : Nat) : OnlyMoves [.holder, .held] s (s.resumeFor k user) := by
  unfold State.resumeFor
  split
  · exact s.resumeOrphan_moves k _ _
  · exact .refl _ s

theorem State.enrol_moves (k user desk : Nat) (role : Role) :
    OnlyMoves [.holder, .lineState, .user, .held, .service] s (s.enrol k user desk role) :=
  ((((s.updLine_moves_lines k _).mono.step (State.releaseStranger_moves _ k user)).step
    (State.resumeFor_moves _ k user)).step (State.updLine_moves_lines _ k _)).step (State.joinFlashes_touches _ k desk).moves

theorem State.grant_moves (k user desk : Nat) (role : Role) :
    OnlyMoves [.holder, .lineState, .user, .held, .service] s (s.grant k user desk role) := by
  have hend : OnlyMoves [.lineState, .user, .held, .service] (s.enrol k user desk role) (s.grant k user desk role) :=
    ((((State.answerService_moves _ k _ _ _).mono.step (State.putHome_moves _ k desk 0)).step
      (State.refresh_moves _ _)).step (State.updLine_moves_lines _ k _)).step (State.lampAnew_moves _ k)
  exact (s.enrol_moves k user desk role).step hend

theorem State.verdictGrant_moves (k desk role : Nat) :
    OnlyMoves [.holder, .lineState, .user, .held, .service] s (s.verdictGrant k desk role).2.2 := by
  unfold State.verdictGrant
  split
  · exact .refl _ s
  · split
    · exact .refl _ s
    · split
      · exact s.grant_moves k _ desk _
      · exact .of_eq (s.lateVerdict_state k)

theorem State.deny_moves (k : Nat) : OnlyMoves [.lineState, .service] s (s.deny k) :=
  OnlyMoves.step (OnlyMoves.mono (s.updLine_moves (Line.keeps_state rfl rfl rfl))) (State.answerService_moves _ k _ _ _)

theorem State.verdictDeny_moves (k : Nat) : OnlyMoves [.lineState, .service] s (s.verdictDeny k).2.2 := by
  unfold State.verdictDeny
  split
  · exact .refl _ s
  · split
    · exact s.deny_moves k
    · exact .of_eq (s.lateVerdict_state k)

theorem State.signoff_moves (k : Nat) : OnlyMoves [.holder, .lineState, .user, .held, .service] s (s.signoff k).2.2 :=
  (((s.releaseHeld_moves k).mono.step (State.updLine_moves_lines _ k _)).step (State.unseeLine_moves _ k)).step
    (State.lampAnew_moves _ k)

theorem State.windowFrom_moves (k : Nat) (first : Option Nat) : OnlyMoves [] s (s.windowFrom k first).2.2 := by
  unfold State.windowFrom
  dsimp only
  repeat' split
  all_goals first
    | exact .refl _ s
    | exact s.putWindow_moves k _ _

theorem State.returnLines_moves (k : Nat) (range : Option (Nat × Nat)) (new : List CopyLine) :
    OnlyMoves [.copy, .baseStyle, .pool, .storyFit, .changed, .fitQueue, .pageFit] s (s.returnLines k range new).2.2 := by
  unfold State.returnLines
  dsimp only
  repeat' split
  all_goals first
    | exact .refl _ s
    | exact (s.changeText_moves _ _ _).step (State.putWindow_moves _ k _ _)

theorem State.home_moves (k : Nat) (desk first : Option Nat) : OnlyMoves [] s (s.home k desk first).2.2 := by
  unfold State.home State.homeFrom
  dsimp only
  repeat' split
  all_goals first
    | exact .refl _ s
    | exact s.putHome_moves k _ _

theorem State.flashesSeen_moves (k : Nat) : OnlyMoves [] s (s.flashesSeen k) :=
  ((s.unseeLine_moves k).step (State.refresh_moves _ _)).step (State.lampIf_moves _ k _)

theorem State.flash_moves (text : List Byte) (mask : BitVec 16) : OnlyMoves [.lineState] s (s.flash text mask).2.2 := by
  have hflashes (f : Flashes) : OnlyMoves [] s { s with flashes := f } := (s.setFlashes_touches f).moves
  unfold State.flash
  split
  · exact .refl _ s
  · exact (((hflashes _).mono.step (State.refresh_moves _ _)).step (State.wake_moves _ _)).step (State.lamps_moves _ _)

theorem State.chooseLamp_moves (k source : Nat) : OnlyMoves [] s (s.chooseLamp k source).2.2 := by
  have h (src : LampSource) : OnlyMoves [] s (s.updLine k fun l => { l with lampSource := src }) :=
    s.updLine_moves fun a _ => Line.keeps_of_eq rfl rfl rfl rfl a
  unfold State.chooseLamp
  dsimp only
  split
  · exact .refl _ s
  · split
    · exact .refl _ s
    · exact (h _).step (State.lampAnew_moves _ k)

/-! ### The rules of tables, pages and ports -/

theorem State.setTables_moves {e : FitEngine} (hqueue : e.queue = s.fit.queue) (hflight : e.inFlight = s.fit.inFlight) :
    OnlyMoves [.tables] s { s with fit := e } :=
  s.setFitEngine_moves (fun h => absurd (by decide) h) (fun _ => hqueue) (fun _ => hflight)

theorem State.loadStyle_moves (n : Nat) (f : StyleFields) :
    OnlyMoves [.tables, .storyFit, .changed, .fitQueue, .pageFit] s (s.loadStyle n f).2.2 := by
  have hload : OnlyMoves [.tables, .storyFit, .changed, .fitQueue, .pageFit] s
      (State.tableLoad s { s with fit := { s.fit with styles := s.fit.styles.setIfInBounds n ((s.style n).merge f) } }) :=
    (s.setTables_moves (e := { s.fit with styles := s.fit.styles.setIfInBounds n ((s.style n).merge f) }) rfl rfl).mono.step
      (State.tableLoad_moves _ s)
  unfold State.loadStyle
  dsimp only
  split
  · exact .refl _ s
  · split
    · exact .refl _ s
    · dsimp only
      exact hload

theorem State.loadWidths_moves (font c : Nat) (values : List Nat) :
    OnlyMoves [.tables, .storyFit, .changed, .fitQueue, .pageFit] s (s.loadWidths font c values).2.2 := by
  have hload : OnlyMoves [.tables, .storyFit, .changed, .fitQueue, .pageFit] s
      (State.tableLoad s { s with fit := s.fit.loadWidths font c values }) :=
    (s.setTables_moves (e := s.fit.loadWidths font c values) rfl rfl).mono.step (State.tableLoad_moves _ s)
  unfold State.loadWidths
  dsimp only
  split
  · exact .refl _ s
  · split
    · exact .refl _ s
    · dsimp only
      exact hload

/-- A page record replaced may move every aspect of the pages, and no other. -/
theorem State.setPage_moves_pages (g : Nat) (v : Page) :
    OnlyMoves [.pageState, .slots, .pageFit, .pageJob, .choice, .tolerance] s (s.setPage g v) :=
  s.setPage_moves fun a ha => by cases a <;> first | exact trivial | exact absurd (by decide) ha

theorem State.pageopen_moves (label : Nat) (edition tolerance : Option Nat) :
    OnlyMoves [.pageState, .slots, .pageFit, .pageJob, .choice, .tolerance] s
      (s.pageopen label edition tolerance).2.2 := by
  unfold State.pageopen
  dsimp only
  repeat' split
  all_goals first
    | exact .refl _ s
    | exact s.setPage_moves_pages _ _

theorem State.pageshut_moves (g : Nat) :
    OnlyMoves [.pageState, .slots, .pageFit, .pageJob, .choice, .tolerance] s (s.pageshut g).2.2 := by
  unfold State.pageshut
  dsimp only
  repeat' split
  all_goals first
    | exact .refl _ s
    | exact s.setPage_moves_pages g _

theorem Page.keeps_slots {p q : Page} (h : q = { p with slots := q.slots }) : ∀ a ∉ [Aspect.slots], p.keeps q a := by
  intro a ha
  rw [h]
  cases a <;> first | exact trivial | exact rfl | exact absurd (by decide) ha

theorem State.setSlot_moves (g k : Nat) (v : Option Slot) : OnlyMoves [.slots] s (s.updPage g fun p => p.setSlot k v) :=
  s.updPage_moves (Page.keeps_slots rfl)

theorem State.defineSlot_moves (g k depth measure : Nat) :
    OnlyMoves [.slots, .storyFit, .changed, .fitQueue, .pageFit] s (s.defineSlot g k depth measure) := by
  have h : OnlyMoves [.slots, .storyFit, .changed, .fitQueue, .pageFit] s
      (s.updPage g fun p => p.setSlot k (some (redefineSlot ((s.page g).slot k) depth measure))) :=
    (s.setSlot_moves g k _).mono
  unfold State.defineSlot
  dsimp only
  split
  · split
    · exact h
    · exact ((h.step (State.makeStale_moves _ _)).step (State.judge_moves _ g)).step (State.noticeFit_moves _ s g)
  · exact h

theorem State.slotDefine_moves (g k depth measure : Nat) :
    OnlyMoves [.slots, .storyFit, .changed, .fitQueue, .pageFit] s (s.slotDefine g k depth measure).2.2 := by
  unfold State.slotDefine
  dsimp only
  repeat' split
  all_goals first
    | exact .refl _ s
    | exact s.defineSlot_moves g k depth measure

theorem State.slotUndefine_moves (g k : Nat) : OnlyMoves [.slots] s (s.slotUndefine g k).2.2 := by
  unfold State.slotUndefine
  repeat' split
  all_goals first
    | exact .refl _ s
    | exact s.setSlot_moves g k none

theorem Page.occupy_eq (n : Nat) (ks : List Nat) (i : Nat) (p : Page) :
    Page.occupy n i ks p = { p with slots := (Page.occupy n i ks p).slots } := by
  induction ks generalizing i p with
  | nil => rfl
  | cons k ks ih => exact ih (i + 1) (p.setSlot k _)

theorem State.place_moves (n g : Nat) (run : List Nat) :
    OnlyMoves [.baskets, .slots, .stage, .basketed, .spiked, .run, .storyFit, .changed, .fitQueue, .pageFit] s
      (s.place n g run) := by
  have hplaced (t : State) : OnlyMoves [.stage, .basketed, .spiked, .run] t
      (t.updStory n fun r => { r with stage := .placed, run := some { page := g, slots := run } }) :=
    t.updStory_moves fun a ha => by
      cases a
      case free => exact nofun
      all_goals first | exact trivial | exact rfl | exact ⟨rfl, rfl⟩ | exact absurd (by decide) ha
  have hleft : OnlyMoves [.baskets, .slots, .stage, .basketed, .spiked, .run, .storyFit, .changed, .fitQueue,
      .pageFit] s (if (s.story n).stage = .basket then s.depart n else s.emptySlots g n) := by
    split
    · exact (s.depart_moves n).mono
    · exact (s.emptySlots_moves g n).mono
  exact (((((hleft.step (hplaced _)).step (bs := [.slots])
    (State.updPage_moves _ (Page.keeps_slots (Page.occupy_eq n run 1 _)))).step (State.makeStale_moves _ n)).step
    (State.judge_moves _ g)).step (State.lampHolder_moves _ n)).step (State.noticeFit_moves _ s g)

theorem State.placeStory_moves (n g : Nat) (run : List Nat) :
    OnlyMoves [.baskets, .slots, .stage, .basketed, .spiked, .run, .storyFit, .changed, .fitQueue, .pageFit] s
      (s.placeStory n g run).2.2 := by
  unfold State.placeStory
  dsimp only
  repeat' split
  all_goals first
    | exact .refl _ s
    | exact s.place_moves n g run

theorem State.unplace_moves (n g : Nat) :
    OnlyMoves [.slots, .stage, .basketed, .spiked, .run, .baskets, .lineState, .storyFit, .changed, .fitQueue,
      .pageFit] s (s.unplace n g) := by
  have hbasket (t : State) : OnlyMoves [.stage, .basketed, .spiked, .run] t
      (t.updStory n fun r => { r with stage := .basket, run := none }) :=
    t.updStory_moves fun a ha => by
      cases a
      case free => exact nofun
      all_goals first | exact trivial | exact rfl | exact ⟨rfl, rfl⟩ | exact absurd (by decide) ha
  exact ((((((s.emptySlots_moves g n).mono.step (hbasket _)).step (State.arrive_moves _ n)).step
    (State.makeStale_moves _ n)).step (State.judge_moves _ g)).step (State.lampHolder_moves _ n)).step
    (State.noticeFit_moves _ s g)

theorem State.unplaceStory_moves (n : Nat) :
    OnlyMoves [.slots, .stage, .basketed, .spiked, .run, .baskets, .lineState, .storyFit, .changed, .fitQueue,
      .pageFit] s (s.unplaceStory n).2.2 := by
  unfold State.unplaceStory
  dsimp only
  repeat' split
  all_goals first
    | exact .refl _ s
    | exact s.unplace_moves n _

theorem State.freeStory_moves (n : Nat) :
    OnlyMoves [.copy, .baseStyle, .free, .basketed, .spiked, .stage, .storyDesk, .priority, .holder, .run, .storyFit, .changed,
      .results, .spikeLists, .slots, .pool, .pageFit] s (s.freeStory n) := by
  have hrecord (t : State) (st : Store) : OnlyMoves [.copy, .baseStyle, .free, .basketed, .spiked, .stage, .storyDesk, .priority,
      .holder, .run, .storyFit, .changed, .results, .pool] t (State.setStory { t with store := st } n Story.freed).storeRelief := by
    have hpool : OnlyMoves [.copy, .baseStyle, .free, .basketed, .spiked, .stage, .storyDesk, .priority,
        .holder, .run, .storyFit, .changed, .results, .pool] t { t with store := st } :=
      t.setStore_moves fun h => absurd (by decide) h
    refine (hpool.step (bs := [.copy, .baseStyle, .free, .basketed, .spiked, .stage, .storyDesk, .priority,
      .holder, .run, .storyFit, .changed, .results]) (State.setStory_moves _ fun a ha => ?_)).step (State.storeRelief_moves _)
    cases a <;> first | exact trivial | exact absurd (by decide) ha
  unfold State.freeStory
  dsimp only
  split
  · exact (((s.emptySlots_moves _ n).mono.step (hrecord _ _)).step (State.judge_moves _ _)).step (State.noticeFit_moves _ _ _)
  · exact (s.leaveSpikes_moves n).mono.step (hrecord _ _)

theorem State.purge_moves (n : Nat) :
    OnlyMoves [.copy, .baseStyle, .free, .basketed, .spiked, .stage, .storyDesk, .priority, .holder, .run, .storyFit, .changed,
      .results, .spikeLists, .slots, .pool, .pageFit] s (s.purge n).2.2 := by
  unfold State.purge
  dsimp only
  repeat' split
  all_goals first
    | exact .refl _ s
    | exact s.freeStory_moves n

theorem State.release_moves (g : Nat) (choice : PortChoice) (trim : Bool) :
    OnlyMoves [.choice, .queue, .ports, .pageJob, .stage, .pageState, .pageFit] s (s.release g choice trim) := by
  have h : OnlyMoves [.pageState, .choice] s
      (s.updPage g fun p => { p with state := .releasing, choice := choice, trim := trim }) :=
    s.updPage_moves fun a ha => by cases a <;> first | exact trivial | exact rfl | exact absurd (by decide) ha
  exact h.mono.step (State.endWait_moves _ g)

theorem State.releasePage_moves (g choice trim : Nat) :
    OnlyMoves [.choice, .queue, .ports, .pageJob, .stage, .pageState, .pageFit] s (s.releasePage g choice trim).2.2 := by
  unfold State.releasePage State.refuseRelease
  dsimp only
  repeat' split
  all_goals first
    | exact .refl _ s
    | exact s.release_moves g _ _

theorem State.cancel_moves (g : Nat) :
    OnlyMoves [.queue, .ports, .pageJob, .stage, .pageState, .pageFit] s (s.cancel g).2.2 := by
  unfold State.cancel
  dsimp only
  repeat' split
  all_goals first
    | exact .refl _ s
    | exact (s.returnPage_moves g).mono
    | exact (s.cancelQueued_moves g).mono
    | exact s.cancelSetting_moves g

theorem State.reopen_moves (g : Nat) :
    OnlyMoves [.stage, .pageState, .storyFit, .changed, .fitQueue, .pageFit] s (s.reopen g).2.2 := by
  unfold State.reopen
  repeat' split
  all_goals first
    | exact .refl _ s
    | exact (s.reopenPage_moves g).step (State.noticeFit_moves _ s g)

theorem State.loadXlate_moves (c : Nat) (entries : List (List Nat)) : OnlyMoves [.xlate] s (s.loadXlate c entries).2.2 := by
  have h (o : Vector (List Byte) 128) : OnlyMoves [.xlate] s { s with output := { s.output with xlate := o } } :=
    s.setOutput_moves (fun _ => rfl) (fun _ => ⟨rfl, rfl⟩) (fun h => absurd (by decide) h)
  unfold State.loadXlate
  split
  · exact .refl _ s
  · split
    · exact .refl _ s
    · exact h _

theorem State.portset_moves (port : Nat) (lossTime failover : Option Nat) :
    OnlyMoves [.ports] s (s.portset port lossTime failover).2.2 := by
  unfold State.portset
  dsimp only
  repeat' split
  all_goals first
    | exact .refl _ s
    | exact s.updPort_moves _ _

theorem State.portReady_moves (p : Port) : OnlyMoves [.queue, .ports, .pageJob, .pageState] s (s.portReady p) :=
  (s.updPort_moves p _).mono.step (State.arbitrate_moves _)

theorem State.porton_moves (port : Nat) : OnlyMoves [.queue, .ports, .pageJob, .pageState] s (s.porton port).2.2 := by
  unfold State.porton
  dsimp only
  repeat' split
  all_goals first
    | exact .refl _ s
    | exact s.portReady_moves _

theorem State.portoff_moves (port : Nat) :
    OnlyMoves [.ports, .pageJob, .stage, .pageState, .pageFit] s (s.portoff port).2.2 := by
  unfold State.portoff
  repeat' split
  all_goals first
    | exact .refl _ s
    | exact s.cancelAtPort_moves _ _ _
    | exact (s.updPort_moves _ _).mono

theorem State.resumePort_moves (port : Nat) : OnlyMoves [.queue, .ports, .pageJob, .pageState] s (s.resumePort port).2.2 := by
  unfold State.resumePort
  dsimp only
  repeat' split
  all_goals first
    | exact .refl _ s
    | exact s.portReady_moves _

theorem State.portclr_moves (port : Nat) : OnlyMoves [.ports] s (s.portclr port).2.2 := by
  unfold State.portclr
  split
  · exact s.updPort_moves _ _
  · exact .refl _ s

end Rules

end Sys2Proof.Machine

namespace Sys2Proof

/-- The aspects of the records that a command's rule or event can move (`rule_moves`, `exec_moves`); the arrival and the answer of a
terminal frame are added by `Instr.shifts`. -/
def Instr.moves : Instr → List Aspect
  | .create .. => [.copy, .baseStyle, .basketed, .stage, .storyDesk, .priority, .holder, .run, .storyFit, .changed, .results,
      .fitQueue, .baskets, .lineState]
  | .new .. => [.copy, .baseStyle, .basketed, .stage, .storyDesk, .priority, .holder, .run, .storyFit, .changed, .results,
      .fitQueue, .baskets, .lineState, .held]
  | .textAppend .. | .textReplace .. | .textReplaceRange .. | .ret .. =>
    [.copy, .baseStyle, .pool, .storyFit, .changed, .fitQueue, .pageFit]
  | .purge .. => [.copy, .baseStyle, .free, .basketed, .spiked, .stage, .storyDesk, .priority, .holder, .run, .storyFit, .changed,
      .results, .spikeLists, .slots, .pool, .pageFit]
  | .hostRoute .. | .terminalRoute .. => [.holder, .held, .baskets, .lineState, .storyDesk]
  | .hostPriority .. | .terminalPriority .. => [.priority, .baskets, .lineState]
  | .hostSpike .. | .terminalSpike .. => [.holder, .held, .baskets, .fitQueue, .inFlight, .slots, .stage, .basketed, .spiked, .run,
      .storyFit, .changed, .spikeLists]
  | .unspike .. =>
    [.spikeLists, .stage, .basketed, .spiked, .storyFit, .changed, .fitQueue, .pageFit, .baskets, .lineState]
  | .hostKill .. | .terminalKill .. => [.holder, .held, .queue, .ports, .pageJob, .stage, .pageState, .storyFit, .changed,
      .fitQueue, .pageFit, .inFlight, .slots, .basketed, .spiked, .run, .spikeLists]
  | .terminalOpen .. | .terminalClose .. | .hostClose .. | .free .. | .orphanExpiry .. => [.holder, .held]
  | .hostOpen .. => [.holder]
  | .lineon .. | .carrierReturn .. | .dim .. | .flash .. => [.lineState]
  | .lineoff .. | .carrierDrop .. | .verdictGrant .. | .signoff .. => [.holder, .lineState, .user, .held, .service]
  | .verdictDeny .. | .signon .. | .signonTimeout .. | .terminalFrameReceived .. | .lineFrameSent .. => [.lineState, .service]
  | .style .. | .widths .. => [.tables, .storyFit, .changed, .fitQueue, .pageFit]
  | .pageopen .. | .pageshut .. => [.pageState, .slots, .pageFit, .pageJob, .choice, .tolerance]
  | .slotDefine .. => [.slots, .storyFit, .changed, .fitQueue, .pageFit]
  | .slotUndefine .. => [.slots]
  | .place .. =>
    [.baskets, .slots, .stage, .basketed, .spiked, .run, .storyFit, .changed, .fitQueue, .pageFit]
  | .unplace .. => [.slots, .stage, .basketed, .spiked, .run, .baskets, .lineState, .storyFit, .changed, .fitQueue, .pageFit]
  | .release .. => [.choice, .queue, .ports, .pageJob, .stage, .pageState, .pageFit]
  | .cancel .. | .portLoss .. => [.queue, .ports, .pageJob, .stage, .pageState, .pageFit]
  | .reopen .. => [.stage, .pageState, .storyFit, .changed, .fitQueue, .pageFit]
  | .xlate .. => [.xlate]
  | .portset .. | .portclr .. | .abortCodeSent .. | .readyLeadRise .. | .readyLeadFall .. => [.ports]
  | .porton .. | .resume .. => [.queue, .ports, .pageJob, .pageState]
  | .portoff .. | .resultFault .. => [.ports, .pageJob, .stage, .pageState, .pageFit]
  | .codeAccepted .. => [.ports, .pageJob]
  | .resultDone .. => [.queue, .ports, .pageJob, .stage, .pageState]
  | .fitTake => [.fitQueue, .inFlight, .storyFit, .changed, .pageFit]
  | .fitCompletion => [.inFlight, .storyFit, .changed, .results, .fitQueue, .pageFit, .queue, .ports, .pageJob, .stage, .pageState]
  | .secondsTick =>
    [.lineState, .service, .holder, .held, .queue, .ports, .pageJob, .stage, .pageState, .pageFit]
  | .restartTakesEffect => [.holder, .lineState, .user, .held, .service, .storyFit, .changed, .fitQueue, .inFlight, .queue,
      .ports, .pageJob, .stage, .pageState, .pageFit, .channel]
  | .powerReset => [.copy, .baseStyle, .free, .basketed, .spiked, .stage, .storyDesk, .priority, .holder, .run, .storyFit,
      .changed, .results, .baskets, .spikeLists, .lineState, .user, .held, .service, .pageState, .slots, .pageFit, .pageJob,
      .choice, .tolerance, .pool, .tables, .fitQueue, .inFlight, .queue, .ports, .xlate, .channel]
  | .hostFrameDiscarded .. | .requestArrival .. | .hostFrameSent | .sweep .. => [.channel]
  | _ => []

/-- The aspects that a step of the command can move, the arrival and the answer of a request included. -/
def Instr.shifts (i : Instr) : List Aspect :=
  if i.fromLine.isSome then .lineState :: .service :: i.moves else if i.fromHost then .channel :: i.moves else i.moves

end Sys2Proof

namespace Sys2Proof.Machine

/-- Which aspects a request's rule can move. -/
theorem State.rule_moves (s : State) (i : Instr) : OnlyMoves i.moves s (s.rule i).2.2 := by
  cases i
  case create tag slug desk style priority => exact s.create_moves slug desk style priority
  case textAppend => exact s.textAppend_moves _ _ _
  case textReplace => exact s.textReplace_moves _ _ _
  case textReplaceRange => exact s.textReplaceRange_moves _ _ _ _ _
  case read => exact .of_eq (s.readLines_state _ _)
  case info => exact .of_eq (s.infoOf_state _)
  case purge => exact s.purge_moves _
  case new => exact s.newStory_moves _ _ _ _
  case hostRoute => exact s.hostRoute_moves _ _
  case terminalRoute => exact s.lineRoute_moves _ _ _
  case hostPriority => exact s.hostPriority_moves _ _
  case terminalPriority => exact s.linePriority_moves _ _
  case hostSpike => exact s.hostSpike_moves _
  case terminalSpike => exact s.lineSpike_moves _ _
  case unspike => exact s.unspike_moves _
  case hostKill => exact s.hostKill_moves _
  case terminalKill => exact s.lineKill_moves _ _
  case arm => exact s.armOverride_moves _
  case basket => exact .of_eq (s.basketOf_state _ _ _)
  case terminalOpen => exact s.lineOpen_moves _ _
  case hostOpen => exact s.hostOpen_moves _
  case terminalClose => exact s.lineClose_moves _
  case hostClose => exact s.hostClose_moves _
  case free => exact s.freeHold_moves _
  case holdtime => exact (s.holdtime_touches _).moves
  case lineset => exact s.lineset_moves _ _ _ _ _ _
  case lineon => exact s.lineon_moves _
  case lineoff => exact s.lineoff_moves _
  case linestat => exact s.linestat_moves _
  case verdictGrant => exact s.verdictGrant_moves _ _ _
  case verdictDeny => exact s.verdictDeny_moves _
  case signoff => exact s.signoff_moves _
  case window => exact s.windowFrom_moves _ _
  case ret => exact s.returnLines_moves _ _ _
  case home => exact s.home_moves _ _ _
  case seen => exact s.flashesSeen_moves _
  case flash => exact s.flash_moves _ _
  case lamp => exact s.chooseLamp_moves _ _
  case style => exact s.loadStyle_moves _ _
  case widths => exact s.loadWidths_moves _ _ _
  case pageopen => exact s.pageopen_moves _ _ _
  case slotDefine => exact s.slotDefine_moves _ _ _ _
  case slotUndefine => exact s.slotUndefine_moves _ _
  case place => exact s.placeStory_moves _ _ _
  case unplace => exact s.unplaceStory_moves _
  case release => exact s.releasePage_moves _ _ _
  case cancel => exact s.cancel_moves _
  case reopen => exact s.reopen_moves _
  case pageshut => exact s.pageshut_moves _
  case pageinfo => exact .of_eq (s.pageinfo_state _)
  case xlate => exact s.loadXlate_moves _ _
  case portset => exact s.portset_moves _ _ _
  case porton => exact s.porton_moves _
  case portoff => exact s.portoff_moves _
  case resume => exact s.resumePort_moves _
  case portclr => exact s.portclr_moves _
  case portstat => exact .of_eq (s.portstat_state _)
  case clkstart =>
    unfold State.rule State.clkstart
    dsimp only
    repeat' split
    all_goals first
      | exact .refl _ s
      | exact ((s.setClock_moves _).step (State.warnNear_moves _)).step (State.clockEvent_moves _)
  case clknext =>
    unfold State.rule State.clknext State.nextDeadline
    dsimp only
    repeat' split
    all_goals first
      | exact .refl _ s
      | exact s.setClock_moves _
      | exact s.switchEdition_moves _
  case clkstop =>
    unfold State.rule State.stopClock
    dsimp only
    split
    · exact .refl _ s
    · exact (s.setClock_moves _).step (State.clockEvent_moves _)
  case warn =>
    unfold State.rule State.warn State.setThreshold
    dsimp only
    split
    · exact ((s.setClock_moves _).step (State.lamps_moves _ _)).step (State.warnNear_moves _)
    · exact (s.setClock_moves _).step (State.lamps_moves _ _)
  case sweep => exact (s.sweep_touches).moves_channel
  all_goals exact .refl _ s

theorem hostStep_moves {i : Instr} {act : State → Verdict} {as : List Aspect}
    (hact : ∀ s, OnlyMoves as s (act s).2.2) (s : State) :
    ∃ t, hostStep i act s = .next t ∧ OnlyMoves (.channel :: as) s t := by
  refine ⟨_, rfl, ?_⟩
  have hoffer : OnlyMoves (.channel :: as) s (s.offer i) := (s.offer_touches i).moves_channel.mono (by simp)
  unfold State.serveHost
  split
  · exact (hoffer.step (hact _) (List.subset_cons_self _ _)).step (State.setChannel_touches _ _).moves_channel (by simp)
  · exact hoffer

theorem lineStep_moves {k : Fin 32} {i : Instr} {act : State → Verdict} {as : List Aspect}
    (hact : ∀ s, OnlyMoves as s (act s).2.2) (s : State) :
    ∃ t, lineStep k i act s = .next t ∧ OnlyMoves (.lineState :: .service :: as) s t := by
  refine ⟨_, rfl, ?_⟩
  have hoffer : OnlyMoves (.lineState :: .service :: as) s (s.offerFrame k i) :=
    (s.offerFrame_moves k i).mono (List.cons_subset.2 ⟨by simp, List.cons_subset.2 ⟨by simp, List.nil_subset _⟩⟩)
  unfold State.serveLine
  dsimp only
  split
  · exact (hoffer.step (hact _) (fun _ h => by simp [h])).step (State.answerService_moves _ _ _ _ _)
      (List.cons_subset.2 ⟨by simp, List.nil_subset _⟩)
  · exact hoffer

/-- A request served by its rule moves what the rule moves, and its line's state and service. -/
theorem exec_rule_moves {i : Instr} (hrequest : i.fromHost = true ∧ i.fromLine = none ∨ i.fromHost = false ∧ i.fromLine.isSome)
    (hrestart : ∀ tag, i ≠ .restart tag) (hsignon : ∀ l user, i ≠ .signon l user) (s : State) :
    ∃ t, exec i s = .next t ∧ OnlyMoves i.shifts s t := by
  unfold Instr.shifts
  rcases hrequest with ⟨hhost, hline⟩ | ⟨-, hline⟩
  · rw [if_neg (by rw [hline]; decide), if_pos hhost, exec_fromHost hhost hrestart]
    exact hostStep_moves (fun s => s.rule_moves i) s
  · obtain ⟨k, hk⟩ := Option.isSome_iff_exists.mp hline
    rw [if_pos hline, exec_fromLine hk hsignon]
    exact lineStep_moves (fun s => s.rule_moves i) s

/-! ### The part's own events -/

section Events
variable (s : State)

theorem State.takeFit_moves : OnlyMoves [.fitQueue, .inFlight, .storyFit, .changed, .pageFit] s s.takeFit := by
  have hengine (e : FitEngine) (h : e.styles = s.fit.styles ∧ e.widths = s.fit.widths) :
      OnlyMoves [.fitQueue, .inFlight, .storyFit, .changed, .pageFit] s { s with fit := e } :=
    s.setFitEngine_moves (fun _ => h) (fun h => absurd (by decide) h) (fun h => absurd (by decide) h)
  have hcomputing (t : State) (n : Nat) :
      OnlyMoves [.storyFit, .changed] t (t.updStory n fun r => { r with fit := .computing, changed := false }) :=
    t.updStory_moves (Story.keeps_fit _ _ _)
  unfold State.takeFit
  split
  next n rest hflight hqueue =>
    exact ((hengine { s.fit with
        queue := rest, inFlight := some { story := n, discard := false, results := s.fitResults n } } ⟨rfl, rfl⟩).step
      (hcomputing _ n)).step (State.handOff_moves _ n)
  next => exact .refl _ s

theorem State.requeueFit_moves (n : Nat) : OnlyMoves [.storyFit, .changed, .fitQueue, .pageFit] s (s.requeueFit n) :=
  ((OnlyMoves.mono (s.updStory_moves (Story.keeps_fit _ _ _))).step (State.setFitQueue_moves _ _)).step
    (State.handOff_moves _ _)

theorem State.writeFit_moves (n : Nat) (f : FitResults) :
    OnlyMoves [.storyFit, .results, .pageFit, .queue, .ports, .pageJob, .stage, .pageState] s (s.writeFit n f) := by
  have hwrite : OnlyMoves [.storyFit, .results] s (s.updStory n fun r => { r with fit := .current, results := some f }) :=
    s.updStory_moves fun a ha => by
      cases a <;>
        first | exact trivial | exact rfl | exact ⟨rfl, rfl⟩ | exact Iff.rfl | exact id | exact absurd (by decide) ha
  exact ((hwrite.mono.step (State.handOff_moves _ n)).step (State.noticeFitOf_moves _ s n)).step (State.endWaitOf_moves _ n)

theorem State.landed_moves : OnlyMoves [.inFlight] s { s with fit := { s.fit with inFlight := none } } :=
  s.setFitEngine_moves (fun _ => ⟨rfl, rfl⟩) (fun _ => rfl) (fun h => absurd (by decide) h)

theorem State.completeFit_moves :
    OnlyMoves [.inFlight, .storyFit, .changed, .results, .fitQueue, .pageFit, .queue, .ports, .pageJob, .stage, .pageState] s
      s.completeFit := by
  unfold State.completeFit
  split
  · exact .refl _ s
  · dsimp only
    split
    · exact s.landed_moves.mono
    · split
      · exact s.landed_moves.mono.step (State.requeueFit_moves _ _)
      · exact s.landed_moves.mono.step (State.writeFit_moves _ _ _)

theorem State.acceptCode_moves (p : Port) : OnlyMoves [.ports, .pageJob] s (s.acceptCode p) := by
  unfold State.acceptCode
  dsimp only
  split
  · split
    · exact (s.setPort_moves p _).mono.step (bs := [.pageJob]) (State.updPage_moves _ (Page.keeps_job _ _))
    · exact .refl _ s
  · exact .refl _ s

theorem State.completeJob_moves (p : Port) (g : Nat) :
    OnlyMoves [.queue, .ports, .pageJob, .stage, .pageState] s (s.completeJob p g) := by
  have hpage (t : State) (m : Option Margin) : OnlyMoves [.pageState, .pageJob] t (t.updPage g fun v =>
      { v with state := .set, margin := m, job := v.job.map fun r => { r with remaining := 0, outcome := .done } }) :=
    t.updPage_moves fun a ha => by cases a <;> first | exact trivial | exact rfl | exact absurd (by decide) ha
  exact ((((s.moveStories_moves g).mono.step (hpage _ _)).step (State.updPort_moves _ p _)).step
    (State.arbitrate_moves _)).step (State.raise_moves _ _)

theorem State.failJob_moves (p : Port) (g : Nat) :
    OnlyMoves [.ports, .pageJob, .stage, .pageState, .pageFit] s (s.failJob p g) :=
  (((s.updPort_moves p _).mono.step (State.endRecord_moves _ g _)).step (State.returnPage_moves _ g)).step
    (State.raise_moves _ _)

theorem State.orphanHeld_moves (k : Nat) : OnlyMoves [.holder] s (s.orphanHeld k) := by
  unfold State.orphanHeld
  dsimp only
  split
  · split
    · exact s.setHolder_moves _ _
    · exact .refl _ s
  · exact .refl _ s

theorem State.loseCarrier_moves (k : Nat) :
    OnlyMoves [.holder, .lineState, .user, .held, .service] s (s.loseCarrier k) :=
  ((((s.orphanHeld_moves k).mono.step (State.updLine_moves_lines _ k _)).step (State.unseeLine_moves _ k)).step
    (State.lampAnew_moves _ k)).step (State.raise_moves _ _)

theorem State.regainCarrier_moves (k : Nat) : OnlyMoves [.lineState] s (s.regainCarrier k) :=
  ((OnlyMoves.step (s.updLine_moves (Line.keeps_state rfl rfl rfl)) (State.lampAnew_moves _ k))).step
    (State.raise_moves _ _)

theorem State.setCarrier_moves (k : Nat) (b : Bool) : OnlyMoves [] s (s.updLine k fun l => { l with carrier := b }) :=
  s.updLine_moves fun a _ => Line.keeps_of_eq rfl rfl rfl rfl a

theorem Line.transmit_keeps (l : Line) : ∀ a ∉ [Aspect.service], l.keeps l.transmit a := by
  unfold Line.transmit
  split
  · exact Line.keeps_service rfl rfl rfl
  · split
    · exact Line.keeps_service rfl rfl rfl
    · split <;> exact Line.keeps_service rfl rfl rfl

theorem State.beginSignon_moves (k user : Nat) : OnlyMoves [.lineState, .service] s (s.beginSignon k user) := by
  refine OnlyMoves.step (s.updLine_moves fun a ha => ?_) (State.raise_moves _ _)
  cases a <;> first | exact trivial | exact rfl | exact absurd (by decide) ha

theorem execSignon_moves (k : Fin 32) (user : Nat) :
    ∃ t, execSignon k user s = .next t ∧ OnlyMoves [.lineState, .service] s t := by
  refine ⟨_, rfl, ?_⟩
  have hoffer := (s.offerFrame_moves k (.signon k user)).mono (bs := [.lineState, .service])
  dsimp only
  split
  · split
    · exact hoffer.step (State.beginSignon_moves _ k user)
    · exact hoffer.step (State.answerService_moves _ _ _ _ _)
  · exact hoffer

theorem Story.keeps_unheld (r : Story) : ∀ a ∉ [Aspect.holder], r.keeps { r with holder := .absent } a := r.keeps_holder .absent

/-- Any change of the lines may move every aspect of the lines, and no other. -/
theorem State.setLines_moves (ls : Vector Line 32) :
    OnlyMoves [.lineState, .user, .held, .service] s { s with lines := ls } := by
  intro a ha
  refine ⟨fun _ => Story.keeps_refl _ a, fun _ => Desk.keeps_refl _ a, fun _ => ?_, fun _ => Page.keeps_refl _ a, ?_⟩
  · cases a <;> first | exact trivial | exact absurd (by decide) ha
  · cases a <;> first | exact trivial | exact rfl | exact ⟨rfl, rfl⟩ | exact fun _ => rfl | exact ⟨[], rfl⟩

theorem State.restartHolds_moves : OnlyMoves [.holder] s s.restartHolds := s.mapStories_moves rfl Story.keeps_unheld

theorem State.restartLines_moves : OnlyMoves [.lineState, .user, .held, .service] s s.restartLines :=
  (s.setLines_moves _).step (State.setFlashes_touches { s with lines := s.lines.map Line.disable } _).moves

theorem State.restartFit_moves : OnlyMoves [.inFlight, .storyFit, .changed, .fitQueue] s s.restartFit := by
  unfold State.restartFit
  split
  · exact .refl _ s
  · dsimp only
    split
    · exact s.landed_moves.mono
    · exact (s.landed_moves.mono.step (bs := [.storyFit, .changed]) (State.updStory_moves _ (Story.keeps_fit _ _ _))).step
        (State.setFitQueue_moves _ _)

theorem State.restartPage_moves (g : Nat) : OnlyMoves [.pageJob, .stage, .pageState, .pageFit] s (s.restartPage g) := by
  have hended : OnlyMoves [.pageJob, .stage, .pageState, .pageFit] s ((s.endRecord g .cancelled).returnPage g) :=
    (s.endRecord_moves g _).mono.step (State.returnPage_moves _ g)
  unfold State.restartPage
  split
  · exact (s.returnPage_moves g).mono
  · exact hended
  · exact hended
  · exact .refl _ s

theorem State.restartOutput_moves : OnlyMoves [.queue, .ports] s { s with output := s.output.restart } :=
  s.setOutput_moves (fun h => absurd (by decide) h) (fun h => absurd (by decide) h) (fun _ => rfl)

/-- The blocks of RESTART up to the output path and the channel (R188). -/
def State.restartRecords : State := pageIds.foldl State.restartPage s.restartHolds.restartLines.restartFit

theorem State.restart_eq : s.restart =
    { s.restartRecords with output := s.restartRecords.output.restart, channel := s.restartRecords.channel.restart } := rfl

theorem State.restart_moves :
    OnlyMoves [.holder, .lineState, .user, .held, .service, .storyFit, .changed, .fitQueue, .inFlight, .queue, .ports,
      .pageJob, .stage, .pageState, .pageFit, .channel] s s.restart := by
  have hrecords : OnlyMoves [.holder, .lineState, .user, .held, .service, .storyFit, .changed, .fitQueue, .inFlight, .queue,
      .ports, .pageJob, .stage, .pageState, .pageFit, .channel] s s.restartRecords :=
    ((s.restartHolds_moves.mono.step (State.restartLines_moves _)).step (State.restartFit_moves _)).step
      (.foldl State.restartPage_moves _ _)
  rw [s.restart_eq]
  generalize s.restartRecords = u at hrecords ⊢
  exact (hrecords.step u.restartOutput_moves).step
    (State.setChannel_touches { u with output := u.output.restart } u.channel.restart).moves_channel

/-- Every line's seconds tick, in line order (R78, R80). -/
def State.linesTick : State := lineIds.foldl State.lineTick s

/-- Every orphan's seconds tick, in story order (R54). -/
def State.orphansTick : State := s.orphanIds.foldl State.orphanTick s

theorem execSecondsTick_eq : execSecondsTick s = .next s.clockTick.linesTick.orphansTick.lossTick := rfl

theorem State.linesTick_moves : OnlyMoves [.lineState, .service] s s.linesTick := .foldl State.lineTick_moves _ s

theorem State.orphansTick_moves : OnlyMoves [.holder, .held] s s.orphansTick := .foldl State.orphanTick_moves _ s

theorem execSecondsTick_moves : ∃ t, execSecondsTick s = .next t ∧ OnlyMoves Instr.secondsTick.moves s t :=
  ⟨_, execSecondsTick_eq s, ((s.clockTick_moves.mono.step (State.linesTick_moves _)).step
    (State.orphansTick_moves _)).step (State.lossTick_moves _)⟩

end Events

/-- Which aspects of the records a command can move. -/
theorem exec_moves (i : Instr) (s : State) : ∃ t, exec i s = .next t ∧ OnlyMoves i.shifts s t := by
  cases i
  case powerReset => exact ⟨_, rfl, fun a ha => absurd (by cases a <;> decide) ha⟩
  case hostFrameDiscarded => exact ⟨_, rfl, (s.setChannel_touches _).moves_channel⟩
  case requestArrival => exact ⟨_, rfl, (s.setChannel_touches _).moves_channel⟩
  case hostFrameSent =>
    obtain ⟨t, hstep, htouch⟩ := execHostFrameSent_touches s
    exact ⟨t, hstep, htouch.moves_channel⟩
  case orphanExpiry n =>
    refine ⟨_, rfl, ?_⟩
    split
    · split
      · exact s.orphanExpires_moves n _ _
      · exact .refl _ s
    · exact .refl _ s
  case carrierDrop k =>
    refine ⟨_, rfl, ?_⟩
    split
    · exact s.loseCarrier_moves k
    · exact (s.setCarrier_moves k false).mono (List.nil_subset _)
  case carrierReturn k =>
    refine ⟨_, rfl, ?_⟩
    split
    · exact s.regainCarrier_moves k
    · exact (s.setCarrier_moves k true).mono (List.nil_subset _)
  case terminalFrameReceived k chars =>
    exact ⟨_, rfl, (OnlyMoves.foldl (fun t b => t.receiveChar_moves k b) chars s).mono (bs := [.lineState, .service])⟩
  case terminalFrameDiscarded k f =>
    refine ⟨_, rfl, ?_⟩
    split
    · exact s.gateFault_moves k f
    · exact .refl _ s
  case lineFrameSent k =>
    refine ⟨_, rfl, ?_⟩
    split
    · exact OnlyMoves.mono (bs := [.lineState, .service]) (s.updLine_moves (Line.transmit_keeps _))
    · exact .refl _ s
  case signon k user =>
    obtain ⟨t, hstep, hmoves⟩ := execSignon_moves s k user
    exact ⟨t, hstep, hmoves.mono (fun _ h => List.mem_cons_of_mem _ (List.mem_cons_of_mem _ h))⟩
  case signonTimeout k =>
    refine ⟨_, rfl, ?_⟩
    split
    · split
      · exact s.signonExpires_moves k
      · exact .refl _ s
    · exact .refl _ s
  case dim k =>
    refine ⟨_, rfl, ?_⟩
    split
    · split
      · exact s.goDim_moves k
      · exact .refl _ s
    · exact .refl _ s
  case fitTake => exact ⟨_, rfl, s.takeFit_moves⟩
  case fitCompletion => exact ⟨_, rfl, s.completeFit_moves⟩
  case codeAccepted p => exact ⟨_, rfl, s.acceptCode_moves p⟩
  case abortCodeSent p =>
    refine ⟨_, rfl, ?_⟩
    split
    · exact s.updPort_moves p _
    · exact .refl _ s
  case readyLeadRise p =>
    refine ⟨_, rfl, ?_⟩
    dsimp only
    split
    · exact s.setPort_moves p _
    · split
      · exact (s.setPort_moves p _).step (State.raise_moves _ _)
      · exact s.setPort_moves p _
  case readyLeadFall p => exact ⟨_, rfl, s.setPort_moves p _⟩
  case resultDone p =>
    refine ⟨_, rfl, ?_⟩
    split
    · exact s.completeJob_moves p _
    · exact .refl _ s
  case resultFault p =>
    refine ⟨_, rfl, ?_⟩
    split
    · exact s.failJob_moves p _
    · exact .refl _ s
  case resultCodeOther => exact ⟨s, rfl, .refl _ s⟩
  case portLoss p =>
    refine ⟨_, rfl, ?_⟩
    split
    · exact s.lossExpires_moves p
    · exact .refl _ s
  case secondsTick => exact execSecondsTick_moves s
  case terminalCount =>
    refine ⟨_, rfl, ?_⟩
    split
    · exact s.terminalCount_moves
    · exact .refl _ s
  case restart tag =>
    obtain ⟨t, hstep, htouch⟩ := execRestart_touches s tag
    exact ⟨t, hstep, htouch.moves_channel⟩
  case restartTakesEffect =>
    refine ⟨_, rfl, ?_⟩
    split
    · exact s.restart_moves
    · exact .refl _ s
  all_goals first
    | exact exec_rule_moves (.inl ⟨rfl, rfl⟩) (by intro _ h; cases h) (by intro _ _ h; cases h) s
    | exact exec_rule_moves (.inr ⟨rfl, rfl⟩) (by intro _ h; cases h) (by intro _ _ h; cases h) s

/-- Every aspect of the records that a command cannot move is kept. -/
theorem exec_keeps {i : Instr} {s t : State} (h : exec i s = .next t) {a : Aspect} (ha : a ∉ i.shifts) : s.keeps t a := by
  obtain ⟨u, hstep, hmoves⟩ := exec_moves i s
  rw [h] at hstep
  cases hstep
  exact hmoves a ha

end Sys2Proof.Machine

/-! The copy store (R5): what a text change, a PURGE and a new story do to the chains and the pool, and the two laws. -/

namespace Sys2Proof.Machine

/-! ### The stories in number order -/

theorem mem_storyIds {n : Nat} : n ∈ storyIds ↔ 1 ≤ n ∧ n ≤ 512 := by
  simp only [storyIds, Config.stories, List.mem_map, List.mem_range]
  constructor
  · rintro ⟨k, hk, rfl⟩
    omega
  · exact fun h => ⟨n - 1, by omega, by omega⟩

theorem storyIds_nodup : storyIds.Nodup :=
  List.Nodup.map (fun _ _ h => Nat.succ_injective h) List.nodup_range

theorem State.stories_toList (s : State) : s.stories.toList = storyIds.map s.story := by
  refine List.ext_getElem (by simp [storyIds, Config.stories]) fun k hk _ => ?_
  have hlt : k < 512 := by simpa using hk
  simp [storyIds, State.story, hlt]

/-- The chains of all stories, in number order. -/
def State.chains (s : State) : List Nat := storyIds.flatMap fun n => (s.story n).chain

theorem State.movedBlocks_eq (s : State) : s.movedBlocks = s.chains ++ s.store.returned := by
  rw [State.movedBlocks, State.chains, s.stories_toList, List.flatMap_map]

/-- The chains of all stories but `n`. -/
def State.otherChains (s : State) (n : Nat) : List Nat := (storyIds.erase n).flatMap fun m => (s.story m).chain

section Chains
variable {s t : State} {n : Nat}

theorem State.chains_perm (hn : 1 ≤ n ∧ n ≤ 512) : s.chains.Perm ((s.story n).chain ++ s.otherChains n) :=
  ((List.perm_cons_erase (mem_storyIds.2 hn)).flatMap_right fun m => (s.story m).chain)

theorem State.otherChains_congr (h : SameStoriesBut n s t) : t.otherChains n = s.otherChains n := by
  unfold State.otherChains
  rw [List.flatMap_def, List.flatMap_def]
  refine congrArg List.flatten (List.map_congr_left fun m hm => ?_)
  rw [h m fun e => storyIds_nodup.not_mem_erase (e ▸ hm)]

theorem State.chains_length (s : State) : (s.stories.toList.map fun r => r.chain.length).sum = s.chains.length := by
  rw [s.stories_toList, State.chains, List.length_flatMap, List.map_map]
  rfl

/-- One story's chain moved, and the pool with it: the blocks in all are those of before, the story's own apart. -/
theorem State.movedBlocks_perm (hn : 1 ≤ n ∧ n ≤ 512) (h : SameStoriesBut n s t) :
    t.movedBlocks.Perm ((t.story n).chain ++ t.store.returned ++ s.otherChains n) := by
  rw [t.movedBlocks_eq, List.append_assoc]
  refine ((State.chains_perm hn).append_right _).trans ?_
  rw [State.otherChains_congr h, List.append_assoc]
  exact List.Perm.append_left _ List.perm_append_comm

end Chains

/-! ### Chains and pool (R5) -/

theorem Store.take_length {st : Store} {k : Nat} : (st.take k).1.length = k := by
  simp only [Store.take, List.length_append, List.length_take, List.length_map, List.length_range]
  omega

/-- What a chain brought to `need` blocks comes to, where the pool holds what it needs (R5, R6). -/
theorem Store.rechain_counts {st : Store} {chain : List Nat} {need : Nat} (hfresh : st.fresh ≤ Config.blocks)
    (hroom : need ≤ chain.length + st.free) :
    (st.rechain chain need).1.length = need ∧ (st.rechain chain need).2.fresh ≤ Config.blocks ∧
      (st.rechain chain need).2.free + need = st.free + chain.length := by
  unfold Store.free at hroom ⊢
  unfold Store.rechain
  split
  · refine ⟨?_, ?_, ?_⟩
    · rw [List.length_append, Store.take_length]
      omega
    · simp only [Store.take]
      omega
    · simp only [Store.take, List.length_drop]
      omega
  · simp only [Store.giveBack, List.length_take, List.length_append, List.length_drop]
    omega

/-- The blocks a chain brought to `need` blocks and the pool share between them are those of before, and the first that were never
used (assumption 6). -/
theorem Store.rechain_perm (st : Store) (chain : List Nat) (need : Nat) :
    ∃ m, (st.rechain chain need).2.fresh = st.fresh + m ∧
      ((st.rechain chain need).1 ++ (st.rechain chain need).2.returned).Perm
        ((List.range m).map (st.fresh + ·) ++ (chain ++ st.returned)) := by
  unfold Store.rechain
  split
  next =>
    refine ⟨need - chain.length - st.returned.length, rfl, ?_⟩
    simp only [Store.take]
    generalize need - chain.length = k
    calc (chain ++ (st.returned.take k ++ (List.range (k - st.returned.length)).map (st.fresh + ·))) ++ st.returned.drop k
        = chain ++ (st.returned.take k ++ ((List.range (k - st.returned.length)).map (st.fresh + ·) ++ st.returned.drop k)) := by
          simp only [List.append_assoc]
      _ |>.Perm (chain ++ ((List.range (k - st.returned.length)).map (st.fresh + ·) ++
            (st.returned.take k ++ st.returned.drop k))) := by
          refine List.Perm.append_left _ ?_
          rw [← List.append_assoc, ← List.append_assoc]
          exact List.Perm.append_right _ List.perm_append_comm
      _ |>.Perm ((List.range (k - st.returned.length)).map (st.fresh + ·) ++ (chain ++ st.returned)) := by
          rw [List.take_append_drop, ← List.append_assoc, ← List.append_assoc]
          exact List.Perm.append_right _ List.perm_append_comm
  next =>
    refine ⟨0, rfl, ?_⟩
    simp only [Store.giveBack, List.range_zero, List.map_nil, List.nil_append]
    calc chain.take need ++ (st.returned ++ chain.drop need)
        |>.Perm (chain.take need ++ (chain.drop need ++ st.returned)) := List.Perm.append_left _ List.perm_append_comm
      _ = chain ++ st.returned := by rw [← List.append_assoc, List.take_append_drop]

/-! ### What the laws of the copy store read -/

section Laws
variable {s t : State} {n : Nat}

/-- The law of the copy store, story by story. -/
theorem storeLaw_iff : StoreLaw s ↔
    (∀ n, 1 ≤ n ∧ n ≤ 512 → (s.story n).chain.length = blocksFor (storedLength (s.story n).text) ∧
      ((s.story n).stage = .free → (s.story n).text = [])) ∧
    s.store.fresh ≤ Config.blocks ∧ s.store.free + s.chains.length = Config.blocks := by
  unfold StoreLaw
  rw [s.chains_length, s.stories_toList]
  simp only [List.forall_mem_map, mem_storyIds]

theorem State.keeps.chains (h : s.keeps t .copy) : t.chains = s.chains := by
  unfold State.chains
  rw [List.flatMap_def, List.flatMap_def]
  exact congrArg List.flatten (List.map_congr_left fun n _ => (h.1 n).2)

theorem StoreLaw.of_keeps (hs : StoreLaw s) (hcopy : s.keeps t .copy) (hfree : s.keeps t .free) (hpool : s.keeps t .pool) :
    StoreLaw t := by
  rw [storeLaw_iff] at hs ⊢
  obtain ⟨hstory, hfresh, hsum⟩ := hs
  obtain ⟨hfresh', hreturned⟩ := hpool.2.2.2.2
  refine ⟨fun n hn => ?_, hfresh' ▸ hfresh, ?_⟩
  · obtain ⟨htext, hchain⟩ := hcopy.1 n
    obtain ⟨hlength, hempty⟩ := hstory n hn
    rw [htext, hchain]
    exact ⟨hlength, fun h => hempty (hfree.1 n h)⟩
  · rw [hcopy.chains, Store.free, hfresh', hreturned]
    exact hsum

theorem BlockLaw.of_keeps (hs : BlockLaw s) (hcopy : s.keeps t .copy) (hpool : s.keeps t .pool) : BlockLaw t := by
  obtain ⟨hfresh, hreturned⟩ := hpool.2.2.2.2
  unfold BlockLaw at *
  rwa [t.movedBlocks_eq, hcopy.chains, hreturned, hfresh, ← s.movedBlocks_eq]

/-- One story's record moved, and the pool with it: the law of the copy store is kept where the chain has its length and the blocks in
all are as many as before. -/
theorem StoreLaw.of_story (hs : StoreLaw s) (hn : 1 ≤ n ∧ n ≤ 512) (hsame : SameStoriesBut n s t)
    (hlength : (t.story n).chain.length = blocksFor (storedLength (t.story n).text))
    (hempty : (t.story n).stage = .free → (t.story n).text = []) (hfresh : t.store.fresh ≤ Config.blocks)
    (hcount : t.store.free + (t.story n).chain.length = s.store.free + (s.story n).chain.length) : StoreLaw t := by
  rw [storeLaw_iff] at hs ⊢
  obtain ⟨hstory, -, hsum⟩ := hs
  refine ⟨fun m hm => ?_, hfresh, ?_⟩
  · by_cases hmn : m = n
    · rw [hmn]
      exact ⟨hlength, hempty⟩
    · rw [hsame m hmn]
      exact hstory m hm
  · have hold := (State.chains_perm (s := s) hn).length_eq
    have hnew := (State.chains_perm (s := t) hn).length_eq
    rw [State.otherChains_congr hsame] at hnew
    rw [List.length_append] at hold hnew
    omega

/-- One story's record moved, and the pool with it: blocks are not shared where story and pool hold between them what they held, but for
blocks given up and the first of those never used. -/
theorem BlockLaw.of_story (hs : BlockLaw s) (hn : 1 ≤ n ∧ n ≤ 512) (hsame : SameStoriesBut n s t) {m : Nat}
    (hfresh : t.store.fresh = s.store.fresh + m)
    (hblocks : ((t.story n).chain ++ t.store.returned).Subperm
      ((List.range m).map (s.store.fresh + ·) ++ ((s.story n).chain ++ s.store.returned))) : BlockLaw t := by
  obtain ⟨hnodup, hbelow⟩ := hs
  have hold : (s.movedBlocks).Perm ((s.story n).chain ++ s.store.returned ++ s.otherChains n) :=
    State.movedBlocks_perm hn fun _ _ => rfl
  have hmoved : t.movedBlocks.Subperm ((List.range m).map (s.store.fresh + ·) ++ s.movedBlocks) := by
    refine (State.movedBlocks_perm hn hsame).subperm.trans (((List.subperm_append_right _).2 hblocks).trans ?_)
    rw [List.append_assoc]
    exact ((List.perm_append_left_iff _).2 hold.symm).subperm
  obtain ⟨kept, hperm, hkept⟩ := id hmoved
  refine ⟨hperm.nodup_iff.1 (hkept.nodup ?_), fun b hb => ?_⟩
  · refine List.Nodup.append (List.Nodup.map (fun _ _ h => Nat.add_left_cancel h) List.nodup_range) hnodup ?_
    intro b hb hin
    obtain ⟨j, -, rfl⟩ := List.mem_map.1 hb
    have := hbelow _ hin
    omega
  · rw [hfresh]
    rcases List.mem_append.1 (hmoved.subset hb) with hnew | hin
    · obtain ⟨j, hj, rfl⟩ := List.mem_map.1 hnew
      have := List.mem_range.1 hj
      omega
    · have := hbelow b hin
      omega

end Laws

/-! ### Text changes -/

section Text
variable {s : State} {n : Nat} {text : List CopyLine} {style : Option Nat}

/-- The chain and the pool as a text change leaves them (R5). -/
def State.rechained (s : State) (n : Nat) (text : List CopyLine) : List Nat × Store :=
  s.store.rechain (s.story n).chain (blocksFor (storedLength text))

theorem State.writeText_store : (s.writeText n text style).store = (s.rechained n text).2 := rfl

theorem State.writeText_story (hn : 1 ≤ n ∧ n ≤ 512) :
    (s.writeText n text style).story n = { s.story n with
      text := text, chain := (s.rechained n text).1, style := style.getD (s.story n).style
      editCount := ((s.story n).editCount + 1) % 65536 } :=
  State.story_updStory_self _ hn _

theorem State.writeText_sameStories : SameStoriesBut n s (s.writeText n text style) :=
  fun _ hm => State.story_updStory_ne _ hm _

/-- Past the text and the blocks a text change moves fits and judgements alone (R6, R7). -/
theorem State.writeText_changeText_moves :
    OnlyMoves [.storyFit, .changed, .fitQueue, .pageFit] (s.writeText n text style) (s.changeText n text style) :=
  ((((State.storeLatch_moves _).mono.step (State.makeStale_moves _ n)).step (State.lampHolder_moves _ n))).step
    (State.noticeFitOf_moves _ s n)

theorem State.textRefusal_none (h : s.textRefusal n text = none) :
    text.length ≤ 999 ∧ storedLength text ≤ 32768 ∧ blocksFor (storedLength text) ≤ (s.story n).chain.length + s.store.free := by
  unfold State.textRefusal at h
  split at h
  · exact absurd h (by simp)
  next hlong =>
    split at h
    · exact absurd h (by simp)
    next hroom =>
      simp only [Config.maxLines, Config.maxStored, not_or, not_lt] at hlong hroom
      exact ⟨hlong.1, hlong.2, hroom⟩

theorem State.changeText_storeLaw (hs : StoreLaw s) (hstage : (s.story n).stage ≠ .free)
    (hroom : s.textRefusal n text = none) : StoreLaw (s.changeText n text style) := by
  have hn := s.story_range_of_stage hstage
  obtain ⟨hlength, hfresh, hcount⟩ :=
    Store.rechain_counts (chain := (s.story n).chain) hs.2.1 (State.textRefusal_none hroom).2.2
  have hwritten : StoreLaw (s.writeText n text style) := by
    refine hs.of_story hn State.writeText_sameStories ?_ ?_ hfresh ?_ <;> rw [State.writeText_story hn]
    · exact hlength
    · exact fun hfree => absurd hfree hstage
    · rw [State.writeText_store]
      dsimp only
      rw [State.rechained, hlength]
      exact hcount
  have hmoves := State.writeText_changeText_moves (s := s) (n := n) (text := text) (style := style)
  exact hwritten.of_keeps (hmoves _ (by decide)) (hmoves _ (by decide)) (hmoves _ (by decide))

theorem State.changeText_blockLaw (hs : BlockLaw s) (hstage : (s.story n).stage ≠ .free) :
    BlockLaw (s.changeText n text style) := by
  have hn := s.story_range_of_stage hstage
  obtain ⟨m, hfresh, hperm⟩ := s.store.rechain_perm (s.story n).chain (blocksFor (storedLength text))
  have hwritten : BlockLaw (s.writeText n text style) := by
    refine hs.of_story hn State.writeText_sameStories hfresh ?_
    rw [State.writeText_story hn]
    exact hperm.subperm
  have hmoves := State.writeText_changeText_moves (s := s) (n := n) (text := text) (style := style)
  exact hwritten.of_keeps (hmoves _ (by decide)) (hmoves _ (by decide))

/-- What a text change of a story that is not FREE keeps, where its blocks are free, the three TEXT requests and RETURN keep. -/
def KeptByTexts (P : State → Prop) : Prop :=
  ∀ s n text style, P s → (s.story n).stage ≠ .free → s.textRefusal n text = none → P (s.changeText n text style)

theorem State.textCheck_none (h : s.textCheck n style text = none) :
    storyOk n = true ∧ optWithin 0 31 style = true ∧ text.all lineOk = true ∧ (s.story n).stage ≠ .free ∧
      (s.story n).holder.atLine = false ∧ (s.story n).stage ≠ .spiked ∧ s.onFrozenPage n = false := by
  unfold State.textCheck at h
  split at h
  · exact absurd h (by simp)
  next hfields =>
    simp only [Bool.not_eq_true', Bool.not_eq_false, Bool.and_eq_true] at hfields
    split at h
    · exact absurd h (by simp)
    next hstage =>
      split at h
      · exact absurd h (by simp)
      next hheld =>
        split at h
        · exact absurd h (by simp)
        next hspiked =>
          split at h
          · exact absurd h (by simp)
          next hfrozen =>
            exact ⟨hfields.1.1, hfields.1.2, hfields.2, hstage, Bool.eq_false_iff.2 hheld, hspiked,
              Bool.eq_false_iff.2 hfrozen⟩

variable {P : State → Prop} (hkept : KeptByTexts P)
include hkept

theorem State.textWrite_keeps (hs : P s) (hstage : (s.story n).stage ≠ .free) : P (s.textWrite n style text).2.2 := by
  unfold State.textWrite
  split
  · exact hs
  next hroom => exact hkept s n text style hs hstage hroom

theorem State.textAppend_keeps {new : List CopyLine} (hs : P s) : P (s.textAppend n style new).2.2 := by
  unfold State.textAppend
  split
  next h => rwa [s.textCheck_touches h]
  next h => exact State.textWrite_keeps hkept hs (State.textCheck_none h).2.2.2.1

theorem State.textReplace_keeps {new : List CopyLine} (hs : P s) : P (s.textReplace n style new).2.2 := by
  unfold State.textReplace
  split
  next h => rwa [s.textCheck_touches h]
  next h => exact State.textWrite_keeps hkept hs (State.textCheck_none h).2.2.2.1

theorem State.textReplaceRange_keeps {f k : Nat} {new : List CopyLine} (hs : P s) :
    P (s.textReplaceRange n style f k new).2.2 := by
  unfold State.textReplaceRange
  split
  next h => rwa [s.textCheck_touches h]
  next h =>
    split
    · exact hs
    · exact State.textWrite_keeps hkept hs (State.textCheck_none h).2.2.2.1

theorem State.returnLines_keeps (hlines : ∀ s ls, P s → P { s with lines := ls }) {k : Nat} {range : Option (Nat × Nat)}
    {new : List CopyLine} (hs : P s) : P (s.returnLines k range new).2.2 := by
  unfold State.returnLines
  dsimp only
  split
  · exact hs
  · split
    next m f c hheld hrange =>
      split
      · exact hs
      · split
        · exact hs
        next heditable =>
          split
          · exact hs
          next hroom =>
            refine hlines _ _ (hkept s m _ none hs (fun hfree => heditable ?_) hroom)
            simp [State.editable, hfree]
    · exact hs

end Text

/-! ### New stories and freed ones -/

section Stories
variable {s : State} {n : Nat}

theorem State.lowestFree_range (h : s.lowestFree = some n) : 1 ≤ n ∧ n ≤ 512 := by
  unfold State.lowestFree at h
  exact mem_storyIds.1 (List.mem_of_find?_eq_some h)

/-- No text needs no block. -/
theorem blocksFor_nil : blocksFor (storedLength []) = 0 := by decide

theorem State.makeStory_story (hn : 1 ≤ n ∧ n ≤ 512) (slug : List Byte) (desk style : Nat) (p : Priority) :
    (s.makeStory n slug desk style p).story n = { Story.freed with
      slug := slug, desk := desk, priority := p, stage := .basket, style := style, fit := .stale } := by
  rw [State.makeStory, State.setFitQueue_story, State.story_setStory_self _ hn]

theorem State.makeStory_sameStories (slug : List Byte) (desk style : Nat) (p : Priority) :
    SameStoriesBut n s (s.makeStory n slug desk style p) := fun m hm => by
  rw [State.makeStory, State.setFitQueue_story, State.story_setStory_ne _ hm]

theorem State.makeStory_storeLaw (hs : StoreLaw s) (h : s.lowestFree = some n) (slug : List Byte) (desk style : Nat)
    (p : Priority) : StoreLaw (s.makeStory n slug desk style p) := by
  have hn := State.lowestFree_range h
  obtain ⟨hlength, hempty⟩ := (storeLaw_iff.1 hs).1 n hn
  rw [hempty (s.lowestFree_free h)] at hlength
  refine hs.of_story hn (State.makeStory_sameStories _ _ _ _) ?_ ?_ hs.2.1 ?_ <;> rw [State.makeStory_story hn]
  · exact blocksFor_nil.symm
  · exact nofun
  · rw [hlength, blocksFor_nil]
    rfl

theorem State.makeStory_blockLaw (hs : BlockLaw s) (h : s.lowestFree = some n) (slug : List Byte) (desk style : Nat)
    (p : Priority) : BlockLaw (s.makeStory n slug desk style p) := by
  have hn := State.lowestFree_range h
  refine hs.of_story hn (State.makeStory_sameStories _ _ _ _) (m := 0) rfl ?_
  rw [State.makeStory_story hn]
  exact (List.sublist_append_right (s.story n).chain s.store.returned).subperm

/-- A story taken off its page or its spike list, before its record is freed (R17). -/
def State.unlisted (s : State) (n : Nat) : State :=
  match (s.story n).run with
  | some run => s.emptySlots run.page n
  | none => s.leaveSpikes n

/-- The record freed and its chain returned (R17). -/
def State.recordFreed (s : State) (n : Nat) : State :=
  (State.setStory { s.unlisted n with store := (s.unlisted n).store.giveBack (s.story n).chain } n Story.freed).storeRelief

theorem State.freeStory_eq : s.freeStory n =
    match (s.story n).run with
    | some run => State.noticeFit s run.page ((s.recordFreed n).judge run.page)
    | none => s.recordFreed n := by
  unfold State.freeStory State.recordFreed State.unlisted
  cases hrun : (s.story n).run <;> simp only [hrun]

theorem State.freeStory_record_touches : OnlyTouches [.pages, .channel] (s.recordFreed n) (s.freeStory n) := by
  rw [State.freeStory_eq]
  split
  · exact ((State.judge_touches _ _).mono (by decide)).trans (State.noticeFit_touches _ _ _) (by decide)
  · exact .refl _ _

theorem State.unlisted_touches : OnlyTouches [.pages, .desks] s (s.unlisted n) := by
  unfold State.unlisted
  split
  · exact (s.emptySlots_touches _ n).mono (by decide)
  · exact (s.leaveSpikes_touches n).mono (by decide)

theorem State.storeRelief_blocks (s : State) :
    s.storeRelief.store.fresh = s.store.fresh ∧ s.storeRelief.store.returned = s.store.returned :=
  (s.storeRelief_moves .pool (by decide)).2.2.2.2

theorem State.freeStory_blocks : (s.freeStory n).store.fresh = s.store.fresh ∧
    (s.freeStory n).store.returned = s.store.returned ++ (s.story n).chain := by
  rw [State.freeStory_record_touches.store, State.recordFreed]
  obtain ⟨hfresh, hreturned⟩ := State.storeRelief_blocks
    (State.setStory { s.unlisted n with store := (s.unlisted n).store.giveBack (s.story n).chain } n Story.freed)
  rw [hfresh, hreturned, State.setStory_store, Store.giveBack, State.unlisted_touches.store]
  exact ⟨rfl, rfl⟩

theorem State.freeStory_story (m : Nat) :
    (s.freeStory n).story m = if m = n ∧ 1 ≤ n ∧ n ≤ 512 then Story.freed else s.story m := by
  rw [State.freeStory_record_touches.story, State.recordFreed, (State.storeRelief_touches _).story, State.story_setStory]
  exact if_congr Iff.rfl rfl (State.unlisted_touches.story m)

theorem State.freeStory_sameStories : SameStoriesBut n s (s.freeStory n) := fun m hm => by
  rw [State.freeStory_story, if_neg fun h => hm h.1]

theorem State.freeStory_storeLaw (hs : StoreLaw s) (hn : 1 ≤ n ∧ n ≤ 512) : StoreLaw (s.freeStory n) := by
  obtain ⟨hfresh, hreturned⟩ := State.freeStory_blocks (s := s) (n := n)
  refine hs.of_story hn State.freeStory_sameStories ?_ ?_ (hfresh ▸ hs.2.1) ?_ <;>
    rw [State.freeStory_story, if_pos ⟨rfl, hn⟩]
  · exact blocksFor_nil.symm
  · exact fun _ => rfl
  · rw [Store.free, Store.free, hfresh, hreturned, List.length_append]
    exact Nat.add_assoc _ _ _ ▸ rfl

theorem State.freeStory_blockLaw (hs : BlockLaw s) (hn : 1 ≤ n ∧ n ≤ 512) : BlockLaw (s.freeStory n) := by
  obtain ⟨hfresh, hreturned⟩ := State.freeStory_blocks (s := s) (n := n)
  refine hs.of_story hn State.freeStory_sameStories (m := 0) hfresh ?_
  rw [State.freeStory_story, if_pos ⟨rfl, hn⟩, hreturned]
  exact (List.perm_append_comm (l₁ := s.store.returned)).subperm

end Stories

/-! ### The laws kept by every command -/

section Kept
variable {P : State → Prop} {s t : State}

/-- A law of the copy store: it reads the copy, what is FREE and the pool, and is kept by a text change, a new story and a PURGE. -/
structure CopyLaw (P : State → Prop) : Prop where
  reads : ∀ s t : State, P s → s.keeps t .copy → s.keeps t .free → s.keeps t .pool → P t
  texts : KeptByTexts P
  made : ∀ (s : State) (n : Nat) (slug : List Byte) (desk style : Nat) (p : Priority), P s → s.lowestFree = some n →
    P (s.makeStory n slug desk style p)
  freed : ∀ (s : State) (n : Nat), P s → 1 ≤ n ∧ n ≤ 512 → P (s.freeStory n)
  reset : ∀ s : State, s.stories = State.reset.stories → s.store = State.reset.store → P s

theorem CopyLaw.of_moves (h : CopyLaw P) {as : List Aspect} (hs : P s) (hmoves : OnlyMoves as s t)
    (hcopy : .copy ∉ as := by decide) (hfree : .free ∉ as := by decide) (hpool : .pool ∉ as := by decide) : P t :=
  h.reads s t hs (hmoves _ hcopy) (hmoves _ hfree) (hmoves _ hpool)

theorem CopyLaw.create (h : CopyLaw P) {slug : List Byte} {desk style priority : Nat} (hs : P s) :
    P (s.create slug desk style priority).2.2 := by
  unfold State.create
  split
  · exact hs
  · split
    · split
      · exact hs
      next n hn => exact h.of_moves (h.made s n slug desk style _ hs hn) (State.arrive_moves _ n)
    · exact hs

theorem CopyLaw.newStory (h : CopyLaw P) {k : Nat} {slug : List Byte} {style priority : Nat} (hs : P s) :
    P (s.newStory k slug style priority).2.2 := by
  have hafter (t : State) (n : Nat) : OnlyMoves [.holder, .held, .baskets, .lineState] t
      (((t.takeHold k n).arrive n).putWindow k n 0) :=
    ((State.takeHold_moves _ k n).mono.step (State.arrive_moves _ n)).step (State.putWindow_moves _ k n 0)
  unfold State.newStory
  split
  · exact hs
  next p _ =>
    split
    · split
      · exact hs
      next u _ =>
        split
        · exact hs
        · split
          · exact hs
          next n hn => exact h.of_moves (h.made s n slug u.desk style p hs hn) (hafter _ n)
    · exact hs

theorem CopyLaw.purge (h : CopyLaw P) {n : Nat} (hs : P s) : P (s.purge n).2.2 := by
  unfold State.purge
  dsimp only
  split
  · exact hs
  next hn =>
    simp only [Bool.not_eq_true', Bool.not_eq_false] at hn
    have hfreed := h.freed s n hs ((storyOk_iff n).1 hn)
    split
    · exact hs
    · exact hfreed
    · exact hfreed
    · exact hs

theorem CopyLaw.exec (h : CopyLaw P) (i : Instr) (s t : State) (hs : P s) (hstep : exec i s = .next t) : P t := by
  have hlines (s : State) (ls : Vector Line 32) (hs : P s) : P { s with lines := ls } :=
    h.of_moves hs (s.setLines_moves ls)
  have hchannel (s : State) (c : Channel) (hs : P s) : P { s with channel := c } :=
    h.of_moves hs (s.setChannel_touches c).moves_channel
  cases i
  case create => exact hostStep_keeps hchannel (fun _ => h.create) hs hstep
  case new => exact lineStep_keeps hlines (fun _ => h.newStory) hs hstep
  case textAppend => exact hostStep_keeps hchannel (fun _ => State.textAppend_keeps h.texts) hs hstep
  case textReplace => exact hostStep_keeps hchannel (fun _ => State.textReplace_keeps h.texts) hs hstep
  case textReplaceRange => exact hostStep_keeps hchannel (fun _ => State.textReplaceRange_keeps h.texts) hs hstep
  case ret => exact lineStep_keeps hlines (fun _ => State.returnLines_keeps h.texts hlines) hs hstep
  case purge => exact hostStep_keeps hchannel (fun _ => h.purge) hs hstep
  case powerReset =>
    cases hstep
    exact h.reset _ rfl rfl
  all_goals
    exact h.reads s t hs (exec_keeps hstep (of_decide_eq_true rfl)) (exec_keeps hstep (of_decide_eq_true rfl))
      (exec_keeps hstep (of_decide_eq_true rfl))

end Kept

theorem State.chains_of_reset {s : State} (h : s.stories = State.reset.stories) (n : Nat) : s.story n = Story.freed := by
  rw [State.story_congr h]
  cases n with
  | zero => rfl
  | succ k =>
    by_cases hk : k < 512 <;> simp [State.story, State.reset, hk]

theorem State.chains_nil {s : State} (h : ∀ n, s.story n = Story.freed) : s.chains = [] := by
  simp [State.chains, h, Story.freed]

theorem storeLaw_copyLaw : CopyLaw StoreLaw where
  reads _ _ hs hcopy hfree hpool := hs.of_keeps hcopy hfree hpool
  texts _ _ _ _ hs hstage hroom := State.changeText_storeLaw hs hstage hroom
  made _ _ _ _ _ _ hs h := State.makeStory_storeLaw hs h ..
  freed _ _ hs hn := State.freeStory_storeLaw hs hn
  reset s hstories hstore := by
    have hfreed := State.chains_of_reset hstories
    rw [storeLaw_iff, State.chains_nil hfreed, hstore]
    exact ⟨fun n _ => by rw [hfreed]; exact ⟨rfl, fun _ => rfl⟩, by decide, by decide⟩

theorem blockLaw_copyLaw : CopyLaw BlockLaw where
  reads _ _ hs hcopy _ hpool := hs.of_keeps hcopy hpool
  texts _ _ _ _ hs hstage _ := State.changeText_blockLaw hs hstage
  made _ _ _ _ _ _ hs h := State.makeStory_blockLaw hs h ..
  freed _ _ hs hn := State.freeStory_blockLaw hs hn
  reset s hstories hstore := by
    unfold BlockLaw
    rw [s.movedBlocks_eq, State.chains_nil (State.chains_of_reset hstories), hstore]
    exact ⟨List.nodup_nil, nofun⟩

/-- Settles O8: text changes, new stories, PURGE and power reset move copy and pool together; no other command moves either. -/
theorem storeLawKept : Obligations.StoreLawKept :=
  step_keeps (fun _ _ h => h) storeLaw_copyLaw.exec

/-- Settles O9: a text change takes blocks from the pool or gives its own back, a PURGE gives all of them back, and no other command
moves a block. -/
theorem blocksNeverShared : Obligations.BlocksNeverShared :=
  step_keeps (fun _ _ h => h) blockLaw_copyLaw.exec

end Sys2Proof.Machine

/-! The output path (R145, R149 to R161): what each operation does to the queue and the ports, and its law. -/

namespace Sys2Proof.Machine

/-! ### Units of codes (R148, R155) -/

section Units
variable {s : State}

theorem State.entry_length (hs : OutputLaw s) (c : Nat) : (s.entry c).length ≤ 2 := by
  obtain ⟨-, -, -, hentries, -⟩ := hs
  unfold State.entry
  cases h : s.output.xlate[c]? with
  | none => exact Nat.zero_le _
  | some e => exact hentries e (Vector.mem_toList_iff.2 (Vector.mem_of_getElem? h))

theorem State.itemCodes_length (hs : OutputLaw s) (i : Item) : (s.itemCodes i).length ≤ 4 := by
  have hentry (c : Nat) : (s.entry c).length ≤ 4 := (State.entry_length hs c).trans (by decide)
  cases i with
  | char c => exact hentry _
  | stray c => exact hentry _
  | para => exact hentry _
  | quad => exact hentry _
  | space => exact (by decide : 1 ≤ 4)
  | select n => exact (by decide : 3 ≤ 4)

/-- No unit of a job is longer than 4 codes (R155). -/
theorem State.jobUnits_length (hs : OutputLaw s) (g : Nat) : ∀ u ∈ s.jobUnits g, u.length ≤ 4 := by
  have hline (l : SetLine) : ∀ u ∈ s.lineUnits l, u.length ≤ 4 := by
    intro u hu
    rcases List.mem_append.1 hu with hitem | hend
    · obtain ⟨i, -, rfl⟩ := List.mem_map.1 hitem
      exact State.itemCodes_length hs i
    · rw [List.mem_singleton.1 hend]
      decide
  have hstory (n : Nat) : ∀ u ∈ s.storyUnits n, u.length ≤ 4 := by
    intro u hu
    rcases List.mem_cons.1 hu with rfl | hu
    · exact (by decide : 2 ≤ 4)
    · rcases List.mem_cons.1 hu with rfl | hu
      · exact (by decide : 3 ≤ 4)
      · obtain ⟨l, -, hl⟩ := List.mem_flatMap.1 hu
        exact hline l u hl
  intro u hu
  rcases List.mem_cons.1 hu with rfl | hu
  · exact (by decide : 4 ≤ 4)
  · rcases List.mem_append.1 hu with hu | hend
    · obtain ⟨n, -, hn⟩ := List.mem_flatMap.1 hu
      exact hstory n u hn
    · rw [List.mem_singleton.1 hend]
      exact (by decide : 2 ≤ 4)

/-- Units of at most 4 codes, placed while the FIFO holds fewer than 448, never fill it (R151, R155). -/
theorem placeUnits_bounds (us : List (List Byte)) (fifo : List Byte) (hunits : ∀ u ∈ us, u.length ≤ 4)
    (hfifo : fifo.length < 512) :
    (placeUnits us fifo).2.length < 512 ∧ ∀ u ∈ (placeUnits us fifo).1, u.length ≤ 4 := by
  induction us generalizing fifo with
  | nil => exact ⟨hfifo, nofun⟩
  | cons u us ih =>
    unfold placeUnits
    split
    next h =>
      have hu := hunits u List.mem_cons_self
      refine ih _ (fun v hv => hunits v (List.mem_cons_of_mem u hv)) ?_
      simp only [Config.fifoStop] at h
      rw [List.length_append]
      omega
    next => exact ⟨hfifo, hunits⟩

end Units

/-! ### The law of a port (R151, R152, R155, R159) -/

namespace SetterPort
variable {v : SetterPort}

theorem Law.of_idle {w : SetterPort} (h : v.Law) (hjob : w.job = none) (hstate : w.state ≠ .setting)
    (htimer : w.lossTimer = none) (hfifo : w.fifo.length < 512) (htime : w.lossTime = v.lossTime) : w.Law := by
  obtain ⟨-, -, hlow, hhigh, -⟩ := h
  unfold SetterPort.Law
  rw [hjob, htimer, htime]
  exact ⟨⟨nofun, fun hset => absurd hset hstate⟩, nofun, hlow, hhigh, Nat.zero_le _, hfifo, nofun⟩

theorem Law.idle (h : v.Law) (hstate : v.state ≠ .setting) : v.job = none ∧ v.lossTimer = none := by
  obtain ⟨hjob, htimer, -⟩ := h
  refine ⟨?_, ?_⟩
  · rw [← Option.not_isSome_iff_eq_none]
    exact fun hsome => hstate (hjob.1 hsome)
  · rw [← Option.not_isSome_iff_eq_none]
    exact fun hsome => hstate (htimer hsome)

/-- A port without a job goes from one state to another; none of them is SETTING. -/
theorem Law.restate (h : v.Law) {st : PortState} (hold : v.state ≠ .setting) (hnew : st ≠ .setting) :
    SetterPort.Law { v with state := st } := by
  obtain ⟨hjob, htimer⟩ := h.idle hold
  exact h.of_idle hjob hnew htimer h.2.2.2.2.2.1 rfl

/-- A port at work: a job, the loss time in its range, and room left in the FIFO. -/
theorem law_of_setting {w : SetterPort} {j : PortJob} (hjob : w.job = some j) (hstate : w.state = .setting)
    (htime : 5 ≤ w.lossTime ∧ w.lossTime ≤ 120) (htimer : w.lossTimer.getD 0 ≤ 120) (hfifo : w.fifo.length < 512)
    (hunits : ∀ u ∈ j.unplaced, u.length ≤ 4) : w.Law := by
  unfold SetterPort.Law
  rw [hjob]
  refine ⟨⟨fun _ => hstate, fun _ => rfl⟩, fun _ => hstate, htime.1, htime.2, htimer, hfifo, fun i hi => ?_⟩
  cases hi
  exact hunits

theorem fill_of_sending {j : PortJob} (hjob : v.job = some j) (hphase : j.phase = .sending) :
    v.fill = { v with
      fifo := (placeUnits j.unplaced v.fifo).2, job := some { j with unplaced := (placeUnits j.unplaced v.fifo).1 } } := by
  simp only [SetterPort.fill, hjob, hphase]

theorem fill_of_awaiting {j : PortJob} (hjob : v.job = some j) (hphase : j.phase = .awaiting) : v.fill = v := by
  simp only [SetterPort.fill, hjob, hphase]

/-- Filling the FIFO keeps the law of a port at work. -/
theorem Law.fill (h : v.Law) : v.fill.Law := by
  cases hjob : v.job with
  | none =>
    have hsame : v.fill = v := by simp only [SetterPort.fill, hjob]
    rwa [hsame]
  | some j =>
    cases hphase : j.phase with
    | awaiting => rwa [fill_of_awaiting hjob hphase]
    | sending =>
      obtain ⟨hwork, -, hlow, hhigh, htimer, hfifo, hunits⟩ := h
      obtain ⟨hroom, hleft⟩ := placeUnits_bounds j.unplaced v.fifo (hunits j hjob) hfifo
      rw [fill_of_sending hjob hphase]
      exact law_of_setting rfl (hwork.1 (by rw [hjob]; rfl)) ⟨hlow, hhigh⟩ htimer hroom hleft

theorem Law.cancelled (h : v.Law) {next : PortState} (hnext : next ≠ .setting) : (v.cancelled next).Law :=
  h.of_idle rfl hnext rfl (by decide : 0 < 512) rfl

theorem Law.loseJob (h : v.Law) : v.loseJob.Law := h.of_idle rfl (by decide : PortState.lost ≠ .setting) rfl (by decide : 0 < 512) rfl

theorem Law.goOffline (h : v.Law) (hstate : v.state ≠ .setting) : v.goOffline.Law :=
  h.of_idle (h.idle hstate).1 (by decide : PortState.offline ≠ .setting) rfl (by decide : 0 < 512) rfl

theorem Law.restart (h : v.Law) : v.restart.Law :=
  h.of_idle rfl (by decide : PortState.offline ≠ .setting) rfl (by decide : 0 < 512) rfl

theorem reset_law (lead : Bool) : SetterPort.Law { SetterPort.reset with lead := lead } := by
  unfold SetterPort.Law SetterPort.reset
  exact ⟨⟨nofun, nofun⟩, nofun, (by decide : 5 ≤ 30), (by decide : 30 ≤ 120), Nat.zero_le _, (by decide : 0 < 512), nofun⟩

/-- The law does not read the abort code, the latch, the lead or the code output. -/
theorem Law.congr {w : SetterPort} (h : v.Law) (hwork : w.job = v.job ∧ w.state = v.state ∧ w.fifo = v.fifo)
    (htime : w.lossTime = v.lossTime) (htimer : w.lossTimer = v.lossTimer) : w.Law := by
  obtain ⟨hjob, hstate, hfifo⟩ := hwork
  unfold SetterPort.Law at *
  rwa [hjob, hstate, hfifo, htime, htimer]

/-- The loss timer of a port at work set or stopped (R159). -/
theorem Law.retimed {w : SetterPort} (h : v.Law) (hwork : w.job = v.job ∧ w.state = v.state ∧ w.fifo = v.fifo)
    (htime : w.lossTime = v.lossTime) (hset : v.state = .setting) (htimer : w.lossTimer.getD 0 ≤ 120) : w.Law := by
  obtain ⟨hjob, hstate, hfifo⟩ := hwork
  obtain ⟨hiff, -, hlow, hhigh, -, hroom, hunits⟩ := h
  unfold SetterPort.Law
  rw [hjob, hstate, hfifo, htime]
  exact ⟨hiff, fun _ => hset, hlow, hhigh, htimer, hroom, hunits⟩

theorem sending_setting (h : v.sending = true) : v.state = .setting := by
  simp only [SetterPort.sending, Bool.and_eq_true, beq_iff_eq] at h
  exact h.1

theorem accepted_eq (j : PortJob) (code : Byte) (rest : List Byte) :
    v.accepted j code rest =
      let w := SetterPort.fill { v with fifo := rest, codeOut := some code, job := some { j with remaining := j.remaining - 1 } }
      if j.remaining - 1 = 0 then
        { w with job := w.job.map fun j => { j with phase := .awaiting }, lossTimer := some v.lossTime }
      else w := rfl

/-- A code accepted keeps the law (R155). -/
theorem Law.accepted {j : PortJob} {code : Byte} {rest : List Byte} (h : v.Law) (hjob : v.job = some j)
    (hfifo : v.fifo = code :: rest) : (v.accepted j code rest).Law := by
  obtain ⟨hwork, -, hlow, hhigh, htimer, hroom, hunits⟩ := h
  have hset : v.state = .setting := hwork.1 (by rw [hjob]; rfl)
  have hrest : rest.length < 512 := by
    have := hfifo ▸ hroom
    simp only [List.length_cons, Config.fifo] at this
    omega
  have hfilled : SetterPort.Law
      (SetterPort.fill { v with fifo := rest, codeOut := some code, job := some { j with remaining := j.remaining - 1 } }) := by
    refine Law.fill (law_of_setting rfl hset ⟨hlow, hhigh⟩ htimer hrest (hunits j hjob))
  rw [accepted_eq]
  generalize hw : SetterPort.fill { v with
    fifo := rest, codeOut := some code, job := some { j with remaining := j.remaining - 1 } } = w at hfilled
  have htime : w.lossTime = v.lossTime := by
    rw [← hw]
    unfold SetterPort.fill
    dsimp only
    split <;> rfl
  have hsetting : w.state = .setting := by
    rw [← hw]
    unfold SetterPort.fill
    dsimp only
    split <;> exact hset
  dsimp only
  split
  · obtain ⟨hiff, -, hlow', hhigh', -, hroom', hunits'⟩ := hfilled
    refine ⟨?_, fun _ => hsetting, hlow', hhigh', htime ▸ hhigh', hroom', fun i hi u hu => ?_⟩
    · rw [Option.isSome_map]
      exact hiff
    · obtain ⟨k, hk, rfl⟩ := Option.map_eq_some_iff.1 hi
      exact hunits' k hk u hu
  · exact hfilled

end SetterPort

/-! ### The law of the output path -/

section Law
variable {s t : State}

theorem OutputLaw.congr (hs : OutputLaw s) (h : t.output = s.output) : OutputLaw t := by
  unfold OutputLaw State.entry at *
  rwa [h]

theorem OutputLaw.updPage (hs : OutputLaw s) (g : Nat) (f : Page → Page) : OutputLaw (s.updPage g f) := hs

theorem OutputLaw.raise (hs : OutputLaw s) (n : Notice) : OutputLaw (s.raise n) := hs

theorem OutputLaw.port (hs : OutputLaw s) (p : Port) : (s.port p).Law := by
  obtain ⟨-, ha, hb, -⟩ := hs
  cases p
  exacts [ha, hb]

theorem OutputLaw.setPort (hs : OutputLaw s) {p : Port} {v : SetterPort} (hv : v.Law) : OutputLaw (s.setPort p v) := by
  obtain ⟨hqueue, ha, hb, hentries⟩ := hs
  cases p
  exacts [⟨hqueue, hv, hb, hentries⟩, ⟨hqueue, ha, hv, hentries⟩]

theorem OutputLaw.setQueue (hs : OutputLaw s) {q : List Job} (hq : q.length ≤ 16) : OutputLaw (s.setQueue q) :=
  ⟨hq, hs.2⟩

theorem State.beginJob_law (hs : OutputLaw s) (p : Port) (j : Job) : OutputLaw (s.beginJob p j) := by
  obtain ⟨-, -, hlow, hhigh, -, hfifo, -⟩ := hs.port p
  have hport := hs.setPort (p := p) (SetterPort.Law.fill (SetterPort.law_of_setting
    (w := { s.port p with
      state := .setting
      job := some { job := j, remaining := j.total, phase := .sending, unplaced := s.jobUnits j.page }
      lossTimer := if (s.port p).lead then none else some (s.port p).lossTime })
    rfl rfl ⟨hlow, hhigh⟩ (by dsimp only; split; exacts [Nat.zero_le _, hhigh]) hfifo (State.jobUnits_length hs j.page)))
  exact hport.congr rfl

theorem nearestJob_length {p : Port} {q rest : List Job} {j : Job} (h : nearestJob p q = some (j, rest)) :
    q.length = rest.length + 1 := by
  induction q generalizing j rest with
  | nil => exact absurd h (by simp [nearestJob])
  | cons i q ih =>
    unfold nearestJob at h
    split at h
    · cases h
      rfl
    · split at h
      next k r hq =>
        cases h
        rw [List.length_cons, List.length_cons, ih hq]
      next => exact absurd h (by simp)

theorem State.portTakes_law (hs : OutputLaw s) (p : Port) : OutputLaw (s.portTakes p) := by
  unfold State.portTakes
  split
  · split
    next j rest h =>
      have hlength := nearestJob_length h
      have hqueue : s.output.queue.length ≤ 16 := hs.1
      exact State.beginJob_law (hs.setQueue (by omega)) p j
    next => exact hs
  · exact hs

theorem State.arbitrate_law (hs : OutputLaw s) : OutputLaw s.arbitrate := State.portTakes_law (State.portTakes_law hs .a) .b

theorem State.returnPage_law (hs : OutputLaw s) (g : Nat) : OutputLaw (s.returnPage g) := hs.congr (s.returnPage_touches g).output

theorem State.cancelQueued_law (hs : OutputLaw s) (g : Nat) : OutputLaw (s.cancelQueued g) := by
  have hqueue : s.output.queue.length ≤ 16 := hs.1
  exact State.returnPage_law ((hs.setQueue ((List.length_filter_le _ _).trans hqueue)).updPage g _) g

theorem State.cancelAtPort_law (hs : OutputLaw s) (p : Port) (g : Nat) {next : PortState} (hnext : next ≠ .setting) :
    OutputLaw (s.cancelAtPort p g next) :=
  State.returnPage_law ((hs.setPort ((hs.port p).cancelled hnext)).updPage g _) g

theorem State.cancelSetting_law (hs : OutputLaw s) (g : Nat) : OutputLaw (s.cancelSetting g) := by
  unfold State.cancelSetting
  split
  · exact State.arbitrate_law (State.cancelAtPort_law hs _ g (by decide))
  · exact State.returnPage_law hs g

theorem State.queuePage_law (hs : OutputLaw s) (g : Nat) (hroom : s.output.queue.length < 16) : OutputLaw (s.queuePage g) := by
  unfold State.queuePage
  dsimp only
  refine State.arbitrate_law ((hs.setQueue (q := s.output.queue ++
    [{ page := g, choice := (s.page g).choice, total := s.jobTotal g, restarts := 0 }]) ?_).congr ?_)
  · rw [List.length_append]
    exact hroom
  · exact (State.moveStories_touches _ g _ _).output

theorem State.decideRelease_law (hs : OutputLaw s) (g : Nat) : OutputLaw (s.decideRelease g) := by
  have hreturned := State.returnPage_law hs g
  unfold State.decideRelease
  dsimp only
  split
  · exact hreturned
  · split
    · exact hreturned
    next hroom => exact State.queuePage_law hs g (not_le.1 hroom)

theorem State.endWait_law (hs : OutputLaw s) (g : Nat) : OutputLaw (s.endWait g) := by
  unfold State.endWait
  dsimp only
  split
  · exact State.decideRelease_law hs g
  · exact hs

theorem State.endWaitOf_law (hs : OutputLaw s) (n : Nat) : OutputLaw (s.endWaitOf n) := by
  unfold State.endWaitOf
  split
  · exact State.endWait_law hs _
  · exact hs

theorem State.killReturn_law (hs : OutputLaw s) (g : Nat) : OutputLaw (s.killReturn g) := by
  unfold State.killReturn
  split
  · exact State.returnPage_law hs g
  · exact State.cancelQueued_law hs g
  · exact State.cancelSetting_law hs g
  · exact hs.congr (s.reopenPage_touches g).output
  · exact hs
  · exact hs

theorem State.kill_law (hs : OutputLaw s) (before : State) (n : Nat) : OutputLaw (State.kill before s n) := by
  unfold State.kill
  split
  · exact hs.congr (s.enterSpiked_touches n).output
  next run _ =>
    refine (State.killReturn_law hs run.page).congr ?_
    rw [(State.noticeFit_touches _ before run.page).output, (State.judge_touches _ run.page).output,
      (State.enterSpiked_touches _ n).output]

theorem State.losePort_law (hs : OutputLaw s) (p : Port) (j : PortJob) : OutputLaw (s.losePort p j) := by
  have hlost : OutputLaw (s.updPort p SetterPort.loseJob) := hs.setPort (hs.port p).loseJob
  have htold : OutputLaw (if (s.port p).lossLatch then s.updPort p SetterPort.loseJob
      else (s.updPort p SetterPort.loseJob).raise (.output p (.lost j.job.page (s.lossFate p)))) := by
    split
    · exact hlost
    · exact hlost
  have hqueue : (if (s.port p).lossLatch then s.updPort p SetterPort.loseJob
      else (s.updPort p SetterPort.loseJob).raise (.output p (.lost j.job.page (s.lossFate p)))).output.queue =
      s.output.queue := by
    split <;> rfl
  unfold State.losePort
  dsimp only
  split
  · exact State.beginJob_law htold _ _
  next hfate =>
    have hroom : s.output.queue.length < 16 := by
      by_contra hfull
      unfold State.lossFate at hfate
      rw [if_neg (c := s.output.queue.length < Config.queue) hfull] at hfate
      split at hfate <;> cases hfate
    refine State.arbitrate_law ((htold.setQueue (q := _ :: _) ?_).congr rfl)
    rw [hqueue]
    exact hroom
  · exact (State.returnPage_law (htold.updPage _ _) _).raise _

theorem State.lossExpires_law (hs : OutputLaw s) (p : Port) : OutputLaw (s.lossExpires p) := by
  unfold State.lossExpires
  split
  · exact State.losePort_law hs p _
  · exact hs

theorem State.lossFalls_law (hs : OutputLaw s) (p : Port) : OutputLaw (s.lossFalls p) := by
  obtain ⟨hwork, htimer, hlow, hhigh, hbound, hrest⟩ := hs.port p
  refine hs.setPort ⟨hwork, ?_, hlow, hhigh, ?_, hrest⟩
  · rw [Option.isSome_map]
    exact htimer
  · dsimp only
    revert hbound
    cases (s.port p).lossTimer with
    | none => exact id
    | some n =>
      simp only [Option.map_some, Option.getD_some]
      intro hbound
      split <;> omega

theorem State.lossTick_law (hs : OutputLaw s) : OutputLaw s.lossTick := by
  have hfallen := State.lossFalls_law (State.lossFalls_law hs .a) .b
  unfold State.lossTick
  dsimp only
  split <;> split
  · exact State.lossExpires_law (State.lossExpires_law hfallen .a) .b
  · exact State.lossExpires_law hfallen .b
  · exact State.lossExpires_law hfallen .a
  · exact hfallen

/-! ### The rules and events of the output path -/

theorem State.releasePage_law {g choice trim : Nat} (hs : OutputLaw s) : OutputLaw (s.releasePage g choice trim).2.2 := by
  unfold State.releasePage State.refuseRelease
  dsimp only
  repeat' split
  all_goals first
    | exact hs
    | exact State.endWait_law (s := s.updPage g _) hs g

theorem State.cancel_law {g : Nat} (hs : OutputLaw s) : OutputLaw (s.cancel g).2.2 := by
  unfold State.cancel
  dsimp only
  repeat' split
  all_goals first
    | exact hs
    | exact State.returnPage_law hs g
    | exact State.cancelQueued_law hs g
    | exact State.cancelSetting_law hs g

theorem State.hostKill_law {n : Nat} (hs : OutputLaw s) : OutputLaw (s.hostKill n).2.2 := by
  have hkilled := State.kill_law (hs.congr (s.releaseChannel_touches n).output) s n
  unfold State.hostKill
  dsimp only
  repeat' split
  all_goals first
    | exact hs
    | exact hkilled

theorem State.lineKill_law {k n : Nat} (hs : OutputLaw s) : OutputLaw (s.lineKill k n).2.2 := by
  have hkilled := State.kill_law (hs.congr (s.releaseOwn_touches k n).output) s n
  unfold State.lineKill
  dsimp only
  repeat' split
  all_goals first
    | exact hs
    | exact hkilled

/-- The entries an XLATE may store: none for the space, and each of at most 2 codes (R146). -/
theorem xlateOk_bounds {c : Nat} {entries : List (List Nat)} (h : xlateOk c entries = true) :
    (c ≤ 32 → c + entries.length ≤ 32) ∧ ∀ e ∈ entries, e.length ≤ 2 := by
  simp only [xlateOk, Bool.and_eq_true, Bool.not_eq_true', Bool.and_eq_false_iff, decide_eq_true_eq, decide_eq_false_iff_not,
    List.all_eq_true] at h
  obtain ⟨⟨-, hspace⟩, hentries⟩ := h
  refine ⟨fun hc => ?_, fun e he => (hentries e he).1⟩
  rcases hspace with h | h <;> omega

theorem mem_putEntries {table : Vector (List Byte) 128} {c : Nat} {entries : List (List Nat)} {e : List Byte}
    (he : e ∈ (putEntries table c entries).toList) : e ∈ table.toList ∨ ∃ x ∈ entries, e = x.map byte := by
  obtain ⟨i, hi, rfl⟩ := List.mem_iff_getElem.1 he
  have hlt : i < 128 := by simpa using hi
  have hold : table[i] ∈ table.toList := Vector.mem_toList_iff.2 (Vector.getElem_mem _)
  simp only [Vector.getElem_toList, putEntries, Vector.getElem_mapIdx]
  split
  · cases hnew : entries[i - c]? with
    | none => exact .inl hold
    | some x => exact .inr ⟨x, List.mem_of_getElem? hnew, rfl⟩
  · exact .inl hold

theorem putEntries_space {table : Vector (List Byte) 128} {c : Nat} {entries : List (List Nat)}
    (h : c ≤ 32 → c + entries.length ≤ 32) : (putEntries table c entries)[32]? = table[32]? := by
  have hgone (hc : c ≤ 32) : entries[32 - c]? = none := List.getElem?_eq_none (by have := h hc; omega)
  rw [Vector.getElem?_eq_getElem (by decide : 32 < 128), Vector.getElem?_eq_getElem (by decide : 32 < 128)]
  simp only [putEntries, Vector.getElem_mapIdx]
  split
  next hc => rw [hgone hc]; rfl
  next => rfl

/-- An XLATE stores entries of at most 2 codes, and none for the space (R146). -/
theorem State.loadXlate_law {c : Nat} {entries : List (List Nat)} (hs : OutputLaw s) : OutputLaw (s.loadXlate c entries).2.2 := by
  obtain ⟨hqueue, ha, hb, hold, hspace⟩ := hs
  unfold State.loadXlate
  split
  · exact ⟨hqueue, ha, hb, hold, hspace⟩
  next hok =>
    split
    · exact ⟨hqueue, ha, hb, hold, hspace⟩
    · simp only [Bool.not_eq_true', Bool.not_eq_false] at hok
      obtain ⟨hrange, hentries⟩ := xlateOk_bounds hok
      refine ⟨hqueue, ha, hb, fun e he => ?_, ?_⟩
      · rcases mem_putEntries he with hkept | ⟨x, hx, rfl⟩
        · exact hold e hkept
        · rw [List.length_map]
          exact hentries x hx
      · unfold State.entry at hspace ⊢
        exact (congrArg (·.getD []) (putEntries_space hrange)).trans hspace

theorem State.portset_law {port : Nat} {lossTime failover : Option Nat} (hs : OutputLaw s) :
    OutputLaw (s.portset port lossTime failover).2.2 := by
  unfold State.portset
  split
  next p f _ _ =>
    split
    · obtain ⟨hwork, htimer, hlow, hhigh, hrest⟩ := hs.port p
      refine hs.setPort ⟨hwork, htimer, ?_, ?_, hrest⟩
      · cases lossTime <;> simp only [Option.map_none, Option.map_some, Option.getD_none, Option.getD_some, clamp] <;> omega
      · cases lossTime <;> simp only [Option.map_none, Option.map_some, Option.getD_none, Option.getD_some, clamp] <;> omega
    · exact hs
  · exact hs

theorem State.portReady_law (hs : OutputLaw s) {p : Port} (hstate : (s.port p).state ≠ .setting) : OutputLaw (s.portReady p) :=
  State.arbitrate_law (hs.setPort ((hs.port p).restate hstate (by decide)))

theorem State.porton_law {port : Nat} (hs : OutputLaw s) : OutputLaw (s.porton port).2.2 := by
  unfold State.porton
  split
  · split
    next hstate => exact State.portReady_law hs (by rw [hstate]; decide)
    next => exact hs
  · exact hs

theorem State.resumePort_law {port : Nat} (hs : OutputLaw s) : OutputLaw (s.resumePort port).2.2 := by
  unfold State.resumePort
  split
  · split
    next hstate => exact State.portReady_law hs (by rcases hstate with h | h <;> rw [h] <;> decide)
    next => exact hs
  · exact hs

theorem State.portoff_law {port : Nat} (hs : OutputLaw s) : OutputLaw (s.portoff port).2.2 := by
  unfold State.portoff
  split
  next p _ =>
    split
    · exact hs
    · split
      · exact State.cancelAtPort_law hs p _ (by decide)
      next hjob =>
        have hstate : (s.port p).state ≠ .setting := fun h => by
          have := (hs.port p).1.2 h
          rw [hjob] at this
          exact absurd this (by decide)
        exact hs.setPort ((hs.port p).goOffline hstate)
  · exact hs

theorem State.portclr_law {port : Nat} (hs : OutputLaw s) : OutputLaw (s.portclr port).2.2 := by
  unfold State.portclr
  split
  · exact hs.setPort ((hs.port _).congr ⟨rfl, rfl, rfl⟩ rfl rfl)
  · exact hs

theorem State.acceptCode_law (hs : OutputLaw s) (p : Port) : OutputLaw (s.acceptCode p) := by
  unfold State.acceptCode
  dsimp only
  split
  next j code rest hjob hfifo =>
    split
    · exact (hs.setPort ((hs.port p).accepted hjob hfifo)).congr rfl
    · exact hs
  · exact hs

theorem State.completeJob_law (hs : OutputLaw s) (p : Port) (g : Nat) : OutputLaw (s.completeJob p g) := by
  have hmoved : OutputLaw (s.moveStories g .setting .set) := hs.congr (s.moveStories_touches g _ _).output
  unfold State.completeJob
  dsimp only
  refine (State.arbitrate_law (OutputLaw.setPort (p := p) (hmoved.updPage g _) ?_)).raise _
  exact (hmoved.port p).of_idle rfl (by decide : PortState.ready ≠ .setting) rfl (hmoved.port p).2.2.2.2.2.1 rfl

theorem State.failJob_law (hs : OutputLaw s) (p : Port) (g : Nat) : OutputLaw (s.failJob p g) := by
  have hhalted : OutputLaw (s.updPort p fun v => { v with state := .halted, job := none, lossTimer := none }) :=
    hs.setPort ((hs.port p).of_idle rfl (by decide : PortState.halted ≠ .setting) rfl (hs.port p).2.2.2.2.2.1 rfl)
  exact (State.returnPage_law (hhalted.congr (t := (s.updPort p _).endRecord g .fault) rfl) g).congr rfl

theorem State.writeFit_law (hs : OutputLaw s) (n : Nat) (f : FitResults) : OutputLaw (s.writeFit n f) := by
  refine State.endWaitOf_law (hs.congr ?_) n
  rw [(State.noticeFitOf_touches _ s n).output, (State.handOff_touches _ n).output]
  rfl

theorem State.completeFit_law (hs : OutputLaw s) : OutputLaw s.completeFit := by
  unfold State.completeFit
  split
  · exact hs
  · dsimp only
    split
    · exact hs
    · split
      · exact OutputLaw.congr (s := { s with fit := { s.fit with inFlight := none } }) hs
          (State.requeueFit_touches _ _).output
      · exact State.writeFit_law (s := { s with fit := { s.fit with inFlight := none } }) hs _ _

theorem execReadyLeadRise_law (hs : OutputLaw s) (p : Port) (hstep : execReadyLeadRise p s = .next t) : OutputLaw t := by
  have hport := hs.port p
  cases hstep
  dsimp only
  split
  next hsending =>
    exact hs.setPort (hport.retimed ⟨rfl, rfl, rfl⟩ rfl (SetterPort.sending_setting hsending) (Nat.zero_le _))
  next =>
    split
    next hlost =>
      have hstate : (s.port p).state ≠ .setting := by rw [hlost]; decide
      have hrecovered := hport.restate hstate (st := .recovered) (by decide)
      refine OutputLaw.raise (hs.setPort (p := p) ?_) _
      exact hrecovered.congr ⟨rfl, rfl, rfl⟩ rfl rfl
    next => exact hs.setPort (hport.congr ⟨rfl, rfl, rfl⟩ rfl rfl)

theorem execReadyLeadFall_law (hs : OutputLaw s) (p : Port) (hstep : execReadyLeadFall p s = .next t) : OutputLaw t := by
  have hport := hs.port p
  cases hstep
  refine hs.setPort ?_
  split
  next hsending =>
    exact hport.retimed ⟨rfl, rfl, rfl⟩ rfl (SetterPort.sending_setting hsending.2) hport.2.2.2.1
  next => exact hport.congr ⟨rfl, rfl, rfl⟩ rfl rfl

theorem execAbortCodeSent_law (hs : OutputLaw s) (p : Port) (hstep : execAbortCodeSent p s = .next t) : OutputLaw t := by
  cases hstep
  split
  · exact hs.setPort ((hs.port p).congr ⟨rfl, rfl, rfl⟩ rfl rfl)
  · exact hs

theorem State.secondsTick_law (hs : OutputLaw s) : OutputLaw s.clockTick.linesTick.orphansTick.lossTick := by
  refine State.lossTick_law (hs.congr ?_)
  have horphans (u : State) : OnlyTouches [.stories, .lines, .channel] u u.orphansTick := .foldl State.orphanTick_touches _ u
  have hlines (u : State) : OnlyTouches [.lines] u u.linesTick := .foldl State.lineTick_touches _ u
  rw [(horphans _).output, (hlines _).output, s.clockTick_touches.output]

theorem State.restart_law (hs : OutputLaw s) : OutputLaw s.restart := by
  have hrecords : s.restartRecords.output = s.output := by
    have hpages : OnlyTouches [.stories, .pages] s.restartHolds.restartLines.restartFit s.restartRecords :=
      .foldl State.restartPage_touches _ _
    rw [hpages.output, (State.restartFit_touches _).output]
    rfl
  have houtput : s.restart.output = s.output.restart := by
    rw [s.restart_eq]
    dsimp only
    rw [hrecords]
  obtain ⟨-, ha, hb, hentries, hspace⟩ := hs
  unfold OutputLaw State.entry
  rw [houtput]
  exact ⟨Nat.zero_le _, ha.restart, hb.restart, hentries, hspace⟩

theorem resetEntry_length (c : Nat) : (resetEntry c).length ≤ 2 := by
  unfold resetEntry
  split
  · exact (by decide : 1 ≤ 2)
  · exact Nat.zero_le _

/-- The output path at power reset, whatever the ready leads (R145, R166). -/
theorem outputLaw_of_reset {la lb : Bool} (h : s.output = { State.reset.output with
    portA := { SetterPort.reset with lead := la }, portB := { SetterPort.reset with lead := lb } }) : OutputLaw s := by
  unfold OutputLaw State.entry
  rw [h]
  refine ⟨Nat.zero_le _, SetterPort.reset_law _, SetterPort.reset_law _, fun e he => ?_, ?_⟩
  · simp only [State.reset] at he
    obtain ⟨i, hi, rfl⟩ := List.mem_iff_getElem.1 he
    simp only [Vector.getElem_toList, Vector.getElem_ofFn]
    exact resetEntry_length i
  · simp [State.reset, resetEntry]

theorem exec_outputLaw (i : Instr) (s t : State) (hs : OutputLaw s) (hstep : exec i s = .next t) : OutputLaw t := by
  have hchannel (s : State) (c : Channel) (h : OutputLaw s) : OutputLaw { s with channel := c } := h
  have hlines (s : State) (ls : Vector Line 32) (h : OutputLaw s) : OutputLaw { s with lines := ls } := h
  have hframe (h : Part.output ∉ i.reach) : OutputLaw t := hs.congr ((exec_frame hstep).output h)
  cases i
  case hostKill => exact hostStep_keeps hchannel (fun _ => State.hostKill_law) hs hstep
  case terminalKill => exact lineStep_keeps hlines (fun _ => State.lineKill_law) hs hstep
  case release => exact hostStep_keeps hchannel (fun _ => State.releasePage_law) hs hstep
  case cancel => exact hostStep_keeps hchannel (fun _ => State.cancel_law) hs hstep
  case xlate => exact hostStep_keeps hchannel (fun _ => State.loadXlate_law) hs hstep
  case portset => exact hostStep_keeps hchannel (fun _ => State.portset_law) hs hstep
  case porton => exact hostStep_keeps hchannel (fun _ => State.porton_law) hs hstep
  case portoff => exact hostStep_keeps hchannel (fun _ => State.portoff_law) hs hstep
  case resume => exact hostStep_keeps hchannel (fun _ => State.resumePort_law) hs hstep
  case portclr => exact hostStep_keeps hchannel (fun _ => State.portclr_law) hs hstep
  case codeAccepted p => cases hstep; exact State.acceptCode_law hs p
  case abortCodeSent p => exact execAbortCodeSent_law hs p hstep
  case readyLeadRise p => exact execReadyLeadRise_law hs p hstep
  case readyLeadFall p => exact execReadyLeadFall_law hs p hstep
  case fitCompletion => cases hstep; exact State.completeFit_law hs
  case resultDone p =>
    cases hstep
    split
    · exact State.completeJob_law hs p _
    · exact hs
  case resultFault p =>
    cases hstep
    split
    · exact State.failJob_law hs p _
    · exact hs
  case portLoss p =>
    cases hstep
    split
    · exact State.lossExpires_law hs p
    · exact hs
  case secondsTick =>
    have ht := Host.Outcome.next.inj ((execSecondsTick_eq s).symm.trans hstep)
    rw [← ht]
    exact State.secondsTick_law hs
  case restartTakesEffect =>
    have ht := Host.Outcome.next.inj hstep
    rw [← ht]
    split
    · exact State.restart_law hs
    · exact hs
  case powerReset => cases hstep; exact outputLaw_of_reset rfl
  all_goals exact hframe (of_decide_eq_true rfl)

end Law

/-- Settles O7: each operation on a port keeps the port's law, and a job joins a queue of fewer than 16 alone. -/
theorem outputLawKept : Obligations.OutputLawKept :=
  step_keeps (fun _ _ h => h) exec_outputLaw

end Sys2Proof.Machine

/-! The host channel (chapter 10): what a notice, an arrival, an answer and a sending do to the channel, and its law. -/

namespace Sys2Proof.Machine

/-! ### Notices (R184, R185) -/

/-- The kind and the object of a notice (R184): two notices stand for each other exactly when these agree. -/
def Notice.subject : Notice → Nat × Nat
  | .signon k _ => (0, k)
  | .line k _ _ => (1, k)
  | .orphan n _ _ => (2, n)
  | .arrival d _ => (3, d)
  | .fit g _ => (4, g)
  | .release g _ => (5, g)
  | .set g _ => (6, g)
  | .output p _ => (7, portCode p)
  | .edition _ _ _ => (8, 0)
  | .store _ => (9, 0)

theorem portCode_injective {p q : Port} : portCode p = portCode q ↔ p = q := by
  cases p <;> cases q <;> decide

theorem Notice.same_iff (m n : Notice) : m.same n = true ↔ m.subject = n.subject := by
  cases m <;> cases n <;> simp [Notice.same, Notice.subject, portCode_injective]

theorem Notice.same_eq_false (m n : Notice) : m.same n = false ↔ m.subject ≠ n.subject := by
  rw [← Bool.not_eq_true, Notice.same_iff]

namespace Channel
variable {c : Channel}

theorem raise_of_waiting {n : Notice} (h : ∃ m ∈ c.notices, m.subject = n.subject) :
    c.raise n = { c with notices := c.notices.map fun m => if m.same n then n else m } := by
  obtain ⟨m, hm, hsame⟩ := h
  rw [Channel.raise, if_pos (List.any_eq_true.2 ⟨m, hm, (Notice.same_iff m n).2 hsame⟩)]

theorem raise_of_new {n : Notice} (h : ∀ m ∈ c.notices, m.subject ≠ n.subject) (hroom : c.notices.length < Config.notices) :
    c.raise n = { c with notices := c.notices ++ [n] } := by
  have hnone : ¬ c.notices.any (fun m => m.same n) = true := by
    rw [List.any_eq_true]
    rintro ⟨m, hm, hsame⟩
    exact h m hm ((Notice.same_iff m n).1 hsame)
  rw [Channel.raise, if_neg hnone, if_pos hroom]

theorem raise_of_full {n : Notice} (h : ∀ m ∈ c.notices, m.subject ≠ n.subject) (hfull : ¬ c.notices.length < Config.notices) :
    c.raise n = { c with noticesLost := true } := by
  have hnone : ¬ c.notices.any (fun m => m.same n) = true := by
    rw [List.any_eq_true]
    rintro ⟨m, hm, hsame⟩
    exact h m hm ((Notice.same_iff m n).1 hsame)
  rw [Channel.raise, if_neg hnone, if_neg hfull]

/-- The three cases of a notice raised (R184, R185). -/
theorem raise_cases (c : Channel) (n : Notice) : (∃ m ∈ c.notices, m.subject = n.subject) ∨
    (∀ m ∈ c.notices, m.subject ≠ n.subject) := by
  by_cases h : ∃ m ∈ c.notices, m.subject = n.subject
  · exact .inl h
  · exact .inr fun m hm hsame => h ⟨m, hm, hsame⟩

end Channel

/-! ### The law of the channel -/

/-- The law of the channel interface, of its records alone (`channelLaw_iff`). -/
structure Channel.Law (c : Channel) : Prop where
  notices : c.notices.length ≤ Config.notices
  apart : c.notices.Pairwise fun m n => m.subject ≠ n.subject
  intake : c.intake.length ≤ Config.intake
  first : answeredFirst c.intake = true
  count : c.intake.countP (fun r => r.answered) = c.replies.countP (fun r => !r.overflow)
  busy : c.busyCount ≤ Config.intake

theorem channelLaw_iff {s : State} : ChannelLaw s ↔ s.channel.Law := by
  have hapart : s.channel.notices.Pairwise (fun m n => m.same n = false) ↔
      s.channel.notices.Pairwise fun m n => m.subject ≠ n.subject := by
    simp only [Notice.same_eq_false]
  unfold ChannelLaw
  dsimp only
  rw [hapart]
  exact ⟨fun ⟨h1, h2, h3, h4, h5, h6⟩ => ⟨h1, h2, h3, h4, h5, h6⟩, fun ⟨h1, h2, h3, h4, h5, h6⟩ => ⟨h1, h2, h3, h4, h5, h6⟩⟩

namespace Channel.Law
variable {c : Channel}

/-- The law of the requests and replies does not read the notices. -/
theorem of_notices (h : c.Law) {ns : List Notice} {lost : Bool} (hlength : ns.length ≤ Config.notices)
    (hapart : ns.Pairwise fun m n => m.subject ≠ n.subject) : Channel.Law { c with notices := ns, noticesLost := lost } :=
  ⟨hlength, hapart, h.intake, h.first, h.count, h.busy⟩

theorem raise (h : c.Law) (n : Notice) : (c.raise n).Law := by
  rcases c.raise_cases n with hwaiting | hnew
  · rw [Channel.raise_of_waiting hwaiting]
    refine h.of_notices (by rw [List.length_map]; exact h.notices) ?_
    have hkept (m : Notice) : (if m.same n = true then n else m).subject = m.subject := by
      split
      next hsame => exact ((Notice.same_iff m n).1 hsame).symm
      next => rfl
    rw [List.pairwise_map]
    simp only [hkept]
    exact h.apart
  · by_cases hroom : c.notices.length < Config.notices
    · rw [Channel.raise_of_new hnew hroom]
      refine h.of_notices (by rw [List.length_append]; exact hroom) ?_
      rw [List.pairwise_append]
      exact ⟨h.apart, List.pairwise_singleton _ _, fun m hm x hx => by rw [List.mem_singleton.1 hx]; exact hnew m hm⟩
    · rw [Channel.raise_of_full hnew hroom]
      exact h.of_notices h.notices h.apart

theorem foldl_raise (h : c.Law) (ns : List Notice) : (ns.foldl Channel.raise c).Law := by
  induction ns generalizing c with
  | nil => exact h
  | cons n ns ih => exact ih (h.raise n)

end Channel.Law

/-! ### The intake (R180, R181) -/

theorem answeredFirst_append {rs : List Request} (h : answeredFirst rs = true) (i : Instr) :
    answeredFirst (rs ++ [{ cmd := i, answered := false }]) = true := by
  induction rs with
  | nil => rfl
  | cons r rs ih =>
    cases hr : r.answered with
    | true =>
      simp only [answeredFirst, hr, if_true, List.cons_append] at h ⊢
      exact ih h
    | false => simpa [answeredFirst, hr] using h

/-- An intake whose first request is unanswered holds no answered one. -/
theorem answeredFirst_head {r : Request} {rs : List Request} (h : answeredFirst (r :: rs) = true) (hr : r.answered = false) :
    (r :: rs).countP (fun q => q.answered) = 0 := by
  simp only [answeredFirst, hr, Bool.false_eq_true, if_false, List.all_eq_true, Bool.not_eq_true'] at h
  rw [List.countP_eq_zero]
  intro q hq
  rcases List.mem_cons.1 hq with rfl | hq
  · simp [hr]
  · simp [h q hq]

theorem answeredFirst_tail {r : Request} {rs : List Request} (h : answeredFirst (r :: rs) = true) : answeredFirst rs = true := by
  cases hr : r.answered with
  | true => simpa [answeredFirst, hr] using h
  | false =>
    simp only [answeredFirst, hr, Bool.false_eq_true, if_false, List.all_eq_true, Bool.not_eq_true'] at h
    cases rs with
    | nil => rfl
    | cons q qs =>
      have hq : q.answered = false := h q List.mem_cons_self
      simp only [answeredFirst, hq, Bool.false_eq_true, if_false, List.all_eq_true, Bool.not_eq_true']
      exact fun p hp => h p (List.mem_cons_of_mem q hp)

theorem markAnswered_length (rs : List Request) : (markAnswered rs).length = rs.length := by
  induction rs with
  | nil => rfl
  | cons r rs ih =>
    unfold markAnswered
    split
    · rw [List.length_cons, List.length_cons, ih]
    · rfl

/-- Marking the first unanswered request keeps the answered ones first, and counts one more (R180). -/
theorem markAnswered_first {rs : List Request} (h : answeredFirst rs = true) : answeredFirst (markAnswered rs) = true := by
  induction rs with
  | nil => rfl
  | cons r rs ih =>
    unfold markAnswered
    split
    next hr =>
      simp only [answeredFirst, hr, if_true] at h ⊢
      exact ih h
    next =>
      simp only [answeredFirst, if_true]
      exact answeredFirst_tail h

theorem markAnswered_count {rs : List Request} (h : ∃ r ∈ rs, r.answered = false) :
    (markAnswered rs).countP (fun r => r.answered) = rs.countP (fun r => r.answered) + 1 := by
  induction rs with
  | nil => exact absurd h (by simp)
  | cons r rs ih =>
    unfold markAnswered
    split
    next hr =>
      obtain ⟨q, hq, hun⟩ := h
      have hq' : q ∈ rs := (List.mem_cons.1 hq).resolve_left fun e => by rw [← e, hun] at hr; exact absurd hr (by decide)
      rw [List.countP_cons, List.countP_cons, ih ⟨q, hq', hun⟩, if_pos hr]
    next hr => simp [hr]

theorem Channel.oldest_mem {c : Channel} {i : Instr} (h : c.oldest = some i) : ∃ r ∈ c.intake, r.answered = false := by
  unfold Channel.oldest at h
  obtain ⟨r, hr, -⟩ := Option.map_eq_some_iff.1 h
  have hun := List.find?_some hr
  exact ⟨r, List.mem_of_find?_eq_some hr, by simpa using hun⟩

/-- Marking every request answered. -/
theorem answeredFirst_of_all {rs : List Request} (h : ∀ r ∈ rs, r.answered = true) : answeredFirst rs = true := by
  induction rs with
  | nil => rfl
  | cons r rs ih =>
    simp only [answeredFirst, h r List.mem_cons_self, if_true]
    exact ih fun q hq => h q (List.mem_cons_of_mem r hq)

namespace Channel.Law
variable {c : Channel}

/-- The law does not read the receiver, the transmitter, the link error latch or the RESTART that stands. -/
theorem congr {d : Channel} (h : c.Law) (hnotices : d.notices = c.notices) (hintake : d.intake = c.intake)
    (hreplies : d.replies = c.replies) : d.Law := by
  obtain ⟨h1, h2, h3, h4, h5, h6⟩ := h
  unfold Channel.busyCount at h6
  exact ⟨hnotices ▸ h1, hnotices ▸ h2, hintake ▸ h3, hintake ▸ h4, by rw [hintake, hreplies]; exact h5,
    by unfold Channel.busyCount; rw [hreplies]; exact h6⟩

theorem enqueue (h : c.Law) (i : Instr) : (c.enqueue i).Law := by
  unfold Channel.enqueue
  split
  next hroom =>
    refine ⟨h.notices, h.apart, by rw [List.length_append]; exact hroom, answeredFirst_append h.first i, ?_, h.busy⟩
    rw [List.countP_append, h.count]
    rfl
  next =>
    split
    next hroom =>
      refine ⟨h.notices, h.apart, h.intake, h.first, ?_, ?_⟩
      · rw [Channel.pushReply, List.countP_append, h.count]
        rfl
      · unfold Channel.busyCount at hroom ⊢
        rw [Channel.pushReply, List.countP_append]
        exact hroom
    next => exact h.congr rfl rfl rfl

theorem answer (h : c.Law) (holdest : ∃ r ∈ c.intake, r.answered = false) (j : Instr) (st : Status)
    (d : List Byte) : (c.answer j st d).Law := by
  refine ⟨h.notices, h.apart, (markAnswered_length c.intake).le.trans h.intake, markAnswered_first h.first, ?_, ?_⟩
  · rw [Channel.answer, List.countP_append, markAnswered_count holdest, h.count]
    rfl
  · have hbusy := h.busy
    unfold Channel.busyCount at hbusy ⊢
    rw [Channel.answer, List.countP_append]
    exact hbusy

theorem beginRestart (h : c.Law) {i : Instr} (holdest : ∃ r ∈ c.intake, r.answered = false) : (c.beginRestart i).Law := by
  obtain ⟨h1, h2, h3, -, h5, h6⟩ := h.answer holdest i .done []
  have hall : ∀ r ∈ (c.answer i .done []).intake.map fun r => ({ r with answered := true } : Request), r.answered = true := by
    intro r hr
    obtain ⟨q, -, rfl⟩ := List.mem_map.1 hr
    rfl
  have hovertaken (rs : List Request) : (rs.map overtaken).countP (fun r => !r.overflow) = rs.length ∧
      (rs.map overtaken).countP (fun r => r.overflow) = 0 := by
    rw [List.countP_map, List.countP_map]
    exact ⟨List.countP_eq_length.2 fun _ _ => rfl, List.countP_eq_zero.2 fun _ _ => Bool.false_ne_true⟩
  have hsplit (rs : List Request) : rs.countP (fun r => r.answered) + (rs.filter fun r => !r.answered).length = rs.length := by
    rw [← List.countP_eq_length_filter, List.length_eq_countP_add_countP (fun r : Request => r.answered)]
    simp
  unfold Channel.beginRestart
  refine ⟨h1, h2, by dsimp only; rw [List.length_map]; exact h3, answeredFirst_of_all hall, ?_, ?_⟩
  · rw [List.countP_eq_length.2 hall, List.length_map, List.countP_append, ← h5, (hovertaken _).1, hsplit]
  · unfold Channel.busyCount at h6 ⊢
    rw [List.countP_append, (hovertaken _).2]
    exact h6

theorem linkFault (h : c.Law) (rx : Option HostRx) : (c.linkFault rx).Law := h.congr rfl rfl rfl

theorem collect (h : c.Law) (bs : List Byte) : (c.collect bs).Law := by
  unfold Channel.collect
  split
  · exact h.linkFault none
  · exact h.congr rfl rfl rfl

theorem endFrame (h : c.Law) (bs : List Byte) : (c.endFrame bs).Law := by
  have hfree : Channel.Law { c with rx := none } := h.congr rfl rfl rfl
  unfold Channel.endFrame
  split
  · dsimp only
    split
    · exact hfree
    · exact hfree.enqueue _
  · exact h.linkFault none

theorem receive (h : c.Law) (b : Byte) : (c.receive b).Law := by
  unfold Channel.receive
  split
  · split
    · exact h.congr rfl rfl rfl
    · exact h
  · split
    · split
      · exact h.collect _
      · exact h.linkFault _
    · split
      · exact h.linkFault _
      · split
        · exact h.endFrame _
        · split
          · exact h.congr rfl rfl rfl
          · exact h.collect _

theorem foldl_receive (h : c.Law) (bs : List Byte) : (bs.foldl Channel.receive c).Law := by
  induction bs generalizing c with
  | nil => exact h
  | cons b bs ih => exact ih (h.receive b)

/-- The sending of a reply frees its request's place, or its BUSY's (R180, R181). -/
theorem sendReply (h : c.Law) {r : Reply} {rest : List Reply} (hreplies : c.replies = r :: rest) :
    (c.sendReply r rest).Law := by
  obtain ⟨h1, h2, h3, h4, h5, h6⟩ := h
  unfold Channel.busyCount at h6
  rw [hreplies, List.countP_cons] at h5 h6
  cases hover : r.overflow with
  | true =>
    refine ⟨h1, h2, ?_, ?_, ?_, ?_⟩ <;> simp only [Channel.sendReply, hover, if_true]
    · exact h3
    · exact h4
    · simpa [hover] using h5
    · exact (Nat.le_add_right _ _).trans h6
  | false =>
    have hcount : c.intake.countP (fun r => r.answered) = rest.countP (fun r => !r.overflow) + 1 := by simpa [hover] using h5
    cases hintake : c.intake with
    | nil => rw [hintake] at hcount; exact absurd hcount (by simp)
    | cons q qs =>
      rw [hintake] at h3 h4 hcount
      have hanswered : q.answered = true := by
        by_contra hun
        rw [answeredFirst_head h4 (by simpa using hun)] at hcount
        omega
      refine ⟨h1, h2, ?_, ?_, ?_, ?_⟩ <;>
        simp only [Channel.sendReply, hover, hintake, List.drop_succ_cons, List.drop_zero, Bool.false_eq_true, if_false]
      · exact (Nat.le_succ _).trans h3
      · exact answeredFirst_tail h4
      · rw [List.countP_cons, if_pos hanswered] at hcount
        omega
      · exact (Nat.le_add_right _ _).trans h6

theorem reset (rx : Option HostRx) : Channel.Law { Channel.reset with rx := rx } :=
  ⟨Nat.zero_le _, List.Pairwise.nil, Nat.zero_le _, rfl, rfl, Nat.zero_le _⟩

end Channel.Law

/-! ### The law kept -/

section Kept
variable {s t : State}

theorem State.raises_law (hs : s.channel.Law) (h : s.keeps t .channel) : t.channel.Law := by
  obtain ⟨ns, hns⟩ := h.2.2.2.2
  rw [hns]
  exact hs.foldl_raise ns

theorem State.offer_law (hs : s.channel.Law) (i : Instr) : (s.offer i).channel.Law := by
  unfold State.offer
  split
  · exact hs
  · split
    · exact hs
    · exact hs.enqueue i

/-- The commands whose own rule or event writes the channel, beyond raising notices. -/
theorem Instr.channel_mem_moves {i : Instr} (h : .channel ∈ i.moves) :
    (∃ f, i = .hostFrameDiscarded f) ∨ (∃ bs, i = .requestArrival bs) ∨ i = .hostFrameSent ∨ (∃ tag, i = .sweep tag) ∨
      i = .restartTakesEffect ∨ i = .powerReset := by
  cases i <;> simp [Instr.moves] at h ⊢

theorem Instr.channel_mem_shifts {i : Instr} (h : .channel ∈ i.shifts) : i.fromHost = true ∨ .channel ∈ i.moves := by
  unfold Instr.shifts at h
  split at h
  · exact .inr (by simpa using h)
  · split at h
    next hhost => exact .inl hhost
    next => exact .inr h

/-- A rule raises notices at most, or is SWEEP, which clears the two latches of the channel (R186). -/
theorem State.rule_channel (i : Instr) (hs : s.channel.Law) :
    (s.rule i).2.2.channel.Law ∧ (s.rule i).2.2.channel.intake = s.channel.intake := by
  by_cases hsweep : .channel ∈ i.moves
  · rcases Instr.channel_mem_moves hsweep with ⟨f, rfl⟩ | ⟨bs, rfl⟩ | rfl | ⟨tag, rfl⟩ | rfl | rfl
    case inr.inr.inr.inl => exact ⟨hs.congr rfl rfl rfl, rfl⟩
    all_goals exact ⟨hs, rfl⟩
  · have hkeeps := s.rule_moves i _ hsweep
    refine ⟨State.raises_law hs hkeeps, ?_⟩
    obtain ⟨ns, hns⟩ := hkeeps.2.2.2.2
    rw [hns]
    exact (Channel.foldl_raise_frame ns s.channel).1

theorem hostStep_law {i : Instr} (hs : s.channel.Law) (h : hostStep i (fun s => s.rule i) s = .next t) : t.channel.Law := by
  cases h
  unfold State.serveHost
  split
  next htakes =>
    obtain ⟨hlaw, hintake⟩ := State.rule_channel i (State.offer_law hs i)
    refine hlaw.answer ?_ i _ _
    rw [hintake]
    exact Channel.oldest_mem (State.takes_oldest htakes)
  next => exact State.offer_law hs i

theorem execHostFrameSent_law (hs : s.channel.Law) (h : execHostFrameSent s = .next t) : t.channel.Law := by
  unfold execHostFrameSent at h
  split at h
  next _ r rest hreplies =>
    cases h
    exact hs.sendReply hreplies
  next n ns _ hnotices =>
    split at h
    · cases h
      exact hs.congr rfl rfl rfl
    · cases h
      obtain ⟨h1, h2, h3, h4, h5, h6⟩ := hs
      rw [hnotices] at h1 h2
      exact ⟨(Nat.le_succ _).trans h1, h2.of_cons, h3, h4, h5, h6⟩
  next =>
    cases h
    exact hs.congr rfl rfl rfl

theorem execRestart_law {tag : Byte} (hs : s.channel.Law) (h : execRestart tag s = .next t) : t.channel.Law := by
  unfold execRestart at h
  dsimp only at h
  split at h
  next htakes =>
    cases h
    exact (State.offer_law hs _).beginRestart (Channel.oldest_mem (State.takes_oldest htakes))
  next =>
    cases h
    exact State.offer_law hs _

theorem execRestartTakesEffect_law (hs : s.channel.Law) (h : execRestartTakesEffect s = .next t) : t.channel.Law := by
  rw [← Host.Outcome.next.inj h]
  split
  · rw [State.restart_eq]
    exact .reset _
  · exact hs

theorem exec_channel_law {i : Instr} (hs : s.channel.Law) (h : exec i s = .next t) : t.channel.Law := by
  by_cases hkept : .channel ∈ i.shifts
  · rcases Instr.channel_mem_shifts hkept with hhost | hmoves
    · by_cases hrestart : ∃ tag, i = .restart tag
      · obtain ⟨tag, rfl⟩ := hrestart
        exact execRestart_law hs h
      · rw [exec_fromHost hhost (fun tag e => hrestart ⟨tag, e⟩)] at h
        exact hostStep_law hs h
    · rcases Instr.channel_mem_moves hmoves with ⟨f, rfl⟩ | ⟨bs, rfl⟩ | rfl | ⟨tag, rfl⟩ | rfl | rfl
      · cases h
        exact hs.linkFault _
      · cases h
        exact hs.foldl_receive bs
      · exact execHostFrameSent_law hs h
      · exact hostStep_law hs h
      · exact execRestartTakesEffect_law hs h
      · cases h
        exact .reset none
  · exact State.raises_law hs (exec_keeps h hkept)

end Kept

/-- Settles O4: each event of the channel keeps its law, and every other command does no more to the channel than raise notices. -/
theorem channelLawKept : Obligations.ChannelLawKept := by
  refine step_keeps (P := ChannelLaw) (fun _ _ => id) fun i s t hs hstep => ?_
  exact channelLaw_iff.2 (exec_channel_law (channelLaw_iff.1 hs) hstep)

/-- Settles O18: the waiting notice of one kind and object stands at one place of the queue, as the law has it. -/
theorem noticeRaised : Obligations.NoticeRaised := by
  intro s n hlaw
  have hnone (h : ∀ m ∈ s.channel.notices, m.same n = false) : ∀ m ∈ s.channel.notices, m.subject ≠ n.subject :=
    fun m hm => (Notice.same_eq_false m n).1 (h m hm)
  refine ⟨fun before m after hsplit hsame => ?_, fun h hroom => Channel.raise_of_new (hnone h) hroom,
    fun h hfull => Channel.raise_of_full (hnone h) (Nat.not_lt.2 hfull)⟩
  have hsubject := (Notice.same_iff m n).1 hsame
  have hapart := (channelLaw_iff.1 hlaw).apart
  rw [hsplit, List.pairwise_append, List.pairwise_cons] at hapart
  obtain ⟨-, ⟨hafter, -⟩, hbefore⟩ := hapart
  have hstay (x : Notice) (hx : x.subject ≠ m.subject) : (if x.same n then n else x) = x :=
    if_neg (by rw [Notice.same_iff, ← hsubject]; exact hx)
  rw [Channel.raise_of_waiting ⟨m, by rw [hsplit]; simp, hsubject⟩, hsplit, List.map_append, List.map_cons, if_pos hsame,
    List.map_congr_left (g := id) fun x hx => hstay x (hbefore x hx m List.mem_cons_self),
    List.map_congr_left (g := id) fun x hx => hstay x (hafter x hx).symm, List.map_id, List.map_id]

end Sys2Proof.Machine

/-! The requests that read: INFO, BASKET, PAGEINFO, PORTSTAT, QUEUE, CLKREAD, SWEEP, IDENT, and the job's count. -/

namespace Sys2Proof.Machine

/-! ### The records a host request's block finds (R180) -/

section Found
variable (s : State) (i : Instr)

@[simp] theorem State.stories_offer : (s.offer i).stories = s.stories := (s.offer_touches i).stories
@[simp] theorem State.desks_offer : (s.offer i).desks = s.desks := (s.offer_touches i).desks
@[simp] theorem State.store_offer : (s.offer i).store = s.store := (s.offer_touches i).store
@[simp] theorem State.orphanWindow_offer : (s.offer i).orphanWindow = s.orphanWindow := (s.offer_touches i).orphanWindow
@[simp] theorem State.lines_offer : (s.offer i).lines = s.lines := (s.offer_touches i).lines
@[simp] theorem State.flashes_offer : (s.offer i).flashes = s.flashes := (s.offer_touches i).flashes
@[simp] theorem State.fit_offer : (s.offer i).fit = s.fit := (s.offer_touches i).fit
@[simp] theorem State.pages_offer : (s.offer i).pages = s.pages := (s.offer_touches i).pages
@[simp] theorem State.output_offer : (s.offer i).output = s.output := (s.offer_touches i).output
@[simp] theorem State.clock_offer : (s.offer i).clock = s.clock := (s.offer_touches i).clock
@[simp] theorem State.choices_offer : (s.offer i).choices = s.choices := (s.offer_touches i).choices
@[simp] theorem State.story_offer (n : Nat) : (s.offer i).story n = s.story n := (s.offer_touches i).story n
@[simp] theorem State.desk_offer (d : Nat) : (s.offer i).desk d = s.desk d := (s.offer_touches i).desk d
@[simp] theorem State.line_offer (k : Nat) : (s.offer i).line k = s.line k := (s.offer_touches i).line k
@[simp] theorem State.page_offer (g : Nat) : (s.offer i).page g = s.page g := (s.offer_touches i).page g
@[simp] theorem State.port_offer (p : Port) : (s.offer i).port p = s.port p := (s.offer_touches i).port p

end Found

/-- A host request that its block answers from the records as they stand. -/
theorem host_read {s : State} {i : Instr} {act : State → Verdict} {st : Status} {d : List Byte} (htakes : s.takes i = true)
    (hact : act (s.offer i) = (st, d, s.offer i)) :
    ∃ t, hostStep i act s = .next t ∧ Replied i st d s t ∧ Raised [] s t ∧ OnlyTouches [.channel] s t := by
  obtain ⟨t, hstep, hreply, hraised, htouch, -⟩ :=
    host_served (ns := []) (ps := [.channel]) htakes hact rfl (.refl _ _) (by decide)
  exact ⟨t, hstep, hreply, hraised, htouch⟩

section Read
variable {s : State}

theorem pageOk_iff (g : Nat) : pageOk g = true ↔ 1 ≤ g ∧ g ≤ 48 := by
  simp only [pageOk, within, Bool.and_eq_true, decide_eq_true_eq]
  exact Iff.rfl

theorem State.infoOf_of_made {n : Nat} (hn : 1 ≤ n ∧ n ≤ 512) (hstage : (s.story n).stage ≠ .free) :
    s.infoOf n = (.done, infoBytes n (s.story n), s) := by
  simp [State.infoOf, (storyOk_iff n).2 hn, hstage]

theorem State.basketOf_of_named {desk list p : Nat} {stories : List Nat} (hdesk : desk < 16)
    (hnamed : (s.desk desk).named list = some stories) (hp : p ≤ stories.length) :
    s.basketOf desk list p = (.done, u8 desk ++ u8 list ++ u16 stories.length ++ u16 (s.desk desk).urgent ++ u16 p
      ++ u8 ((stories.drop p).take 120).length
      ++ ((stories.drop p).take 120).flatMap fun n => basketEntryBytes n (s.story n), s) := by
  simp [State.basketOf, hnamed, (deskOk_iff desk).2 (Nat.le_of_lt_succ hdesk), Nat.not_lt.2 hp, Config.basketEntries]

theorem State.pageinfo_of_ok {g : Nat} (hg : 1 ≤ g ∧ g ≤ 48) : s.pageinfo g = (.done, pageBytes s g, s) := by
  simp [State.pageinfo, (pageOk_iff g).2 hg]

theorem State.portstat_of_code {port : Nat} {p : Port} (hp : portOfCode port = some p) :
    s.portstat port = (.done, portBytes (s.port p), s) := by
  simp [State.portstat, hp]

/-- A page's details read no channel. -/
theorem pageBytes_offer (i : Instr) (g : Nat) : pageBytes (s.offer i) g = pageBytes s g := by
  rw [s.offer_eq i]
  rfl

end Read

/-- Settles O52: each of the six requests is answered by its block from the records as they stand. -/
theorem recordsRead : Obligations.RecordsRead := by
  intro s i details hread htakes
  have hserved : i.fromHost = true ∧ (∀ tag, i ≠ .restart tag) ∧
      (s.offer i).rule i = (.done, details, s.offer i) := by
    rcases hread with ⟨tag, n, rfl, hlow, hhigh, hstage, rfl⟩ | ⟨tag, desk, list, p, stories, rfl, hdesk, hlist, hp, rfl⟩ |
      ⟨tag, g, rfl, hlow, hhigh, rfl⟩ | ⟨tag, port, p, rfl, hport, rfl⟩ | ⟨tag, rfl, rfl⟩ | ⟨tag, rfl, rfl⟩
    · refine ⟨rfl, nofun, ?_⟩
      rw [State.rule, State.infoOf_of_made ⟨hlow, hhigh⟩ (by simpa using hstage), State.story_offer]
    · refine ⟨rfl, nofun, ?_⟩
      have hnamed : ((s.offer (.basket tag desk list p)).desk desk).named list = some stories := by
        rcases hlist with ⟨rfl, rfl⟩ | ⟨rfl, rfl⟩ <;> simp [Desk.named]
      rw [State.rule, State.basketOf_of_named hdesk hnamed hp]
      simp
    · refine ⟨rfl, nofun, ?_⟩
      rw [State.rule, State.pageinfo_of_ok ⟨hlow, hhigh⟩, pageBytes_offer]
    · refine ⟨rfl, nofun, ?_⟩
      rw [State.rule, State.portstat_of_code hport, State.port_offer]
    · refine ⟨rfl, nofun, ?_⟩
      simp [State.rule, queueBytes]
    · refine ⟨rfl, nofun, ?_⟩
      simp [State.rule, clockBytes]
  obtain ⟨hhost, hrestart, hrule⟩ := hserved
  rw [exec_fromHost hhost hrestart]
  exact host_read (act := fun s => s.rule i) htakes hrule

/-- The bytes of IDENT's reply (R187). -/
theorem identBytes_eq : identBytes = u16 3200 ++ u8 1 ++ u8 32 ++ u8 16 ++ u16 512 ++ u16 8192 ++ u16 256 ++ u8 32 ++ u8 8
    ++ u8 48 ++ u8 16 ++ u8 16 ++ u16 512 ++ u8 8 ++ u8 48 ++ u8 4 ++ u8 15 := by
  rfl

/-- A request its block takes stood in the intake, or has joined it (R180, R181). -/
theorem State.offer_taken {s : State} {i : Instr} (htakes : s.takes i = true) : (s.offer i).channel = s.channel ∨
    (s.offer i).channel = { s.channel with intake := s.channel.intake ++ [{ cmd := i, answered := false }] } := by
  have holdest := State.takes_oldest htakes
  unfold State.offer at holdest ⊢
  split at holdest
  next hrestarting => exact .inl (by rw [if_pos hrestarting])
  next hrestarting =>
    rw [if_neg hrestarting]
    split at holdest
    next hfirst => exact .inl (by rw [if_pos hfirst])
    next hfirst =>
      rw [if_neg hfirst]
      unfold Channel.enqueue at holdest ⊢
      dsimp only at holdest ⊢
      split at holdest
      next hroom => exact .inr (if_pos hroom)
      next =>
        split at holdest
        · exact absurd holdest hfirst
        · exact absurd holdest hfirst

theorem State.offer_linkError {s : State} {i : Instr} (htakes : s.takes i = true) :
    (s.offer i).channel.linkError = s.channel.linkError := by
  rcases State.offer_taken htakes with h | h <;> rw [h]

/-- SWEEP's summary reads of the channel what a request that is taken leaves there. -/
theorem sweepBytes_offer {s : State} {i : Instr} (htakes : s.takes i = true) : sweepBytes (s.offer i) = sweepBytes s := by
  unfold sweepBytes State.inStage
  rw [State.lines_offer, State.stories_offer, State.store_offer, State.fit_offer,
    State.output_offer, State.clock_offer, State.offer_notices, State.offer_noticesLost, State.offer_linkError htakes]

/-- Settles O59: SWEEP's effect is the model's, and IDENT and an unknown word touch no record. -/
theorem sweepIdentAndUnknown : Obligations.SweepIdentAndUnknown := by
  refine ⟨fun s tag htakes => ?_, fun s tag htakes => ?_, fun s tag kind htakes => ?_⟩
  · have hstep : exec (.sweep tag) s = .next { (s.offer (.sweep tag)).sweep.2.2 with
        channel := (s.offer (.sweep tag)).sweep.2.2.channel.answer (.sweep tag) .done (sweepBytes s) } := by
      rw [← sweepBytes_offer htakes]
      exact congrArg Host.Outcome.next (if_pos htakes)
    refine ⟨_, hstep, ?_, rfl⟩
    exact ((s.offer_touches _).trans (State.setChannel_touches _ _) (by decide)).trans (State.setChannel_touches _ _)
      (by decide)
  · obtain ⟨t, hstep, hreply, hraised, htouch⟩ := host_read (act := fun s => (.done, identBytes, s)) htakes rfl
    exact ⟨t, hstep, htouch, hraised, identBytes_eq ▸ hreply⟩
  · obtain ⟨t, hstep, hraised, hreply, htouch⟩ := host_refused (act := fun s => refuse s .badField) htakes rfl
    exact ⟨t, hstep, htouch, hraised, hreply⟩

section Count
variable (s : State)

theorem State.itemCodes_count (it : Item) : (s.itemCodes it).length = s.itemCount it + 3 * if it.isSelect then 1 else 0 := by
  cases it <;> rfl

theorem State.lineUnits_count (l : SetLine) :
    (s.lineUnits l).flatten.length = s.lineCount l + 3 * l.items.countP Item.isSelect := by
  have hitems (is : List Item) :
      (is.map s.itemCodes).flatten.length = (is.map s.itemCount).sum + 3 * is.countP Item.isSelect := by
    induction is with
    | nil => rfl
    | cons it is ih =>
      simp only [List.map_cons, List.flatten_cons, List.length_append, List.sum_cons, List.countP_cons, ih, s.itemCodes_count]
      ring
  rw [State.lineUnits, List.flatten_append, List.length_append, hitems, State.lineCount]
  exact Nat.add_right_comm _ _ 1

theorem State.storyUnits_count (n : Nat) : (s.storyUnits n).flatten.length = s.storyCount n := by
  have hlines (ls : List SetLine) : (ls.flatMap s.lineUnits).flatten.length =
      (ls.map s.lineCount).sum + 3 * (ls.map fun l => l.items.countP Item.isSelect).sum := by
    induction ls with
    | nil => rfl
    | cons l ls ih =>
      simp only [List.flatMap_cons, List.flatten_append, List.length_append, List.map_cons, List.sum_cons, ih, s.lineUnits_count]
      ring
  simp only [State.storyUnits, State.storyCount, List.flatten_cons, List.length_append, hlines]
  have hselect : (s.selectCodes (s.story n).style).length = 3 := rfl
  rw [hselect]
  simp only [List.length_cons, List.length_nil]
  ring

end Count

/-- Settles O45: item by item, line by line and story by story the count is the number of codes sent. -/
theorem jobTotalCountsItsCodes : Obligations.JobTotalCountsItsCodes := by
  intro s g
  have hstories (ns : List Nat) : (ns.flatMap s.storyUnits).flatten.length = (ns.map s.storyCount).sum := by
    induction ns with
    | nil => rfl
    | cons n ns ih =>
      simp only [List.flatMap_cons, List.flatten_append, List.length_append, List.map_cons, List.sum_cons, ih, s.storyUnits_count]
  simp only [State.jobTotal, State.jobUnits, List.cons_append, List.flatten_cons, List.flatten_append, List.length_append, hstories]
  simp only [Page.header, List.length_cons, List.length_nil, List.flatten_nil, List.append_nil]
  ring

end Sys2Proof.Machine

/-! What the requests and events of the edition clock come to (chapter 9): the clock's fields, the notices, and the lines told. -/

namespace Sys2Proof.Machine

/-! ### The channel apart -/

/-- The state with another channel. -/
def State.withChannel (s : State) (c : Channel) : State := { s with channel := c }

section WithChannel
variable (s : State) (c : Channel)

@[simp] theorem State.withChannel_stories : (s.withChannel c).stories = s.stories := rfl
@[simp] theorem State.withChannel_desks : (s.withChannel c).desks = s.desks := rfl
@[simp] theorem State.withChannel_store : (s.withChannel c).store = s.store := rfl
@[simp] theorem State.withChannel_orphanWindow : (s.withChannel c).orphanWindow = s.orphanWindow := rfl
@[simp] theorem State.withChannel_lines : (s.withChannel c).lines = s.lines := rfl
@[simp] theorem State.withChannel_flashes : (s.withChannel c).flashes = s.flashes := rfl
@[simp] theorem State.withChannel_fit : (s.withChannel c).fit = s.fit := rfl
@[simp] theorem State.withChannel_pages : (s.withChannel c).pages = s.pages := rfl
@[simp] theorem State.withChannel_output : (s.withChannel c).output = s.output := rfl
@[simp] theorem State.withChannel_clock : (s.withChannel c).clock = s.clock := rfl
@[simp] theorem State.withChannel_story (n : Nat) : (s.withChannel c).story n = s.story n := by cases n <;> rfl
@[simp] theorem State.withChannel_desk (d : Nat) : (s.withChannel c).desk d = s.desk d := rfl
@[simp] theorem State.withChannel_line (k : Nat) : (s.withChannel c).line k = s.line k := rfl
@[simp] theorem State.withChannel_page (g : Nat) : (s.withChannel c).page g = s.page g := by cases g <;> rfl
@[simp] theorem State.withChannel_port (p : Port) : (s.withChannel c).port p = s.port p := by cases p <;> rfl
@[simp] theorem State.withChannel_lampLit (k : Nat) (l : Line) : (s.withChannel c).lampLit k l = s.lampLit k l := rfl
@[simp] theorem State.withChannel_statusLine (k : Nat) (u : SignedOn) (w : Option Nat) :
    (s.withChannel c).statusLine k u w = s.statusLine k u w := rfl
@[simp] theorem State.withChannel_judgement (p : Page) : (s.withChannel c).judgement p = s.judgement p := rfl

end WithChannel

/-- A host request its block takes: its verdict, the reply, and the records as the rule leaves them. -/
theorem host_effect {s : State} {i : Instr} {act : State → Verdict} {st : Status} {d : List Byte} {v : State}
    {ns : List Notice} {ps : List Part} (htakes : s.takes i = true) (hact : act (s.offer i) = (st, d, v))
    (hnotices : v.channel = ns.foldl Channel.raise (s.offer i).channel) (htouch : OnlyTouches ps (s.offer i) v)
    (hps : Part.channel ∈ ps) :
    ∃ t c, hostStep i act s = .next t ∧ Replied i st d s t ∧ Raised ns s t ∧ OnlyTouches ps s t ∧ t = v.withChannel c := by
  obtain ⟨t, hstep, hreply, hraised, htouches, c, ht⟩ := host_served htakes hact hnotices htouch hps
  exact ⟨t, c, hstep, hreply, hraised, htouches, ht⟩

/-! ### What a line shows depends on (R93, R98) -/

section Shown
variable {s t : State}

theorem State.newestUnseen_congr (h : t.flashes = s.flashes) (k : Nat) : t.newestUnseen k = s.newestUnseen k := by
  rw [State.newestUnseen, State.newestUnseen, h]

theorem State.desk_congr (h : t.desks = s.desks) (d : Nat) : t.desk d = s.desk d := by
  rw [State.desk, State.desk, h]

theorem State.statusLine_congr (hdesks : t.desks = s.desks) (hflashes : t.flashes = s.flashes) (hclock : t.clock = s.clock)
    (k : Nat) (u : SignedOn) (w : Option Nat) : t.statusLine k u w = s.statusLine k u w := by
  simp only [State.statusLine, State.desk_congr hdesks, State.newestUnseen_congr hflashes, hclock]

theorem State.lampLit_congr (hstories : t.stories = s.stories) (hdesks : t.desks = s.desks) (hflashes : t.flashes = s.flashes)
    (hclock : t.clock = s.clock) (k : Nat) (l : Line) : t.lampLit k l = s.lampLit k l := by
  simp only [State.lampLit, State.story_congr hstories, State.desk_congr hdesks, hflashes, hclock]

end Shown

/-! ### A clock event told (R94, R99, R171) -/

section Clock
variable {s u : State}

theorem State.line_clockEvent (s : State) {k : Nat} (hk : k < 32) :
    s.clockEvent.line k = { s.line k with
      status := if (s.line k).state = .ready then ((s.line k).user.map fun u => s.statusLine k u (s.line k).withdrawn).or
        (s.line k).status else (s.line k).status
      lamp := if (s.line k).lampSource = .deadline then s.lampLit k (s.line k) else (s.line k).lamp } := by
  have hstatus : s.refreshAll.line k = { s.line k with
      status := if (s.line k).state = .ready then ((s.line k).user.map fun u => s.statusLine k u (s.line k).withdrawn).or
        (s.line k).status else (s.line k).status } := by
    rw [State.refreshAll, State.line_refresh]
    by_cases hready : (s.line k).state = .ready
    · rw [if_pos ⟨hk, hready, rfl⟩, State.withStatus_eq, if_pos hready]
    · rw [if_neg fun h => hready h.2.1, if_neg hready]
  rw [State.clockEvent, State.lampsDeadline, State.line_lamps, hstatus]
  by_cases hsource : (s.line k).lampSource = .deadline
  · rw [if_pos ⟨hk, by simpa using hsource⟩]
    simp only [if_pos hsource]
    rfl
  · rw [if_neg fun h => hsource (by simpa using h.2)]
    simp only [if_neg hsource]

theorem ClockTold.withChannel {t : State} (h : ClockTold s t) (c : Channel) : ClockTold s (t.withChannel c) := h

theorem ClockTold.of_lines {t : State} (h : ClockTold u t) (hlines : u.lines = s.lines) : ClockTold s t := by
  have hline (k : Nat) : u.line k = s.line k := by rw [State.line, State.line, hlines]
  simpa only [ClockTold, hline] using h

theorem clockEvent_told (hlines : u.lines = s.lines) : ClockTold s u.clockEvent := by
  intro k hk
  have hline : u.line k = s.line k := by rw [State.line, State.line, hlines]
  have hstatus (w : SignedOn) (n : Option Nat) : u.clockEvent.statusLine k w n = u.statusLine k w n :=
    State.statusLine_congr rfl rfl rfl k w n
  have hlit (l : Line) : u.clockEvent.lampLit k l = u.lampLit k l := State.lampLit_congr rfl rfl rfl rfl k l
  rw [State.line_clockEvent u hk, hline]
  refine ⟨rfl, ?_, ?_⟩
  · by_cases hready : (s.line k).state = .ready
    · cases (s.line k).user with
      | none => simp
      | some w => simp [hready, hstatus]
    · simp [hready]
  · simp only [hlit]
    rfl

/-- The near warning's notice, where it is due (R168, R171). -/
def Clock.nearNotices (c : Clock) : List Notice := if c.nearDue = true then [.edition .near c.edition c.count] else []

theorem Clock.nearNotices_eq (c : Clock) : c.nearNotices =
    if (c.threshold ≠ 0 ∧ c.count ≤ c.threshold) ∧ c.fired = false then [.edition .near c.edition c.count] else [] := by
  simp [Clock.nearNotices, Clock.nearDue]

theorem State.warnNear_channel (s : State) : s.warnNear.channel = s.clock.nearNotices.foldl Channel.raise s.channel := by
  unfold State.warnNear Clock.nearNotices
  split <;> rfl

theorem State.warnNear_lines (s : State) : s.warnNear.lines = s.lines := s.warnNear_touches.lines

theorem State.switchEdition_channel (s : State) (c : Nat) : (s.switchEdition c).channel =
    (switchNotices (s.clock.edition + 1) c s.clock.threshold).foldl Channel.raise s.channel := by
  rw [State.switchEdition, State.clockEvent_touches _ |>.channel, State.warnNear_channel, Clock.nearNotices_eq]
  simp [switchNotices, State.raiseEdition]

theorem State.switchEdition_told (s : State) (c : Nat) : ClockTold s (s.switchEdition c) :=
  clockEvent_told (State.warnNear_lines _)

theorem State.terminalCount_told (s : State) : ClockTold s s.terminalCount := by
  unfold State.terminalCount
  split
  · exact s.switchEdition_told _
  · exact clockEvent_told rfl

end Clock

/-- Settles O57: the terminal count makes the pending switch or begins OVERDUE, and is told to the lines. -/
theorem terminalCountSwitchesEdition : Obligations.TerminalCountSwitchesEdition := by
  intro s hrunning hcount
  refine ⟨s.terminalCount, congrArg _ (if_pos ⟨hrunning, hcount⟩), s.terminalCount_touches, s.terminalCount_told, ?_⟩
  cases hnext : s.clock.next with
  | some c =>
    rw [s.terminalCount_clock_of_pending hnext]
    exact ⟨s.switchEdition_clock c, s.switchEdition_channel c⟩
  | none =>
    refine ⟨s.terminalCount_clock_of_none hnext, ?_⟩
    simp [OnlyRaised, State.terminalCount, hnext, State.clockEvent, State.refreshAll, State.lampsDeadline, State.raiseEdition]

/-! ### CLKSTART, CLKNEXT, CLKSTOP and WARN (R172 to R174, R176) -/

section Requests
variable {s : State}

theorem State.clkstart_done {edition countdown : Nat} (hedition : 1 ≤ edition ∧ edition ≤ 15)
    (hcountdown : 1 ≤ countdown ∧ countdown ≤ 65535) (hstopped : s.clock.state = .stopped) :
    s.clkstart edition countdown =
      (.done, clockBytes (s.startClock edition countdown).clock, s.startClock edition countdown) := by
  simp [State.clkstart, within, hedition, hcountdown, hstopped]

theorem State.clknext_done {countdown : Nat} (hcountdown : 1 ≤ countdown ∧ countdown ≤ 65535) (hedition : s.clock.edition ≠ 15)
    (hstate : s.clock.state ≠ .stopped) :
    s.clknext countdown = (.done, clockBytes (s.nextDeadline countdown).clock, s.nextDeadline countdown) := by
  simp [State.clknext, within, hcountdown, hedition, hstate, Config.editions]

theorem State.nextDeadline_of_running {countdown : Nat} (h : s.clock.state = .running) :
    s.nextDeadline countdown = { s with clock := { s.clock with next := some countdown } } := by
  simp [State.nextDeadline, h]

theorem State.nextDeadline_of_overdue {countdown : Nat} (h : s.clock.state = .overdue) :
    s.nextDeadline countdown = s.switchEdition countdown := by
  simp [State.nextDeadline, h]

theorem State.startClock_channel (edition countdown : Nat) :
    (s.startClock edition countdown).channel =
      (if s.clock.threshold ≠ 0 ∧ countdown ≤ s.clock.threshold then [.edition .near edition countdown] else []).foldl
        Channel.raise s.channel := by
  rw [State.startClock, (State.clockEvent_touches _).channel, State.warnNear_channel, Clock.nearNotices_eq]
  simp

theorem State.startClock_told (edition countdown : Nat) : ClockTold s (s.startClock edition countdown) :=
  clockEvent_told (State.warnNear_lines _)

theorem State.stopClock_of_stopped (h : s.clock.state = .stopped) : s.stopClock = s := if_pos h

theorem State.stopClock_channel (s : State) : s.stopClock.channel = s.channel := by
  unfold State.stopClock
  split
  · rfl
  · exact (State.clockEvent_touches _).channel

theorem State.stopClock_told (h : s.clock.state ≠ .stopped) : ClockTold s s.stopClock := by
  unfold State.stopClock
  rw [if_neg h]
  exact clockEvent_told rfl

theorem State.setThreshold_channel (seconds : Nat) : (s.setThreshold seconds).channel =
    (if (clamp 0 3600 seconds ≠ 0 ∧ s.clock.count ≤ clamp 0 3600 seconds) ∧ s.clock.state = .running ∧ s.clock.fired = false then
      [.edition .near s.clock.edition s.clock.count] else []).foldl Channel.raise s.channel := by
  unfold State.setThreshold
  by_cases hrunning : s.clock.state = .running
  · simp [hrunning, State.warnNear_channel, Clock.nearNotices_eq, State.lampsDeadline]
  · simp [hrunning, State.lampsDeadline]

theorem State.setThreshold_line (seconds : Nat) {k : Nat} (hk : k < 32) : (s.setThreshold seconds).line k =
    if (s.line k).lampSource = .deadline then { s.line k with lamp := (s.setThreshold seconds).lampLit k (s.line k) }
    else s.line k := by
  have hline : (s.setThreshold seconds).line k =
      (State.lampsDeadline { s with clock := { s.clock with threshold := clamp 0 3600 seconds } }).line k := by
    unfold State.setThreshold
    dsimp only
    split
    · exact (State.warnNear_touches _).line k
    · rfl
  have hlit (l : Line) : State.lampLit { s with clock := { s.clock with threshold := clamp 0 3600 seconds } } k l =
      (s.setThreshold seconds).lampLit k l := by
    have hclock := s.setThreshold_clock seconds
    have htouch := s.setThreshold_touches seconds
    simp only [State.lampLit, htouch.story, htouch.desk, htouch.flashes, hclock]
    rfl
  rw [hline, State.lampsDeadline, State.line_lamps, hlit]
  simp [hk, State.line]

theorem State.warn_eq (seconds : Nat) : s.warn seconds = (.done, u16 (clamp 0 3600 seconds), s.setThreshold seconds) := by
  simp [State.warn, State.setThreshold_clock]

end Requests

/-- CLKSTART carried out (R172). -/
theorem exec_clkstart_done {s : State} {tag : Byte} {edition countdown : Nat} (htakes : s.takes (.clkstart tag edition countdown) = true)
    (hedition : 1 ≤ edition ∧ edition ≤ 15) (hcountdown : 1 ≤ countdown ∧ countdown ≤ 65535)
    (hstopped : s.clock.state = .stopped) :
    ∃ t, exec (.clkstart tag edition countdown) s = .next t ∧
      Replied (.clkstart tag edition countdown) .done (clockBytes t.clock) s t ∧ OnlyTouches [.clock, .lines, .channel] s t ∧
      t.clock = { state := .running, edition := edition, count := countdown, next := none, threshold := s.clock.threshold,
                  fired := decide (s.clock.threshold ≠ 0 ∧ countdown ≤ s.clock.threshold) } ∧
      Raised (if s.clock.threshold ≠ 0 ∧ countdown ≤ s.clock.threshold then [.edition .near edition countdown] else []) s t ∧
      ClockTold s t := by
  have hact := State.clkstart_done (s := s.offer (.clkstart tag edition countdown)) hedition hcountdown (by simpa using hstopped)
  obtain ⟨t, c, hstep, hreply, hraised, htouch, rfl⟩ := host_effect (act := fun s => s.clkstart edition countdown)
    (ps := [.clock, .lines, .channel]) htakes hact
    (State.startClock_channel _ _) ((State.startClock_touches _ _ _).mono (by decide)) (by decide)
  refine ⟨_, hstep, hreply, htouch, ?_, ?_, ?_⟩
  · simp [State.startClock_clock]
  · simpa using hraised
  · exact ((State.startClock_told _ _).of_lines (s.lines_offer _)).withChannel c

/-- CLKNEXT at a RUNNING clock keeps the next deadline (R173). -/
theorem exec_clknext_running {s : State} {tag : Byte} {countdown : Nat} (htakes : s.takes (.clknext tag countdown) = true)
    (hcountdown : 1 ≤ countdown ∧ countdown ≤ 65535) (hedition : s.clock.edition ≠ 15) (hrunning : s.clock.state = .running) :
    ∃ t, exec (.clknext tag countdown) s = .next t ∧ Replied (.clknext tag countdown) .done (clockBytes t.clock) s t ∧
      OnlyTouches [.clock, .channel] s t ∧ Raised [] s t ∧ t.clock = { s.clock with next := some countdown } := by
  have hact := State.clknext_done (s := s.offer (.clknext tag countdown)) hcountdown (by simpa using hedition) (by simp [hrunning])
  rw [State.nextDeadline_of_running (by simpa using hrunning)] at hact
  obtain ⟨t, c, hstep, hreply, hraised, htouch, rfl⟩ := host_effect (act := fun s => s.clknext countdown)
    (ns := []) (ps := [.clock, .channel]) htakes hact rfl ((State.setClock_touches _ _).mono (by decide)) (by decide)
  exact ⟨_, hstep, hreply, htouch, hraised, by simp⟩

/-- CLKNEXT at an OVERDUE clock switches at once (R173). -/
theorem exec_clknext_overdue {s : State} {tag : Byte} {countdown : Nat} (htakes : s.takes (.clknext tag countdown) = true)
    (hcountdown : 1 ≤ countdown ∧ countdown ≤ 65535) (hedition : s.clock.edition ≠ 15) (hoverdue : s.clock.state = .overdue) :
    ∃ t, exec (.clknext tag countdown) s = .next t ∧ Replied (.clknext tag countdown) .done (clockBytes t.clock) s t ∧
      OnlyTouches [.clock, .lines, .channel] s t ∧ EditionSwitched countdown s t ∧ ClockTold s t ∧
      Raised (switchNotices (s.clock.edition + 1) countdown s.clock.threshold) s t := by
  have hact := State.clknext_done (s := s.offer (.clknext tag countdown)) hcountdown (by simpa using hedition) (by simp [hoverdue])
  rw [State.nextDeadline_of_overdue (by simpa using hoverdue)] at hact
  obtain ⟨t, c, hstep, hreply, hraised, htouch, rfl⟩ := host_effect (act := fun s => s.clknext countdown)
    (ps := [.clock, .lines, .channel]) htakes hact (State.switchEdition_channel _ _)
    ((State.switchEdition_touches _ _).mono (by decide)) (by decide)
  refine ⟨_, hstep, hreply, htouch, ?_, ((State.switchEdition_told _ _).of_lines (s.lines_offer _)).withChannel c,
    by simpa using hraised⟩
  simp [EditionSwitched, State.switchEdition_clock]

/-- CLKSTOP at a clock that goes (R174). -/
theorem exec_clkstop_going {s : State} {tag : Byte} (htakes : s.takes (.clkstop tag) = true) (hgoing : s.clock.state ≠ .stopped) :
    ∃ t, exec (.clkstop tag) s = .next t ∧ Replied (.clkstop tag) .done [] s t ∧ Raised [] s t ∧
      OnlyTouches [.clock, .lines, .channel] s t ∧ ClockTold s t ∧
      t.clock = { s.clock with state := .stopped, count := 0, next := none } := by
  have hfound : (s.offer (.clkstop tag)).clock.state ≠ .stopped := by simpa using hgoing
  obtain ⟨t, c, hstep, hreply, hraised, htouch, rfl⟩ := host_effect (act := fun s => (.done, [], s.stopClock)) (ns := [])
    (ps := [.clock, .lines, .channel]) htakes rfl (State.stopClock_channel _) ((State.stopClock_touches _).mono (by decide))
    (by decide)
  exact ⟨_, hstep, hreply, hraised, htouch, ((State.stopClock_told hfound).of_lines (s.lines_offer _)).withChannel c,
    by simp [State.stopClock_clock, hgoing]⟩

/-- WARN carried out (R176). -/
theorem exec_warn {s : State} {tag : Byte} {seconds w : Nat} (htakes : s.takes (.warn tag seconds) = true)
    (hw : w = clamp 0 3600 seconds) :
    ∃ t, exec (.warn tag seconds) s = .next t ∧ Replied (.warn tag seconds) .done (u16 w) s t ∧
      OnlyTouches [.clock, .lines, .channel] s t ∧
      t.clock = { s.clock with
        threshold := w
        fired := s.clock.fired ||
          decide (s.clock.state = .running ∧ w ≠ 0 ∧ s.clock.count ≤ w ∧ s.clock.fired = false) } ∧
      Raised (if s.clock.state = .running ∧ w ≠ 0 ∧ s.clock.count ≤ w ∧ s.clock.fired = false then
        [.edition .near s.clock.edition s.clock.count] else []) s t ∧
      ∀ k < 32, t.line k =
        if (s.line k).lampSource = .deadline then { s.line k with lamp := t.lampLit k (t.line k) } else s.line k := by
  subst hw
  obtain ⟨t, c, hstep, hreply, hraised, htouch, rfl⟩ := host_effect (act := fun s => s.warn seconds)
    (ps := [.clock, .lines, .channel]) htakes (State.warn_eq seconds) (State.setThreshold_channel seconds)
    ((State.setThreshold_touches _ _).mono (by decide)) (by decide)
  refine ⟨_, hstep, hreply, htouch, ?_, ?_, fun k hk => ?_⟩
  · rw [State.withChannel_clock, State.setThreshold_clock, State.clock_offer]
    cases hfired : s.clock.fired <;> simp [Clock.nearDue, hfired]
  · convert hraised using 2
    · simp only [State.clock_offer]
      tauto
    · rw [State.clock_offer]
  · rw [State.withChannel_line, State.withChannel_lampLit, State.setThreshold_line _ hk, State.line_offer]
    by_cases hsource : (s.line k).lampSource = .deadline
    · simp only [if_pos hsource]
      rfl
    · simp only [if_neg hsource]

/-- Settles O58: the four requests of the clock, CLKNEXT by the clock's state. -/
theorem clockRequests : Obligations.ClockRequests := by
  refine ⟨fun s tag edition countdown => ?_, fun s tag countdown => ?_, fun s tag => ?_, fun s tag seconds => ?_⟩
  · intro i near htakes hlow hhigh clow chigh hstopped
    exact exec_clkstart_done htakes ⟨hlow, hhigh⟩ ⟨clow, chigh⟩ hstopped
  · intro i htakes clow chigh hedition hstate
    by_cases hrunning : s.clock.state = .running
    · simp only [if_pos hrunning]
      exact exec_clknext_running htakes ⟨clow, chigh⟩ hedition hrunning
    · simp only [if_neg hrunning]
      have hoverdue : s.clock.state = .overdue := by cases h : s.clock.state <;> simp_all
      exact exec_clknext_overdue htakes ⟨clow, chigh⟩ hedition hoverdue
  · intro i htakes
    by_cases hstopped : s.clock.state = .stopped
    · simp only [if_pos hstopped]
      exact host_read (act := fun s => (.done, [], s.stopClock)) htakes
        (by rw [State.stopClock_of_stopped (by simpa using hstopped)])
    · simp only [if_neg hstopped]
      exact exec_clkstop_going htakes hstopped
  · intro i w near htakes
    exact exec_warn htakes (by simp [w, clamp_eq])

end Sys2Proof.Machine

/-! The setter ports: jobs begun, ports freed, and the requests and events of one port (chapter 8). -/

namespace Sys2Proof.Machine

/-! ### The codes of a job read the copy, the tables and the slots alone -/

section Codes
variable {s t : State}

/-- What the codes of the jobs read of the records. -/
def JobAspects : List Aspect := [.copy, .baseStyle, .run, .tables, .xlate, .slots]

theorem State.composeStory_congr (hkeeps : ∀ a ∈ JobAspects, s.keeps t a) (n : Nat) : t.composeStory n = s.composeStory n := by
  have hcopy := (hkeeps .copy (by decide)).1 n
  have hstyle : (t.story n).style = (s.story n).style := (hkeeps .baseStyle (by decide)).1 n
  have hrun : (t.story n).run = (s.story n).run := (hkeeps .run (by decide)).1 n
  have htables : t.fit.styles = s.fit.styles ∧ t.fit.widths = s.fit.widths := (hkeeps .tables (by decide)).2.2.2.2
  have hslot (g k : Nat) : (t.page g).slot k = (s.page g).slot k := by
    have hslots : (t.page g).slots = (s.page g).slots := (hkeeps .slots (by decide)).2.2.2.1 g
    cases k <;> simp only [Page.slot, hslots]
  have hholes : t.holesOf (t.story n) = s.holesOf (s.story n) := by
    simp only [State.holesOf, hrun, hslot]
  simp only [State.composeStory, State.tables, hcopy.1, hstyle, htables.1, htables.2, hholes]

theorem State.entry_congr (hkeeps : s.keeps t .xlate) (c : Nat) : t.entry c = s.entry c := by
  have hxlate : t.output.xlate = s.output.xlate := hkeeps.2.2.2.2
  rw [State.entry, State.entry, hxlate]

theorem State.selectCodes_congr (hkeeps : s.keeps t .tables) (n : Nat) : t.selectCodes n = s.selectCodes n := by
  have htables : t.fit.styles = s.fit.styles ∧ t.fit.widths = s.fit.widths := hkeeps.2.2.2.2
  simp only [State.selectCodes, State.style, htables.1]

theorem State.storyUnits_congr (hkeeps : ∀ a ∈ JobAspects, s.keeps t a) (n : Nat) : t.storyUnits n = s.storyUnits n := by
  have hstyle : (t.story n).style = (s.story n).style := (hkeeps .baseStyle (by decide)).1 n
  have hrun : (t.story n).run = (s.story n).run := (hkeeps .run (by decide)).1 n
  have hentry := State.entry_congr (hkeeps .xlate (by decide))
  have hselect := State.selectCodes_congr (hkeeps .tables (by decide))
  have hitem : t.itemCodes = s.itemCodes := by
    funext i
    cases i <;> simp only [State.itemCodes, hentry, hselect]
  have hlines : t.lineUnits = s.lineUnits := by
    funext l
    rw [State.lineUnits, State.lineUnits, hitem]
  simp only [State.storyUnits, State.setLines, State.firstSlot, State.composeStory_congr hkeeps, hstyle, hrun, hselect, hlines]

theorem Page.stories_congr {p q : Page} (h : q.slots = p.slots) : q.stories = p.stories := by
  rw [Page.stories, Page.stories, h]

theorem State.jobUnits_congr (hkeeps : ∀ a ∈ JobAspects, s.keeps t a) {g : Nat} (hlabel : (t.page g).label = (s.page g).label)
    (hedition : (t.page g).edition = (s.page g).edition) : t.jobUnits g = s.jobUnits g := by
  have hslots : (t.page g).slots = (s.page g).slots := (hkeeps .slots (by decide)).2.2.2.1 g
  have hunits : t.storyUnits = s.storyUnits := funext (State.storyUnits_congr hkeeps)
  simp only [State.jobUnits, Page.header, Page.stories_congr hslots, hlabel, hedition, hunits]

theorem State.jobTotal_congr (hkeeps : ∀ a ∈ JobAspects, s.keeps t a) (g : Nat) : t.jobTotal g = s.jobTotal g := by
  have hslots : (t.page g).slots = (s.page g).slots := (hkeeps .slots (by decide)).2.2.2.1 g
  have hunits := State.storyUnits_congr hkeeps
  have hcount (n : Nat) : t.storyCount n = s.storyCount n := by
    rw [← State.storyUnits_count, ← State.storyUnits_count, hunits]
  simp only [State.jobTotal, Page.stories_congr hslots, funext hcount]

end Codes

/-! ### A job begun at a port (R150, R155, R159) -/

/-- The units placed and those left: placing stops at 448 codes, and not before (R155). -/
theorem placeUnits_spec (us : List (List Byte)) (fifo : List Byte) :
    ∃ placed, us = placed ++ (placeUnits us fifo).1 ∧ (placeUnits us fifo).2 = fifo ++ placed.flatten ∧
      ((placeUnits us fifo).1 = [] ∨ 448 ≤ (fifo ++ placed.flatten).length) ∧
      ∀ before last, placed = before ++ [last] → (fifo ++ before.flatten).length < 448 := by
  induction us generalizing fifo with
  | nil => exact ⟨[], rfl, by simp [placeUnits], .inl rfl, by simp⟩
  | cons u us ih =>
    unfold placeUnits
    by_cases hroom : fifo.length < Config.fifoStop
    · obtain ⟨placed, hunits, hfifo, hstop, hlast⟩ := ih (fifo ++ u)
      rw [if_pos hroom]
      refine ⟨u :: placed, by rw [List.cons_append, ← hunits], by simp [hfifo], by simpa using hstop, fun before last hsplit => ?_⟩
      cases before with
      | nil => simpa [Config.fifoStop] using hroom
      | cons v before =>
        rw [List.cons_append] at hsplit
        obtain ⟨rfl, hrest⟩ := List.cons.inj hsplit
        simpa using hlast before last hrest
    · rw [if_neg hroom]
      exact ⟨[], rfl, by simp, .inr (by simpa [Config.fifoStop] using hroom), by simp⟩

section Begin
variable {s : State}

theorem State.updPort_sameOutput (p : Port) (f : SetterPort → SetterPort) : SameOutputBut p s (s.updPort p f) := by
  cases p <;> exact ⟨rfl, rfl, rfl⟩

theorem State.setPort_sameOutput (p : Port) (v : SetterPort) : SameOutputBut p s (s.setPort p v) := by
  cases p <;> exact ⟨rfl, rfl, rfl⟩

theorem State.beginJob_sameOutput (p : Port) (j : Job) : SameOutputBut p s (s.beginJob p j) := by
  cases p <;> exact ⟨rfl, rfl, rfl⟩

theorem State.beginJob_samePages (p : Port) (j : Job) : SamePagesBut j.page s (s.beginJob p j) := by
  intro h hh
  simp [State.beginJob, State.recordJob, State.page_updPage_ne _ hh]

theorem State.beginJob_begun (p : Port) {j : Job} (hg : 1 ≤ j.page ∧ j.page ≤ 48) :
    JobBegun p (s.port p) j (s.jobUnits j.page) s (s.beginJob p j) := by
  obtain ⟨placed, hunits, hfifo, hstop, hlast⟩ := placeUnits_spec (s.jobUnits j.page) (s.port p).fifo
  refine ⟨⟨{ job := j, remaining := j.total, phase := .sending, unplaced := (placeUnits (s.jobUnits j.page) (s.port p).fifo).1 },
    placed, ?_, rfl, rfl, rfl, hunits, hstop, hlast⟩, ?_⟩
  · simp [State.beginJob, State.recordJob, SetterPort.fill, hfifo]
  · simp [State.beginJob, State.recordJob, hg, freshRecord]

/-! ### A port that is free takes a job (R150) -/

theorem nearestJob_eq_none {p : Port} {q : List Job} (h : ∀ j ∈ q, j.choice.allows p = false) : nearestJob p q = none := by
  induction q with
  | nil => rfl
  | cons j js ih =>
    simp [nearestJob, h j List.mem_cons_self, ih fun k hk => h k (List.mem_cons_of_mem j hk)]

theorem nearestJob_append {p : Port} {before after : List Job} {j : Job} (h : ∀ i ∈ before, i.choice.allows p = false)
    (hj : j.choice.allows p = true) : nearestJob p (before ++ j :: after) = some (j, before ++ after) := by
  induction before with
  | nil => simp [nearestJob, hj]
  | cons i is ih =>
    simp [nearestJob, h i List.mem_cons_self, ih fun k hk => h k (List.mem_cons_of_mem i hk)]

/-- The job taken is the first that the choice allows; those before it are not allowed. -/
theorem nearestJob_some {p : Port} {q rest : List Job} {j : Job} (h : nearestJob p q = some (j, rest)) :
    ∃ before after, q = before ++ j :: after ∧ rest = before ++ after ∧ (∀ i ∈ before, i.choice.allows p = false) ∧
      j.choice.allows p = true := by
  by_cases hnone : ∀ k ∈ q, k.choice.allows p = false
  · rw [nearestJob_eq_none hnone] at h
    exact absurd h (by simp)
  · induction q generalizing rest with
    | nil => exact absurd h (by simp [nearestJob])
    | cons k ks ih =>
      cases hk : k.choice.allows p with
      | true =>
        simp [nearestJob, hk] at h
        exact ⟨[], ks, by simp [h.1], by simp [h.2], by simp, h.1 ▸ hk⟩
      | false =>
        have hrest : ¬∀ i ∈ ks, i.choice.allows p = false := fun hall => hnone fun i hi => by
          rcases List.mem_cons.1 hi with rfl | hi
          · exact hk
          · exact hall i hi
        cases hnear : nearestJob p ks with
        | none => simp [nearestJob, hk, hnear] at h
        | some found =>
          obtain ⟨i, is⟩ := found
          simp [nearestJob, hk, hnear] at h
          obtain ⟨rfl, rfl⟩ := h
          obtain ⟨before, after, hq, hr, hbefore, hj⟩ := ih hnear hrest
          refine ⟨k :: before, after, by simp [hq], by simp [hr], ?_, hj⟩
          intro i hi
          rcases List.mem_cons.1 hi with rfl | hi
          · exact hk
          · exact hbefore i hi

theorem State.portTakes_of_waits {p : Port} (h : PortWaits p s) : s.portTakes p = s := by
  unfold State.portTakes
  split
  next hready => rw [nearestJob_eq_none (h hready)]
  next => rfl

theorem State.portTakes_of_ready {p : Port} {before after : List Job} {j : Job} (hready : (s.port p).state = .ready)
    (hqueue : s.output.queue = before ++ j :: after) (hbefore : ∀ i ∈ before, i.choice.allows p = false)
    (hj : j.choice.allows p = true) : s.portTakes p = (s.setQueue (before ++ after)).beginJob p j := by
  rw [State.portTakes, if_pos hready, hqueue, nearestJob_append hbefore hj]

/-- What a port takes leaves the other port as it was, and of the queue a part. -/
theorem State.portTakes_other (p : Port) : (s.portTakes p).port (otherPort p) = s.port (otherPort p) ∧
    ∀ j ∈ (s.portTakes p).output.queue, j ∈ s.output.queue := by
  unfold State.portTakes
  split
  · split
    next j rest hnear =>
      obtain ⟨before, after, hqueue, rfl, -, -⟩ := nearestJob_some hnear
      obtain ⟨hq, -, hother⟩ := State.beginJob_sameOutput (s := s.setQueue (before ++ after)) p j
      refine ⟨hother.trans (State.setQueue_port _ _ _), fun k hk => ?_⟩
      rw [hq, State.setQueue_queue] at hk
      rw [hqueue]
      simp only [List.mem_append, List.mem_cons] at hk ⊢
      tauto
    next => exact ⟨rfl, fun _ => id⟩
  · exact ⟨rfl, fun _ => id⟩

theorem PortWaits.congr {t : State} {p : Port} (h : PortWaits p s) (hport : t.port p = s.port p)
    (hqueue : ∀ j ∈ t.output.queue, j ∈ s.output.queue) : PortWaits p t :=
  fun hready j hj => h (by rwa [hport] at hready) j (hqueue j hj)

/-- With the other port waiting, the arbiter is the one port's. -/
theorem State.arbitrate_eq {p : Port} (h : PortWaits (otherPort p) s) : s.arbitrate = s.portTakes p := by
  cases p with
  | a =>
    obtain ⟨hport, hqueue⟩ := State.portTakes_other (s := s) .a
    exact State.portTakes_of_waits (h.congr hport hqueue)
  | b => exact congrArg (State.portTakes · .b) (State.portTakes_of_waits (p := .a) h)

/-- A READY port whose fellow waits, the arbiter having passed: it has the nearest job it may serve, or stands as it was (R150). -/
theorem State.arbitrate_freed {p : Port} (hready : (s.port p).state = .ready) (hother : PortWaits (otherPort p) s) :
    PortFreed p (s.port p) none s s.arbitrate := by
  rw [State.arbitrate_eq hother]
  have hxlate : (s.portTakes p).output.xlate = s.output.xlate := (s.portTakes_moves p .xlate (by decide)).2.2.2.2
  refine ⟨hxlate, State.portTakes_other p |>.1, fun hnone => ?_, ?_⟩
  · rw [State.portTakes_of_waits fun _ => hnone]
    exact ⟨rfl, rfl, fun _ _ => rfl⟩
  · intro before j after hqueue hbefore hj hlow hhigh
    rw [State.portTakes_of_ready hready hqueue hbefore hj]
    have hpage (h : Nat) : (s.setQueue (before ++ after)).page h = s.page h := by cases h <;> rfl
    have hbegun := State.beginJob_begun (s := s.setQueue (before ++ after)) p ⟨hlow, hhigh⟩
    refine ⟨rfl, ?_, fun h hh _ => (State.beginJob_samePages p j h hh).trans (hpage h)⟩
    unfold JobBegun at hbegun ⊢
    rw [State.setQueue_port, hpage] at hbegun
    exact hbegun

/-- A port freed after page `g` has left it: what left the port changed no queue, no other port, no table, and of the pages `g` alone. -/
theorem PortFreed.of_left {u t : State} {p : Port} {v : SetterPort} {g : Nat} (h : PortFreed p v none u t)
    (hqueue : u.output.queue = s.output.queue) (hxlate : u.output.xlate = s.output.xlate)
    (hother : u.port (otherPort p) = s.port (otherPort p)) (hpages : SamePagesBut g s u)
    (hkeeps : ∀ a ∈ JobAspects, s.keeps u a) (hjobs : ∀ j ∈ s.output.queue, j.page ≠ g) : PortFreed p v (some g) s t := by
  obtain ⟨hx, ho, hnone, htakes⟩ := h
  refine ⟨hx.trans hxlate, ho.trans hother, fun hwait => ?_, ?_⟩
  · obtain ⟨hp, hq, hpage⟩ := hnone (by rwa [hqueue])
    exact ⟨hp, hq.trans hqueue, fun h hh => (hpage h (by simp)).trans (hpages h fun e => hh (by rw [e]))⟩
  · intro before j after hsplit hbefore hj hlow hhigh
    have hne : j.page ≠ g := hjobs j (by rw [hsplit]; simp)
    obtain ⟨hq, hbegun, hpage⟩ := htakes before j after (by rwa [hqueue]) hbefore hj hlow hhigh
    have hunits : u.jobUnits j.page = s.jobUnits j.page :=
      State.jobUnits_congr hkeeps (by rw [hpages _ hne]) (by rw [hpages _ hne])
    refine ⟨hq, ?_, fun h hh hg => (hpage h hh (by simp)).trans (hpages h fun e => hg (by rw [e]))⟩
    unfold JobBegun at hbegun ⊢
    rwa [hunits, hpages _ hne] at hbegun

end Begin

end Sys2Proof.Machine

/-! Codes, leads and results at the setter ports, and the requests that set, open and shut them (R152 to R163). -/

namespace Sys2Proof.Machine

/-! ### Pages returned (R140) -/

section Return
variable {s t : State}

theorem State.judgement_congr (h : t.stories = s.stories) (p : Page) : t.judgement p = s.judgement p := by
  have hstory : t.story = s.story := funext (State.story_congr h)
  simp only [State.judgement, hstory]

/-- A judgement reads of the page its slots and its tolerance (R133). -/
theorem State.judgement_page {p q : Page} (hslots : q.slots = p.slots) (htolerance : q.tolerance = p.tolerance) :
    s.judgement q = s.judgement p := by
  simp only [State.judgement, Page.stories_congr hslots, htolerance]

theorem State.foldl_move_story {old new : Stage} (hfree : old ≠ .free) (hne : new ≠ old) (ns : List Nat) (n : Nat) :
    (ns.foldl (fun t m => t.updStory m fun r => if r.stage = old then { r with stage := new } else r) s).story n =
      if n ∈ ns ∧ (s.story n).stage = old then { s.story n with stage := new } else s.story n := by
  induction ns generalizing s with
  | nil => simp
  | cons m ns ih =>
    rw [List.foldl_cons, ih]
    by_cases hm : n = m
    · subst hm
      by_cases hstage : (s.story n).stage = old
      · have hn := s.story_range_of_stage (n := n) (by rw [hstage]; exact hfree)
        simp [State.story_updStory_self _ hn, hstage, hne]
      · have hkept : (s.updStory n fun r => if r.stage = old then { r with stage := new } else r).story n = s.story n := by
          rw [State.story_updStory]
          simp [hstage]
        simp [hkept, hstage]
    · simp [State.story_updStory_ne _ hm, hm]

theorem State.moveStories_moved (s : State) (g : Nat) {old new : Stage} (hfree : old ≠ .free := by decide)
    (hne : new ≠ old := by decide) : StoriesMoved g old new s (s.moveStories g old new) :=
  fun n => State.foldl_move_story hfree hne (s.page g).stories n

@[simp] theorem State.moveStories_page (s : State) (g : Nat) (old new : Stage) (h : Nat) :
    (s.moveStories g old new).page h = s.page h := (s.moveStories_touches g old new).page h

theorem StoriesMoved.congr {g : Nat} {old new : Stage} {u v : State} (h : StoriesMoved g old new s t)
    (hs : ∀ n, u.story n = s.story n) (hpage : (u.page g).stories = (s.page g).stories) (ht : v.stories = t.stories) :
    StoriesMoved g old new u v := by
  intro n
  rw [State.story_congr ht, h n, hs, hpage]

theorem State.returnPage_stories (s : State) (g : Nat) :
    (s.returnPage g).stories = (s.moveStories g .setting .placed).stories := rfl

theorem State.returnPage_samePages (s : State) (g : Nat) : SamePagesBut g s (s.returnPage g) := by
  intro h hh
  simp [State.returnPage, State.judge, State.page_updPage_ne _ hh]

theorem State.returnPage_page (s : State) {g : Nat} (hg : 1 ≤ g ∧ g ≤ 48) :
    (s.returnPage g).page g = { s.page g with
      state := .makeup, trim := false, fit := (s.returnPage g).judgement (s.page g) } := by
  have hfit : (s.returnPage g).judgement (s.page g) = (s.moveStories g .setting .placed).judgement (s.page g) :=
    State.judgement_congr rfl _
  rw [hfit]
  simp [State.returnPage, State.judge, hg]
  rfl

theorem State.returnPage_returned (s : State) {g : Nat} (hg : 1 ≤ g ∧ g ≤ 48) : PageReturned g none s (s.returnPage g) := by
  refine ⟨(s.moveStories_moved g).congr (fun _ => rfl) rfl rfl, ?_⟩
  have hpage := s.returnPage_page hg
  have hfit : (s.returnPage g).judgement ((s.returnPage g).page g) = (s.returnPage g).judgement (s.page g) :=
    State.judgement_page (by rw [hpage]) (by rw [hpage])
  rw [hfit]
  exact hpage

/-- A page whose last job record has ended with an outcome and which has then been returned (R147, R158). -/
theorem State.endRecord_returned (s : State) {g : Nat} (o : JobOutcome) (hg : 1 ≤ g ∧ g ≤ 48) :
    PageReturned g (some o) s ((s.endRecord g o).returnPage g) := by
  obtain ⟨hmoved, hpage⟩ := (s.endRecord g o).returnPage_returned hg
  have hended : (s.endRecord g o).page g = { s.page g with job := (s.page g).job.map fun j => { j with outcome := o } } := by
    simp [State.endRecord, hg]
  refine ⟨hmoved.congr (fun _ => rfl) (by rw [hended]; rfl) rfl, ?_⟩
  rw [hended] at hpage
  exact hpage

theorem State.endRecord_samePages (s : State) (g : Nat) (o : JobOutcome) :
    SamePagesBut g s ((s.endRecord g o).returnPage g) := by
  intro h hh
  rw [State.returnPage_samePages _ g h hh, State.endRecord, State.page_updPage_ne _ hh]

/-- A returned page reads of the state before its stories and itself. -/
theorem PageReturned.congr {g : Nat} {o : Option JobOutcome} {u v : State} (h : PageReturned g o s t)
    (hs : ∀ n, u.story n = s.story n) (hpage : u.page g = s.page g) (hstories : v.stories = t.stories)
    (hpages : v.page g = t.page g) : PageReturned g o u v := by
  refine ⟨h.1.congr hs (by rw [hpage]) hstories, ?_⟩
  rw [hpages, hpage, State.judgement_congr hstories]
  exact h.2

end Return

/-! ### Codes and the ready lead (R155, R158, R159, R163) -/

section Codes
variable {s : State} {p : Port}

theorem SameOutputBut.withChannel {t : State} (h : SameOutputBut p s t) (c : Channel) : SameOutputBut p s (t.withChannel c) := by
  obtain ⟨hq, hx, ho⟩ := h
  exact ⟨hq, hx, (State.withChannel_port _ _ _).trans ho⟩

theorem SetterPort.sending_iff (v : SetterPort) :
    v.sending = true ↔ v.state = .setting ∧ v.job.any (fun j => j.phase == .sending) = true := by
  unfold SetterPort.sending
  cases v.job <;> simp

theorem SetterPort.accepted_last (v : SetterPort) {j : PortJob} (code : Byte) (rest : List Byte) (hphase : j.phase = .sending)
    (hlast : j.remaining ≤ 1) :
    v.accepted j code rest = { v with
      fifo := (placeUnits j.unplaced rest).2, codeOut := some code, lossTimer := some v.lossTime
      job := some { j with
        remaining := j.remaining - 1, unplaced := (placeUnits j.unplaced rest).1, phase := .awaiting } } := by
  simp [SetterPort.accepted, SetterPort.fill, hphase, hlast]

theorem SetterPort.accepted_more (v : SetterPort) {j : PortJob} (code : Byte) (rest : List Byte) (hphase : j.phase = .sending)
    (hmore : ¬j.remaining ≤ 1) :
    v.accepted j code rest = { v with
      fifo := (placeUnits j.unplaced rest).2, codeOut := some code
      job := some { j with remaining := j.remaining - 1, unplaced := (placeUnits j.unplaced rest).1 } } := by
  have hleft : ¬j.remaining - 1 = 0 := by omega
  simp [SetterPort.accepted, SetterPort.fill, hphase, hleft]

theorem execCodeAccepted_code {j : PortJob} {code : Byte} {rest : List Byte} (hstate : (s.port p).state = .setting)
    (hjob : (s.port p).job = some j) (hphase : j.phase = .sending) (hfifo : (s.port p).fifo = code :: rest)
    (hlead : (s.port p).lead = true) (habort : (s.port p).abort = false) :
    exec (.codeAccepted p) s = .next ((s.setPort p ((s.port p).accepted j code rest)).updPage j.job.page fun g =>
      { g with job := g.job.map fun r => { r with remaining := j.remaining - 1 } }) := by
  refine congrArg Host.Outcome.next ?_
  simp [State.acceptCode, hjob, hfifo, hstate, hphase, hlead, habort]

theorem State.page_eq_shut {g : Nat} (h : ¬(1 ≤ g ∧ g ≤ 48)) : s.page g = Page.shut := by
  by_contra hne
  refine h ⟨?_, ?_⟩
  · cases g with
    | zero => exact absurd rfl hne
    | succ k => omega
  · by_contra hhigh
    cases g with
    | zero => omega
    | succ k => exact hne (by simp [State.page, show ¬k < 48 by omega])

theorem State.page_updPage_of_shut {g : Nat} {f : Page → Page} (hf : f Page.shut = Page.shut) :
    (s.updPage g f).page g = f (s.page g) := by
  by_cases hg : 1 ≤ g ∧ g ≤ 48
  · exact State.page_updPage_self _ hg f
  · rw [State.page_eq_shut hg, State.page_eq_shut hg, hf]

/-- A code accepted and the page's count with it, port and page apart (R155). -/
theorem acceptedCode_frame (v : SetterPort) (g : Nat) (f : Page → Page) :
    OnlyTouches [.output, .pages] s ((s.setPort p v).updPage g f) ∧ SameOutputBut p s ((s.setPort p v).updPage g f) ∧
      SamePagesBut g s ((s.setPort p v).updPage g f) ∧ ((s.setPort p v).updPage g f).port p = v := by
  refine ⟨((s.setPort_touches p v).mono (by decide)).trans (State.updPage_touches _ g f) (by decide), ?_, ?_, by simp⟩
  · cases p <;> exact ⟨rfl, rfl, rfl⟩
  · intro h hh
    rw [State.page_updPage_ne _ hh, State.setPort_page]

end Codes

/-- Settles O53: a code accepted, the abort code sent, and the two edges of the ready lead. -/
theorem codesAndReadyLead : Obligations.CodesAndReadyLead := by
  refine ⟨?_, fun s p habort hlead => ?_, fun s p => ?_, fun s p => ?_⟩
  · intro s p j code rest hstate hjob hphase hfifo hlead habort
    obtain ⟨placed, hunits, hplaced, -, -⟩ := placeUnits_spec j.unplaced rest
    obtain ⟨htouch, hsame, hpages, hport⟩ := acceptedCode_frame (s := s) (p := p) ((s.port p).accepted j code rest) j.job.page
      fun g => { g with job := g.job.map fun r => { r with remaining := j.remaining - 1 } }
    refine ⟨_, execCodeAccepted_code hstate hjob hphase hfifo hlead habort, htouch, hsame, hpages, ?_⟩
    rw [hport]
    have hpage : (State.updPage (s.setPort p ((s.port p).accepted j code rest)) j.job.page fun g =>
        { g with job := g.job.map fun r => { r with remaining := j.remaining - 1 } }).page j.job.page =
        { s.page j.job.page with job := (s.page j.job.page).job.map fun r => { r with remaining := j.remaining - 1 } } :=
      State.page_updPage_of_shut rfl
    by_cases hlast : j.remaining ≤ 1
    · rw [SetterPort.accepted_last _ code rest hphase hlast] at hpage ⊢
      exact ⟨⟨_, rfl, rfl, rfl, (if_pos hlast).symm, placed, hunits, hplaced⟩, rfl, (if_pos hlast).symm, rfl, hpage⟩
    · rw [SetterPort.accepted_more _ code rest hphase hlast] at hpage ⊢
      exact ⟨⟨_, rfl, rfl, rfl, hphase.trans (if_neg hlast).symm, placed, hunits, hplaced⟩, rfl, (if_neg hlast).symm, rfl, hpage⟩
  · refine ⟨_, rfl, ?_⟩
    rw [if_pos ⟨habort, hlead⟩]
    exact ⟨s.updPort_touches p _, State.updPort_sameOutput p _, by simp [abortCode]⟩
  · refine ⟨_, rfl, ?_⟩
    have hsending : ({ s.port p with lead := true } : SetterPort).sending = true ↔
        (s.port p).state = .setting ∧ (s.port p).job.any (fun j => j.phase == .sending) = true := SetterPort.sending_iff _
    by_cases hlost : (s.port p).state = .lost
    · have hidle : ¬({ s.port p with lead := true } : SetterPort).sending = true := fun h =>
        absurd (hlost.symm.trans (hsending.1 h).1) (by decide)
      simp only [if_neg hidle, if_pos hlost]
      refine ⟨((s.setPort_touches p _).mono (by decide)).trans (State.raise_touches _ _) (by decide), ?_, rfl, by simp⟩
      cases p <;> exact ⟨rfl, rfl, rfl⟩
    · simp only [hsending, if_neg hlost]
      by_cases hsend : (s.port p).state = .setting ∧ (s.port p).job.any (fun j => j.phase == .sending) = true
      · simp only [if_pos hsend]
        exact ⟨(s.setPort_touches p _).mono (by decide), State.setPort_sameOutput p _, rfl, by simp⟩
      · simp only [if_neg hsend]
        exact ⟨(s.setPort_touches p _).mono (by decide), State.setPort_sameOutput p _, rfl, by simp⟩
  · refine ⟨_, rfl, s.setPort_touches p _, State.setPort_sameOutput p _, ?_⟩
    rw [State.port_setPort_self]
    simp only [SetterPort.sending_iff]
    split <;> rfl

end Sys2Proof.Machine

/-! The requests of the setter ports, the ends of their jobs, and the requests that end a page's release (R150 to R163). -/

namespace Sys2Proof.Machine

section Settings
variable {s : State} {p : Port}

theorem flagField_of_ok {c : Option Nat} (h : ∀ v ∈ c, v ≤ 1) : flagField c = some (c.map fun v => v == 0) := by
  cases c with
  | none => rfl
  | some v =>
    have hv : v ≤ 1 := h v rfl
    interval_cases v <;> rfl

/-- An OFFLINE port with the fields of a PORTSET (R152). -/
def SetterPort.configured (v : SetterPort) (lossTime failover : Option Nat) : SetterPort :=
  { v with
    lossTime := (lossTime.map (clamp 5 120)).getD v.lossTime, failover := (failover.map fun c => c == 0).getD v.failover }

theorem State.portset_done {port : Nat} {lossTime failover : Option Nat} (hport : portOfCode port = some p)
    (hfailover : ∀ c ∈ failover, c ≤ 1) (hoffline : (s.port p).state = .offline) :
    s.portset port lossTime failover =
      (.done, u16 ((s.port p).configured lossTime failover).lossTime ++
        u8 (flagCode ((s.port p).configured lossTime failover).failover),
        s.updPort p fun v => v.configured lossTime failover) := by
  simp only [State.portset, hport, flagField_of_ok hfailover, if_pos hoffline, State.port_updPort_self]
  rfl

theorem State.portclr_done {port : Nat} (hport : portOfCode port = some p) : s.portclr port =
    (.done, u8 (flagCode (s.port p).lossLatch), s.updPort p fun v => { v with lossLatch := false }) := by
  simp only [State.portclr, hport]

theorem State.portoff_offline {port : Nat} (hport : portOfCode port = some p) (hoffline : (s.port p).state = .offline) :
    s.portoff port = (.done, [0], s) := by
  simp only [State.portoff, hport, if_pos hoffline]
  rfl

theorem State.portoff_idle {port : Nat} (hport : portOfCode port = some p) (hstate : (s.port p).state ≠ .offline)
    (hjob : (s.port p).job = none) : s.portoff port = (.done, [0], s.updPort p SetterPort.goOffline) := by
  simp only [State.portoff, hport, if_neg hstate, hjob]
  rfl

theorem State.portoff_setting {port : Nat} {j : PortJob} (hport : portOfCode port = some p) (hstate : (s.port p).state ≠ .offline)
    (hjob : (s.port p).job = some j) :
    s.portoff port = (.done, u8 j.job.page, s.cancelAtPort p j.job.page .offline) := by
  simp only [State.portoff, hport, if_neg hstate, hjob]

end Settings

/-- What a request does to one port, the channel apart. -/
theorem host_port {s : State} {i : Instr} {act : State → Verdict} {d : List Byte} {p : Port} {f : SetterPort → SetterPort}
    (htakes : s.takes i = true) (hact : act (s.offer i) = (.done, d, (s.offer i).updPort p f)) :
    ∃ t, hostStep i act s = .next t ∧ Replied i .done d s t ∧ Raised [] s t ∧ OnlyTouches [.output, .channel] s t ∧
      SameOutputBut p s t ∧ t.port p = f (s.port p) := by
  obtain ⟨t, c, hstep, hreply, hraised, htouch, rfl⟩ := host_effect (ns := []) (ps := [.output, .channel]) htakes hact rfl
    ((State.updPort_touches _ p f).mono (by decide)) (by decide)
  refine ⟨_, hstep, hreply, hraised, htouch, ?_, by simp⟩
  obtain ⟨hq, hx, ho⟩ := State.updPort_sameOutput (s := s.offer i) p f
  exact SameOutputBut.withChannel ⟨by rw [hq, State.output_offer], by rw [hx, State.output_offer],
    by rw [ho, State.port_offer]⟩ c

/-! ### A job cancelled at its port (R154, R158) -/

section Cancel
variable {s : State} {p : Port} {g : Nat}

theorem State.returnPage_port (s : State) (g : Nat) (p : Port) : (s.returnPage g).port p = s.port p :=
  (s.returnPage_touches g).port p

theorem State.cancelAtPort_port (next : PortState) (q : Port) :
    (s.cancelAtPort p g next).port q = if q = p then (s.port p).cancelled next else s.port q := by
  simp [State.cancelAtPort, State.returnPage_port, State.endRecord, State.port_updPort]

theorem State.cancelAtPort_sameOutput (next : PortState) : SameOutputBut p s (s.cancelAtPort p g next) := by
  refine ⟨?_, ?_, ?_⟩
  · rw [State.cancelAtPort, (State.returnPage_touches _ g).output]
    cases p <;> rfl
  · rw [State.cancelAtPort, (State.returnPage_touches _ g).output]
    cases p <;> rfl
  · rw [State.cancelAtPort_port, if_neg (by cases p <;> decide)]

theorem State.cancelAtPort_returned (next : PortState) (hg : 1 ≤ g ∧ g ≤ 48) :
    PageReturned g (some .cancelled) s (s.cancelAtPort p g next) :=
  (State.endRecord_returned (s.updPort p fun v => v.cancelled next) .cancelled hg).congr (fun _ => rfl) (by simp) rfl rfl

theorem State.cancelAtPort_samePages (next : PortState) : SamePagesBut g s (s.cancelAtPort p g next) := by
  intro h hh
  rw [State.cancelAtPort, State.endRecord_samePages _ g _ h hh, State.updPort_page]

end Cancel

/-- Settles O50: PORTSET, PORTCLR and the three cases of PORTOFF. -/
theorem portSettings : Obligations.PortSettings := by
  refine ⟨?_, ?_, ?_, ?_, ?_⟩
  · intro s tag port p lossTime failover i htakes hport hfailover hoffline
    have hact := State.portset_done (s := s.offer i) (lossTime := lossTime) hport hfailover (by simpa using hoffline)
    obtain ⟨t, hstep, hreply, hraised, htouch, hsame, hp⟩ := host_port (act := fun s => s.portset port lossTime failover) htakes hact
    refine ⟨t, hstep, ?_, hraised, htouch, hsame, ?_⟩
    · rw [hp]
      simpa using hreply
    · rw [hp]
      cases lossTime <;> simp [SetterPort.configured, clamp_eq]
  · intro s tag port p i htakes hport
    have hact := State.portclr_done (s := s.offer i) hport
    obtain ⟨t, hstep, hreply, hraised, htouch, hsame, hp⟩ := host_port (act := fun s => s.portclr port) htakes hact
    exact ⟨t, hstep, by simpa using hreply, hraised, htouch, hsame, hp⟩
  · intro s tag port p i htakes hport hoffline
    exact host_read (act := fun s => s.portoff port) htakes (State.portoff_offline hport (by simpa using hoffline))
  · intro s tag port p i htakes hport hstate hjob
    have hact := State.portoff_idle (s := s.offer i) hport (by simpa using hstate) (by simpa using hjob)
    exact host_port (act := fun s => s.portoff port) htakes hact
  · intro s tag port p j i htakes hport hstate hjob hlow hhigh
    have hact := State.portoff_setting (s := s.offer i) hport (by simp [hstate]) (by simpa using hjob)
    obtain ⟨t, c, hstep, hreply, hraised, htouch, rfl⟩ := host_effect (act := fun s => s.portoff port) (ns := [])
      (ps := [.stories, .pages, .output, .channel]) htakes hact ((State.cancelAtPort_touches _ p _ _).channel)
      ((State.cancelAtPort_touches _ p _ _).mono (by decide)) (by decide)
    refine ⟨_, hstep, hreply, hraised, htouch, ?_, ?_, ?_, ?_⟩
    · obtain ⟨hq, hx, ho⟩ := State.cancelAtPort_sameOutput (s := s.offer i) (p := p) (g := j.job.page) .offline
      exact SameOutputBut.withChannel ⟨by rw [hq, State.output_offer], by rw [hx, State.output_offer],
        by rw [ho, State.port_offer]⟩ c
    · rw [State.withChannel_port, State.cancelAtPort_port, if_pos rfl, State.port_offer]
      rfl
    · exact (State.cancelAtPort_returned .offline ⟨hlow, hhigh⟩).congr (fun n => (s.story_offer i n).symm)
        (s.page_offer i _).symm rfl (State.withChannel_page _ _ _)
    · intro h hh
      rw [State.withChannel_page, State.cancelAtPort_samePages .offline h hh, State.page_offer]

end Sys2Proof.Machine

/-! Ports brought into service, and the ends of their jobs: PORTON and RESUME, result codes, losses, and CANCEL (R150 to R163). -/

namespace Sys2Proof.Machine

section Freed
variable {s t u : State} {p : Port} {v : SetterPort} {left : Option Nat}

/-- A freed port reads of the state before its output path, its pages and the codes of its jobs. -/
theorem PortFreed.congr (h : PortFreed p v left u t) (hqueue : u.output.queue = s.output.queue)
    (hxlate : u.output.xlate = s.output.xlate) (hother : u.port (otherPort p) = s.port (otherPort p))
    (hpage : ∀ g, u.page g = s.page g) (hkeeps : ∀ a ∈ JobAspects, s.keeps u a) : PortFreed p v left s t := by
  have hunits (g : Nat) : u.jobUnits g = s.jobUnits g := State.jobUnits_congr hkeeps (by rw [hpage]) (by rw [hpage])
  simpa only [PortFreed, JobBegun, hqueue, hxlate, hother, hpage, hunits] using h

theorem PortFreed.of_offer {i : Instr} (h : PortFreed p v left (s.offer i) t) : PortFreed p v left s t :=
  h.congr (by simp) (by simp) (by simp) (by simp) fun a ha => (s.offer_touches i).moves_channel (by decide) a fun h => by
    rw [List.mem_singleton.1 h] at ha
    exact absurd ha (by decide)

theorem JobBegun.withChannel {j : Job} {units : List (List Byte)} (h : JobBegun p v j units s t) (c : Channel) :
    JobBegun p v j units s (t.withChannel c) := by
  simpa only [JobBegun, State.withChannel_port, State.withChannel_page] using h

theorem PortFreed.withChannel (h : PortFreed p v left s t) (c : Channel) : PortFreed p v left s (t.withChannel c) := by
  simpa only [PortFreed, JobBegun, State.withChannel_output, State.withChannel_port, State.withChannel_page] using h

end Freed

/-! ### PORTON and RESUME (R153, R163) -/

section Ready
variable {s : State} {p : Port}

theorem State.updPort_keeps (s : State) (p : Port) (f : SetterPort → SetterPort) : ∀ a ∈ JobAspects, s.keeps (s.updPort p f) a :=
  fun a ha => s.updPort_moves p f a fun h => by
    rw [List.mem_singleton.1 h] at ha
    exact absurd ha (by decide)

theorem State.portReady_freed (hother : PortWaits (otherPort p) s) :
    PortFreed p { s.port p with state := .ready } none s (s.portReady p) := by
  have hfree := State.arbitrate_freed (s := s.updPort p fun v => { v with state := .ready }) (p := p) (by simp) (by
    obtain ⟨hq, -, ho⟩ := State.updPort_sameOutput (s := s) p fun v => { v with state := .ready }
    exact hother.congr ho fun j hj => hq ▸ hj)
  rw [State.port_updPort_self] at hfree
  obtain ⟨hq, hx, ho⟩ := State.updPort_sameOutput (s := s) p fun v => { v with state := .ready }
  exact hfree.congr hq hx ho (fun g => by simp) (s.updPort_keeps p _)

theorem State.porton_done {port : Nat} (hport : portOfCode port = some p) (hoffline : (s.port p).state = .offline) :
    s.porton port = (.done, portStateBytes ((s.portReady p).port p), s.portReady p) := by
  simp only [State.porton, hport, if_pos hoffline]

theorem State.resumePort_done {port : Nat} (hport : portOfCode port = some p)
    (hstate : (s.port p).state = .recovered ∨ (s.port p).state = .halted) :
    s.resumePort port = (.done, portStateBytes ((s.portReady p).port p), s.portReady p) := by
  simp only [State.resumePort, hport, if_pos hstate]

end Ready

/-- A request that brings a port into service: the port is READY, or has taken the job that waits for it. -/
theorem host_portReady {s : State} {i : Instr} {act : State → Verdict} {p : Port} (htakes : s.takes i = true)
    (hother : PortWaits (otherPort p) s)
    (hact : act (s.offer i) = (.done, portStateBytes (((s.offer i).portReady p).port p), (s.offer i).portReady p)) :
    ∃ t, hostStep i act s = .next t ∧ Replied i .done (portStateBytes (t.port p)) s t ∧ Raised [] s t ∧
      OnlyTouches [.pages, .output, .channel] s t ∧ PortFreed p { s.port p with state := .ready } none s t := by
  obtain ⟨t, c, hstep, hreply, hraised, htouch, rfl⟩ := host_effect (ns := []) (ps := [.pages, .output, .channel]) htakes hact
    (State.portReady_touches _ p).channel ((State.portReady_touches _ p).mono (by decide)) (by decide)
  refine ⟨_, hstep, by rwa [State.withChannel_port], hraised, htouch, ?_⟩
  have hfree := State.portReady_freed (s := s.offer i) (hother.congr (by simp) fun j hj => by simpa using hj)
  rw [State.port_offer] at hfree
  exact hfree.of_offer.withChannel c

/-- Settles O51: PORTON and RESUME, whose rules end alike. -/
theorem portBroughtIntoService : Obligations.PortBroughtIntoService := by
  intro s i port p hrequest htakes hport hother
  rcases hrequest with ⟨⟨tag, rfl⟩, hoffline⟩ | ⟨⟨tag, rfl⟩, hstate⟩
  · exact host_portReady (act := fun s => s.porton port) htakes hother (State.porton_done hport (by simpa using hoffline))
  · exact host_portReady (act := fun s => s.resumePort port) htakes hother (State.resumePort_done hport (by simpa using hstate))

end Sys2Proof.Machine

/-! The ends of jobs: results, and CANCEL (R139, R156 to R158). -/

namespace Sys2Proof.Machine

section Left
variable {s u : State} {p : Port} {g : Nat}

theorem SameOutputBut.of_output (h : u.output = s.output) : SameOutputBut p s u :=
  ⟨by rw [h], by rw [h], by cases p <;> simp only [otherPort, State.port, h]⟩

theorem SameOutputBut.trans {t : State} (h : SameOutputBut p s u) (k : SameOutputBut p u t) : SameOutputBut p s t :=
  ⟨k.1.trans h.1, k.2.1.trans h.2.1, k.2.2.trans h.2.2⟩

theorem State.port_of_output (h : u.output = s.output) (q : Port) : u.port q = s.port q := by
  cases q <;> simp only [State.port, h]

theorem OnlyMoves.keeps_job {as : List Aspect} {t : State} (h : OnlyMoves as s t)
    (has : ∀ a ∈ JobAspects, a ∉ as := by decide) : ∀ a ∈ JobAspects, s.keeps t a :=
  fun a ha => h a (has a ha)

/-- What the arbiter passes over: no job of page `g` in the queue, and the page stands. -/
theorem State.portTakes_page (hjobs : ∀ j ∈ s.output.queue, j.page ≠ g) : (s.portTakes p).page g = s.page g := by
  unfold State.portTakes
  split
  · split
    next j rest hnear =>
      obtain ⟨before, after, hqueue, rfl, -, -⟩ := nearestJob_some hnear
      have hne : g ≠ j.page := (hjobs j (by rw [hqueue]; simp)).symm
      rw [State.beginJob_samePages p j g hne, State.setQueue_page]
    next => rfl
  · rfl

theorem State.arbitrate_page (hjobs : ∀ j ∈ s.output.queue, j.page ≠ g) : s.arbitrate.page g = s.page g := by
  rw [State.arbitrate, State.portTakes_page fun j hj => hjobs j (State.portTakes_other .a |>.2 j hj),
    State.portTakes_page hjobs]

/-- A job begun leaves a pending abort code. -/
theorem State.portTakes_abort : ((s.portTakes p).port p).abort = (s.port p).abort := by
  unfold State.portTakes
  split
  · split
    next j rest hnear =>
      simp only [State.beginJob, State.recordJob, State.updPage_port, State.port_updPort_self, State.setQueue_port,
        SetterPort.fill]
    next => rfl
  · rfl

/-- A port that page `g`'s job has left: it is freed, and the page stands as the job's end left it. -/
theorem State.arbitrate_left (hready : (u.port p).state = .ready) (hwaits : PortWaits (otherPort p) s)
    (hout : SameOutputBut p s u) (hpages : SamePagesBut g s u) (hkeeps : ∀ a ∈ JobAspects, s.keeps u a)
    (hjobs : ∀ j ∈ s.output.queue, j.page ≠ g) :
    PortFreed p (u.port p) (some g) s u.arbitrate ∧ u.arbitrate.page g = u.page g := by
  obtain ⟨hq, hx, ho⟩ := hout
  have hwaits' : PortWaits (otherPort p) u := hwaits.congr ho fun j hj => hq ▸ hj
  exact ⟨(State.arbitrate_freed hready hwaits').of_left hq hx ho hpages hkeeps hjobs,
    State.arbitrate_page fun j hj => hjobs j (hq ▸ hj)⟩

end Left

/-! ### DONE and FAULT (R156, R157, R192) -/

section Results
variable {s : State} {p : Port} {j : PortJob} {g : Nat}

theorem SetterPort.awaited_of {v : SetterPort} (hstate : v.state = .setting) (hjob : v.job = some j) (hphase : j.phase = .awaiting) :
    v.awaited = some j := by
  simp [SetterPort.awaited, hjob, hstate, hphase]

theorem SetterPort.awaited_eq_none {v : SetterPort} (h : v.state ≠ .setting ∨ ∀ j ∈ v.job, j.phase = .sending) :
    v.awaited = none := by
  unfold SetterPort.awaited
  split
  next j hjob =>
    rw [if_neg]
    rintro ⟨hstate, hphase⟩
    rcases h with h | h
    · exact h hstate
    · exact absurd ((h j hjob).symm.trans hphase) (by decide)
  next => rfl

/-- Page `g` set and port `p` free of its job, before the port takes another (R156). -/
def State.jobDone (s : State) (p : Port) (g : Nat) : State :=
  ((s.moveStories g .setting .set).updPage g fun v =>
    { v with
      state := .set, margin := s.clock.margin
      job := v.job.map fun r => { r with remaining := 0, outcome := .done } }).updPort p fun v =>
    { v with state := .ready, job := none, lossTimer := none }

theorem State.completeJob_eq (s : State) (p : Port) (g : Nat) :
    s.completeJob p g = (s.jobDone p g).arbitrate.raise (.set g s.clock.margin) := rfl

theorem State.jobDone_sameOutput (s : State) (p : Port) (g : Nat) : SameOutputBut p s (s.jobDone p g) :=
  (SameOutputBut.of_output (s.moveStories_touches g .setting .set).output).trans (State.updPort_sameOutput p _)

theorem State.jobDone_samePages (s : State) (p : Port) (g : Nat) : SamePagesBut g s (s.jobDone p g) := by
  intro h hh
  rw [State.jobDone, State.updPort_page, State.page_updPage_ne _ hh, State.moveStories_page]

theorem State.jobDone_page (s : State) (p : Port) (hg : 1 ≤ g ∧ g ≤ 48) : (s.jobDone p g).page g = { s.page g with
    state := .set, margin := s.clock.margin
    job := (s.page g).job.map fun r => { r with remaining := 0, outcome := .done } } := by
  rw [State.jobDone, State.updPort_page, State.page_updPage_self _ hg, State.moveStories_page]

theorem State.jobDone_port (s : State) (p : Port) (g : Nat) : (s.jobDone p g).port p =
    { s.port p with state := .ready, job := none, lossTimer := none } := by
  rw [State.jobDone, State.port_updPort_self, State.updPage_port, (s.moveStories_touches g .setting .set).port]

theorem State.jobDone_keeps (s : State) (p : Port) (g : Nat) : ∀ a ∈ JobAspects, s.keeps (s.jobDone p g) a := by
  have hpage (t : State) (m : Option Margin) : OnlyMoves [.pageState, .pageJob] t (t.updPage g fun v =>
      { v with state := .set, margin := m, job := v.job.map fun r => { r with remaining := 0, outcome := .done } }) :=
    t.updPage_moves fun a ha => by cases a <;> first | exact trivial | exact rfl | exact absurd (by decide) ha
  have hmoves : OnlyMoves [.ports, .pageJob, .stage, .pageState] s (s.jobDone p g) :=
    ((s.moveStories_moves g).mono.step (hpage _ _)).step (State.updPort_moves _ p _)
  exact hmoves.keeps_job

theorem State.completeJob_channel (s : State) (p : Port) (g : Nat) :
    (s.completeJob p g).channel = s.channel.raise (.set g s.clock.margin) := by
  rw [State.completeJob_eq]
  refine congrArg (Channel.raise · _) ?_
  rw [(State.arbitrate_touches _).channel]
  exact (s.moveStories_touches g .setting .set).channel

theorem State.failJob_eq (s : State) (p : Port) (g : Nat) : s.failJob p g =
    (((s.updPort p fun v => { v with state := .halted, job := none, lossTimer := none }).endRecord g .fault).returnPage
      g).raise (.output p (.fault g)) := rfl

theorem State.failJob_returned (s : State) (p : Port) (hg : 1 ≤ g ∧ g ≤ 48) :
    PageReturned g (some .fault) s (s.failJob p g) :=
  (State.endRecord_returned (s.updPort p fun v => { v with state := .halted, job := none, lossTimer := none }) .fault hg).congr
    (fun _ => rfl) (by simp) rfl (State.withChannel_page _ _ _)

theorem State.failJob_output (s : State) (p : Port) (g : Nat) : (s.failJob p g).output =
    (s.updPort p fun v => { v with state := .halted, job := none, lossTimer := none }).output :=
  (State.returnPage_touches _ g).output

theorem State.failJob_channel (s : State) (p : Port) (g : Nat) :
    (s.failJob p g).channel = s.channel.raise (.output p (.fault g)) := by
  rw [State.failJob_eq]
  exact congrArg (Channel.raise · _) (State.returnPage_touches _ g).channel

end Results

/-- DONE for a port that awaits its result (R150, R156, R177). -/
theorem exec_resultDone {s : State} {p : Port} {j : PortJob} (hstate : (s.port p).state = .setting)
    (hjob : (s.port p).job = some j) (hphase : j.phase = .awaiting) (hg : 1 ≤ j.job.page ∧ j.job.page ≤ 48)
    (hqueue : ∀ q ∈ s.output.queue, q.page ≠ j.job.page) (hwaits : PortWaits (otherPort p) s) :
    ∃ t, exec (.resultDone p) s = .next t ∧ OnlyTouches [.stories, .pages, .output, .channel] s t ∧
      OnlyRaised [.set j.job.page s.clock.margin] s t ∧
      t.page j.job.page = { s.page j.job.page with
        state := .set, margin := s.clock.margin
        job := (s.page j.job.page).job.map fun r => { r with remaining := 0, outcome := .done } } ∧
      StoriesMoved j.job.page .setting .set s t ∧
      PortFreed p { s.port p with state := .ready, job := none, lossTimer := none } (some j.job.page) s t := by
  have hexec : exec (.resultDone p) s = .next (s.completeJob p j.job.page) := by
    change execResultDone p s = _
    rw [execResultDone, SetterPort.awaited_of hstate hjob hphase]
  obtain ⟨hfreed, hpage⟩ := State.arbitrate_left (u := s.jobDone p j.job.page) (by rw [State.jobDone_port]) hwaits
    (s.jobDone_sameOutput p _) (s.jobDone_samePages p _) (s.jobDone_keeps p _) hqueue
  rw [State.jobDone_port] at hfreed
  rw [s.jobDone_page p hg] at hpage
  have hstories : (s.completeJob p j.job.page).stories = (s.moveStories j.job.page .setting .set).stories := by
    rw [State.completeJob_eq]
    exact (State.arbitrate_touches _).stories
  refine ⟨_, hexec, (s.completeJob_touches p _).mono (by decide), s.completeJob_channel p _, ?_, ?_, ?_⟩
  · exact (State.withChannel_page _ _ _).trans hpage
  · exact (s.moveStories_moved j.job.page).congr (fun _ => rfl) rfl hstories
  · exact hfreed.withChannel _

/-- Settles O54: DONE, FAULT, any other value, and a result that no port awaits. -/
theorem resultCodes : Obligations.ResultCodes := by
  refine ⟨?_, ?_, fun s p value => rfl, ?_⟩
  · intro s p j g hstate hjob hphase hlow hhigh hqueue hwaits
    obtain ⟨t, hexec, htouch, hraised, hpage, hmoved, hfreed⟩ :=
      exec_resultDone hstate hjob hphase ⟨hlow, hhigh⟩ hqueue hwaits
    have hmargin : (t.page g).margin = s.clock.margin := by rw [hpage]
    refine ⟨t, hexec, htouch, ?_, ?_, ?_, hmoved, hfreed⟩
    · rwa [hmargin]
    · exact hmargin
    · rw [hmargin]
      exact hpage
  · intro s p j g hstate hjob hphase hlow hhigh
    have hexec : exec (.resultFault p) s = .next (s.failJob p g) := by
      change execResultFault p s = _
      rw [execResultFault, SetterPort.awaited_of hstate hjob hphase]
    refine ⟨_, hexec, (s.failJob_touches p g).mono (by decide), s.failJob_channel p g, ?_,
      s.failJob_returned p ⟨hlow, hhigh⟩, ?_, ?_⟩
    · intro h hh
      exact (State.withChannel_page _ _ _).trans ((State.endRecord_samePages _ g _ h hh).trans (State.updPort_page _ _ _ _))
    · exact (State.updPort_sameOutput p _).trans (SameOutputBut.of_output (s.failJob_output p g))
    · rw [State.port_of_output (s.failJob_output p g), State.port_updPort_self]
  · intro s p h
    constructor
    · change execResultDone p s = _
      rw [execResultDone, SetterPort.awaited_eq_none h]
    · change execResultFault p s = _
      rw [execResultFault, SetterPort.awaited_eq_none h]

/-! ### CANCEL (R139, R158) -/

section Cancel
variable {s : State} {g : Nat}

theorem State.cancel_releasing (hg : 1 ≤ g ∧ g ≤ 48) (hstate : (s.page g).state = .releasing) :
    s.cancel g = (.done, [2], s.returnPage g) := by
  simp [State.cancel, (pageOk_iff g).2 hg, hstate]
  rfl

theorem State.cancel_queued (hg : 1 ≤ g ∧ g ≤ 48) (hstate : (s.page g).state = .queued) :
    s.cancel g = (.done, [3], s.cancelQueued g) := by
  simp [State.cancel, (pageOk_iff g).2 hg, hstate]
  rfl

theorem State.cancel_setting {p : Port} (hg : 1 ≤ g ∧ g ≤ 48) (hstate : (s.page g).state = .setting)
    (hport : s.portOf g = some p) : s.cancel g = (.done, [4], (s.cancelAtPort p g .ready).arbitrate) := by
  simp [State.cancel, (pageOk_iff g).2 hg, hstate, State.cancelSetting, hport]
  rfl

theorem State.portOf_offer (i : Instr) : (s.offer i).portOf g = s.portOf g := by
  simp only [State.portOf, State.port_offer]

theorem PageReturned.of_offer {o : Option JobOutcome} {i : Instr} {t : State} (h : PageReturned g o (s.offer i) t) (c : Channel) :
    PageReturned g o s (t.withChannel c) :=
  h.congr (fun n => (s.story_offer i n).symm) (s.page_offer i g).symm rfl (State.withChannel_page _ _ _)

theorem SamePagesBut.of_offer {i : Instr} {t : State} (h : SamePagesBut g (s.offer i) t) (c : Channel) :
    SamePagesBut g s (t.withChannel c) := by
  intro k hk
  rw [State.withChannel_page, h k hk, State.page_offer]

theorem State.cancelQueued_returned (s : State) (hg : 1 ≤ g ∧ g ≤ 48) : PageReturned g (some .cancelled) s (s.cancelQueued g) :=
  (State.endRecord_returned (s.setQueue (s.output.queue.filter fun j => j.page ≠ g)) .cancelled hg).congr (fun _ => rfl) (State.setQueue_page _ _ _).symm rfl rfl

/-- CANCEL's job off its port: the page returned, the abort code pending, and the port freed (R150, R158). -/
theorem State.cancelAtPort_freed {p : Port} (hg : 1 ≤ g ∧ g ≤ 48) (hwaits : PortWaits (otherPort p) s)
    (hjobs : ∀ j ∈ s.output.queue, j.page ≠ g) :
    PageReturned g (some .cancelled) s (s.cancelAtPort p g .ready).arbitrate ∧
      ((s.cancelAtPort p g .ready).arbitrate.port p).abort = true ∧
      PortFreed p ((s.port p).cancelled .ready) (some g) s (s.cancelAtPort p g .ready).arbitrate := by
  have hport : (s.cancelAtPort p g .ready).port p = (s.port p).cancelled .ready := by
    rw [State.cancelAtPort_port, if_pos rfl]
  have hout := State.cancelAtPort_sameOutput (s := s) (p := p) (g := g) .ready
  obtain ⟨hfreed, hpage⟩ := State.arbitrate_left (u := s.cancelAtPort p g .ready) (by rw [hport]; rfl) hwaits
    hout (State.cancelAtPort_samePages .ready)
    (s.cancelAtPort_moves p g .ready).keeps_job hjobs
  rw [hport] at hfreed
  refine ⟨?_, ?_, hfreed⟩
  · exact (State.cancelAtPort_returned .ready hg).congr (fun _ => rfl) rfl (State.arbitrate_touches _).stories hpage
  · have hwaits' : PortWaits (otherPort p) (s.cancelAtPort p g .ready) := hwaits.congr hout.2.2 fun j hj => hout.1 ▸ hj
    rw [State.arbitrate_eq hwaits', State.portTakes_abort, hport]
    rfl

end Cancel

end Sys2Proof.Machine

/-! Ports lost with their jobs, and releases decided (R136 to R138, R159 to R161). -/

namespace Sys2Proof.Machine

section Arbiter
variable {s : State} {before after : List Job} {j : Job}

/-- Port A takes the nearest job it may serve, and port B none of those left (R150). -/
theorem State.arbitrate_takes_a (hready : (s.port .a).state = .ready) (hqueue : s.output.queue = before ++ j :: after)
    (hbefore : ∀ i ∈ before, i.choice.allows .a = false) (hj : j.choice.allows .a = true)
    (hwaits : PortWaits .b (s.setQueue (before ++ after))) : s.arbitrate = (s.setQueue (before ++ after)).beginJob .a j := by
  rw [State.arbitrate, State.portTakes_of_ready hready hqueue hbefore hj]
  obtain ⟨hq, -, hother⟩ := State.beginJob_sameOutput (s := s.setQueue (before ++ after)) .a j
  exact State.portTakes_of_waits (hwaits.congr hother fun k hk => hq ▸ hk)

/-- Port B takes the nearest job it may serve, where port A takes none (R150). -/
theorem State.arbitrate_takes_b (hready : (s.port .b).state = .ready) (hqueue : s.output.queue = before ++ j :: after)
    (hbefore : ∀ i ∈ before, i.choice.allows .b = false) (hj : j.choice.allows .b = true) (hwaits : PortWaits .a s) :
    s.arbitrate = (s.setQueue (before ++ after)).beginJob .b j := by
  rw [State.arbitrate_eq (p := .b) hwaits, State.portTakes_of_ready hready hqueue hbefore hj]

theorem State.arbitrate_of_waits (h : ∀ p, PortWaits p s) : s.arbitrate = s := by
  rw [State.arbitrate_eq (h _), State.portTakes_of_waits (h .a)]

/-- A job begun reads of the state before its page, and of that no more than the state and the record it writes. -/
theorem JobBegun.of_page {u t : State} {p : Port} {v : SetterPort} {units : List (List Byte)} {st : PageState}
    {record : Option JobRecord} (h : JobBegun p v j units u t)
    (hpage : u.page j.page = { s.page j.page with state := st, job := record }) : JobBegun p v j units s t := by
  obtain ⟨hport, hbegun⟩ := h
  refine ⟨hport, ?_⟩
  rw [hbegun, hpage]

end Arbiter

/-! ### A port lost with its job (R159 to R161) -/

section Loss
variable {s : State} {p : Port} {j : PortJob} {g : Nat}

/-- The notice of a loss, where the latch was clear (R161). -/
def State.lossTold (s : State) (p : Port) (g : Nat) (f : Fate) : List Notice :=
  if (s.port p).lossLatch = true then [] else [.output p (.lost g f)]

/-- Port `p` lost and the loss told (R160, R161). -/
def State.portLost (s : State) (p : Port) (g : Nat) (f : Fate) : State :=
  (s.updPort p SetterPort.loseJob).withChannel ((s.lossTold p g f).foldl Channel.raise s.channel)

theorem State.withChannel_touches (s : State) (c : Channel) : OnlyTouches [.channel] s (s.withChannel c) :=
  s.setChannel_touches c

theorem State.portLost_touches (s : State) (p : Port) (g : Nat) (f : Fate) :
    OnlyTouches [.output, .channel] s (s.portLost p g f) :=
  ((s.updPort_touches p _).mono (by decide)).trans (State.withChannel_touches _ _) (by decide)

theorem State.portLost_moves (s : State) (p : Port) (g : Nat) (f : Fate) :
    OnlyMoves [.ports, .channel] s (s.portLost p g f) :=
  (s.updPort_moves p _).mono.step ((State.withChannel_touches _ _).moves_channel (by decide))

theorem State.portLost_port (s : State) (p : Port) (g : Nat) (f : Fate) (q : Port) :
    (s.portLost p g f).port q = if q = p then (s.port p).loseJob else s.port q := by
  rw [State.portLost, State.withChannel_port, State.port_updPort]

theorem State.portLost_sameOutput (s : State) (p : Port) (g : Nat) (f : Fate) : SameOutputBut p s (s.portLost p g f) :=
  (State.updPort_sameOutput p _).withChannel _

theorem State.portLost_page (s : State) (p : Port) (g : Nat) (f : Fate) (h : Nat) : (s.portLost p g f).page h = s.page h := by
  rw [State.portLost, State.withChannel_page, State.updPort_page]

/-- The lost port takes no job. -/
theorem State.portLost_waits {u : State} (h : u.port p = (s.port p).loseJob) : PortWaits p u := by
  intro hready
  rw [h] at hready
  exact absurd hready (by simp [SetterPort.loseJob])

/-- The job of a lost port as it starts anew (R147, R160). -/
def Job.again (j : Job) : Job := { j with restarts := min 255 (j.restarts + 1) }

theorem State.losePort_eq (s : State) (p : Port) (j : PortJob) : s.losePort p j =
    match s.lossFate p with
    | .failover => ((s.portLost p j.job.page .failover).beginJob (otherPort p) j.job.again).raise
        (.output (otherPort p) (.failover j.job.page))
    | .requeued => ((((s.portLost p j.job.page .requeued).setQueue (j.job.again :: s.output.queue)).recordJob j.job.page
        (freshRecord j.job.again none)).updPage j.job.page fun v => { v with state := .queued }).arbitrate
    | .returned => (((s.portLost p j.job.page .returned).recordJob j.job.page
        { freshRecord j.job.again none with outcome := .cancelled }).returnPage j.job.page).raise
          (.release j.job.page .queueFull) := by
  have htold (f : Fate) : (if (s.port p).lossLatch then s.updPort p SetterPort.loseJob
      else (s.updPort p SetterPort.loseJob).raise (.output p (.lost j.job.page f))) = s.portLost p j.job.page f := by
    unfold State.portLost State.lossTold
    split <;> rfl
  have hqueue : (s.portLost p j.job.page .requeued).output.queue = s.output.queue := (s.portLost_sameOutput p _ _).1
  unfold State.losePort
  simp only [htold]
  cases s.lossFate p with
  | failover => rfl
  | requeued =>
    simp only [hqueue]
    rfl
  | returned => rfl

theorem execPortLoss_due {seconds : Nat} (htimer : (s.port p).lossTimer = some seconds) (hdue : seconds ≤ 1)
    (hjob : (s.port p).job = some j) : exec (.portLoss p) s = .next (s.losePort p j) := by
  change Host.Outcome.next _ = _
  rw [if_pos (by simp [State.lossDue, htimer, hdue])]
  simp only [State.lossExpires, hjob]

theorem State.portLost_units (g : Nat) (f : Fate) (h : Nat) : (s.portLost p g f).jobUnits h = s.jobUnits h :=
  State.jobUnits_congr (s.portLost_moves p g f).keeps_job (by rw [State.portLost_page]) (by rw [State.portLost_page])

/-- A job begun after its port was lost: its codes and its page are those the job had there (R160). -/
theorem State.beginJob_lost {q : Port} {job : Job} {f : Fate} (hq : q ≠ p) (hg : 1 ≤ job.page ∧ job.page ≤ 48) :
    JobBegun q (s.port q) job (s.jobUnits job.page) s ((s.portLost p g f).beginJob q job) := by
  have h := State.beginJob_begun (s := s.portLost p g f) q hg
  rw [State.portLost_port, if_neg hq, State.portLost_units] at h
  exact h.of_page (State.portLost_page _ _ _ _ _)

/-- The lost port's job moved to the other port (R160). -/
theorem State.losePort_failover (hg : 1 ≤ j.job.page ∧ j.job.page ≤ 48) (hfate : s.lossFate p = .failover) :
    SamePagesBut j.job.page s (s.losePort p j) ∧ (s.losePort p j).output.xlate = s.output.xlate ∧
      (s.losePort p j).port p = (s.port p).loseJob ∧
      OnlyRaised (s.lossTold p j.job.page .failover ++ [.output (otherPort p) (.failover j.job.page)]) s (s.losePort p j) ∧
      (s.losePort p j).stories = s.stories ∧ (s.losePort p j).output.queue = s.output.queue ∧
      JobBegun (otherPort p) (s.port (otherPort p)) j.job.again (s.jobUnits j.job.page) s (s.losePort p j) := by
  have hother : otherPort p ≠ p := by cases p <;> decide
  have hpo : otherPort (otherPort p) = p := by cases p <;> rfl
  obtain ⟨hq, hx, ho⟩ := State.beginJob_sameOutput (s := s.portLost p j.job.page .failover) (otherPort p) j.job.again
  obtain ⟨hlq, hlx, -⟩ := s.portLost_sameOutput p j.job.page .failover
  have hlost : s.losePort p j = ((s.portLost p j.job.page .failover).beginJob (otherPort p) j.job.again).raise
      (.output (otherPort p) (.failover j.job.page)) := by rw [State.losePort_eq, hfate]
  have hpages := State.beginJob_samePages (s := s.portLost p j.job.page .failover) (otherPort p) j.job.again
  have hbegun := State.beginJob_lost (s := s) (f := .failover) (g := j.job.page) (job := j.job.again) hother hg
  have hchannel := (State.beginJob_touches (s.portLost p j.job.page .failover) (otherPort p) j.job.again).channel
  have hstories := (State.beginJob_touches (s.portLost p j.job.page .failover) (otherPort p) j.job.again).stories
  rw [hlost]
  generalize (s.portLost p j.job.page .failover).beginJob (otherPort p) j.job.again = u at *
  refine ⟨fun h hh => ?_, hx.trans hlx, ?_, ?_, hstories, hq.trans hlq, hbegun.withChannel _⟩
  · rw [State.raise_page, hpages h hh, State.portLost_page]
  · rw [hpo, State.portLost_port, if_pos rfl] at ho
    rw [State.raise_port, ho]
  · rw [OnlyRaised, List.foldl_append]
    exact congrArg (Channel.raise · _) hchannel

/-- The lost port's job back at the head of the queue, before the other port may take it (R160). -/
def State.jobRequeued (s : State) (p : Port) (j : PortJob) : State :=
  (((s.portLost p j.job.page .requeued).setQueue (j.job.again :: s.output.queue)).recordJob j.job.page
    (freshRecord j.job.again none)).updPage j.job.page fun v => { v with state := .queued }

theorem State.losePort_requeued_eq (hfate : s.lossFate p = .requeued) : s.losePort p j = (s.jobRequeued p j).arbitrate := by
  rw [State.losePort_eq, hfate]
  rfl

theorem State.jobRequeued_port (s : State) (p : Port) (j : PortJob) (q : Port) :
    (s.jobRequeued p j).port q = if q = p then (s.port p).loseJob else s.port q := by
  rw [State.jobRequeued, State.updPage_port, State.recordJob, State.updPage_port, State.setQueue_port, State.portLost_port]

theorem State.jobRequeued_page (s : State) (p : Port) (hg : 1 ≤ j.job.page ∧ j.job.page ≤ 48) :
    (s.jobRequeued p j).page j.job.page = { s.page j.job.page with
      state := .queued, job := some (freshRecord j.job.again none) } := by
  rw [State.jobRequeued, State.page_updPage_self _ hg, State.recordJob, State.page_updPage_self _ hg, State.setQueue_page,
    State.portLost_page]

theorem State.jobRequeued_samePages (s : State) (p : Port) (j : PortJob) : SamePagesBut j.job.page s (s.jobRequeued p j) := by
  intro h hh
  rw [State.jobRequeued, State.page_updPage_ne _ hh, State.recordJob, State.page_updPage_ne _ hh, State.setQueue_page,
    State.portLost_page]

theorem State.jobRequeued_output (s : State) (p : Port) (j : PortJob) :
    (s.jobRequeued p j).output.queue = j.job.again :: s.output.queue ∧
      (s.jobRequeued p j).output.xlate = s.output.xlate :=
  ⟨rfl, (s.portLost_sameOutput p j.job.page .requeued).2.1⟩

theorem State.jobRequeued_units (s : State) (p : Port) (hg : 1 ≤ j.job.page ∧ j.job.page ≤ 48) :
    (s.jobRequeued p j).jobUnits j.job.page = s.jobUnits j.job.page := by
  have hmoves : OnlyMoves [.ports, .channel, .queue, .pageJob, .pageState] s (s.jobRequeued p j) :=
    (((s.portLost_moves p _ _).mono.step (State.setQueue_moves _ _)).step (State.recordJob_moves _ _ _)).step
      (State.setPageState_moves _ _ _)
  exact State.jobUnits_congr hmoves.keeps_job (by rw [s.jobRequeued_page p hg]) (by rw [s.jobRequeued_page p hg])

/-- The other port takes the job from the head of the queue (R150, R160). -/
theorem State.losePort_taken (hfate : s.lossFate p = .requeued)
    (hready : (s.port (otherPort p)).state = .ready) (hallows : j.job.choice.allows (otherPort p) = true) :
    s.losePort p j = ((s.jobRequeued p j).setQueue s.output.queue).beginJob (otherPort p) j.job.again := by
  have hother : otherPort p ≠ p := by cases p <;> decide
  have hpo : otherPort (otherPort p) = p := by cases p <;> rfl
  rw [State.losePort_requeued_eq hfate, State.arbitrate_eq (p := otherPort p) ?_]
  · exact State.portTakes_of_ready (before := []) (by rwa [State.jobRequeued_port, if_neg hother]) rfl (by simp) hallows
  · rw [hpo]
    exact State.portLost_waits (s := s) (by rw [State.jobRequeued_port, if_pos rfl])

/-- The job waits at the head of the queue (R160). -/
theorem State.losePort_waits (hfate : s.lossFate p = .requeued) (hwaits : PortWaits (otherPort p) s)
    (hnone : ¬((s.port (otherPort p)).state = .ready ∧ j.job.choice.allows (otherPort p) = true)) :
    s.losePort p j = s.jobRequeued p j := by
  have hother : otherPort p ≠ p := by cases p <;> decide
  have hp : PortWaits p (s.jobRequeued p j) := State.portLost_waits (s := s) (by rw [State.jobRequeued_port, if_pos rfl])
  have ho : PortWaits (otherPort p) (s.jobRequeued p j) := by
    intro hready k hk
    rw [State.jobRequeued_port, if_neg hother] at hready
    rw [(s.jobRequeued_output p j).1] at hk
    rcases List.mem_cons.1 hk with rfl | hk
    · simpa [Job.again] using fun h => hnone ⟨hready, h⟩
    · exact hwaits hready k hk
  rw [State.losePort_requeued_eq hfate, State.arbitrate_of_waits]
  intro q
  cases p <;> cases q <;> assumption

/-- The page returned, the queue being full (R140, R161). -/
theorem State.losePort_returned (hg : 1 ≤ j.job.page ∧ j.job.page ≤ 48) (hfate : s.lossFate p = .returned) :
    SamePagesBut j.job.page s (s.losePort p j) ∧ SameOutputBut p s (s.losePort p j) ∧
      (s.losePort p j).port p = (s.port p).loseJob ∧
      OnlyRaised (s.lossTold p j.job.page .returned ++ [.release j.job.page .queueFull]) s (s.losePort p j) ∧
      StoriesMoved j.job.page .setting .placed s (s.losePort p j) ∧
      (s.losePort p j).page j.job.page = { s.page j.job.page with
        state := .makeup, trim := false, fit := (s.losePort p j).judgement ((s.losePort p j).page j.job.page)
        job := some { freshRecord j.job.again none with outcome := .cancelled } } := by
  have hlost : s.losePort p j = (((s.portLost p j.job.page .returned).recordJob j.job.page
      { freshRecord j.job.again none with outcome := .cancelled }).returnPage j.job.page).raise
        (.release j.job.page .queueFull) := by rw [State.losePort_eq, hfate]
  have hrecord : ((s.portLost p j.job.page .returned).recordJob j.job.page
      { freshRecord j.job.again none with outcome := .cancelled }).page j.job.page =
      { s.page j.job.page with job := some { freshRecord j.job.again none with outcome := .cancelled } } := by
    rw [State.recordJob, State.page_updPage_self _ hg, State.portLost_page]
  have hothers (h : Nat) (hh : h ≠ j.job.page) : ((s.portLost p j.job.page .returned).recordJob j.job.page
      { freshRecord j.job.again none with outcome := .cancelled }).page h = s.page h := by
    rw [State.recordJob, State.page_updPage_ne _ hh, State.portLost_page]
  have hrest := State.recordJob_touches (s.portLost p j.job.page .returned) j.job.page
    { freshRecord j.job.again none with outcome := .cancelled }
  have hchannel : (s.portLost p j.job.page .returned).channel =
    (s.lossTold p j.job.page .returned).foldl Channel.raise s.channel := rfl
  rw [hlost]
  generalize (s.portLost p j.job.page .returned).recordJob j.job.page
    { freshRecord j.job.again none with outcome := .cancelled } = u at *
  have htouch := u.returnPage_touches j.job.page
  obtain ⟨hmoved, hpage⟩ := u.returnPage_returned hg
  have houtput : ((u.returnPage j.job.page).raise (.release j.job.page .queueFull)).output =
      (s.portLost p j.job.page .returned).output := htouch.output.trans hrest.output
  refine ⟨fun h hh => ?_, ?_, ?_, ?_, ?_, ?_⟩
  · rw [State.raise_page, State.returnPage_samePages _ _ h hh, hothers h hh]
  · exact (s.portLost_sameOutput p j.job.page .returned).trans (SameOutputBut.of_output houtput)
  · rw [State.port_of_output houtput, State.portLost_port, if_pos rfl]
  · rw [OnlyRaised, List.foldl_append, ← hchannel, ← hrest.channel, ← htouch.channel]
    rfl
  · exact hmoved.congr (fun n => by rw [hrest.story, (s.portLost_touches p _ _).story]) (by rw [hrecord]; rfl) rfl
  · rw [State.raise_page]
    refine hpage.trans ?_
    rw [hrecord]
    rfl

theorem State.lossFate_failover (h : (s.port p).failover = true ∧ (s.port (otherPort p)).state = .ready) :
    s.lossFate p = .failover := if_pos h

theorem State.lossFate_requeued (h : ¬((s.port p).failover = true ∧ (s.port (otherPort p)).state = .ready))
    (hroom : s.output.queue.length < 16) : s.lossFate p = .requeued := by
  rw [State.lossFate, if_neg h, if_pos (by simpa [Config.queue] using hroom)]

theorem State.lossFate_returned (h : ¬((s.port p).failover = true ∧ (s.port (otherPort p)).state = .ready))
    (hfull : ¬s.output.queue.length < 16) : s.lossFate p = .returned := by
  rw [State.lossFate, if_neg h, if_neg (by simpa [Config.queue] using hfull)]

/-- What a re-queued job leaves, whether or not the other port takes it at once (R150, R160). -/
theorem State.losePort_requeued (hg : 1 ≤ j.job.page ∧ j.job.page ≤ 48) (hfate : s.lossFate p = .requeued)
    (hwaits : PortWaits (otherPort p) s) :
    SamePagesBut j.job.page s (s.losePort p j) ∧ (s.losePort p j).output.xlate = s.output.xlate ∧
      (s.losePort p j).port p = (s.port p).loseJob ∧ OnlyRaised (s.lossTold p j.job.page .requeued) s (s.losePort p j) ∧
      (s.losePort p j).stories = s.stories ∧
      if (s.port (otherPort p)).state = .ready ∧ j.job.choice.allows (otherPort p) = true then
        (s.losePort p j).output.queue = s.output.queue ∧
          JobBegun (otherPort p) (s.port (otherPort p)) j.job.again (s.jobUnits j.job.page) s (s.losePort p j)
      else (s.losePort p j).output.queue = j.job.again :: s.output.queue ∧
        (s.losePort p j).port (otherPort p) = s.port (otherPort p) ∧
        (s.losePort p j).page j.job.page = { s.page j.job.page with
          state := .queued, job := some (freshRecord j.job.again none) } := by
  have hother : otherPort p ≠ p := by cases p <;> decide
  have hpo : otherPort (otherPort p) = p := by cases p <;> rfl
  have hport := s.jobRequeued_port p j
  have hpages := s.jobRequeued_samePages p j
  have hpage := s.jobRequeued_page p (j := j) hg
  obtain ⟨hqueue, hxlate⟩ := s.jobRequeued_output p j
  have hunits := s.jobRequeued_units p (j := j) hg
  have hchannel : OnlyRaised (s.lossTold p j.job.page .requeued) s (s.jobRequeued p j) := rfl
  have hstories : (s.jobRequeued p j).stories = s.stories := rfl
  split
  next h =>
    rw [State.losePort_taken hfate h.1 h.2]
    generalize s.jobRequeued p j = u at *
    obtain ⟨hq, hx, ho⟩ := State.beginJob_sameOutput (s := u.setQueue s.output.queue) (otherPort p) j.job.again
    have htouch := State.beginJob_touches (u.setQueue s.output.queue) (otherPort p) j.job.again
    have hbegun := State.beginJob_begun (s := u.setQueue s.output.queue) (j := j.job.again) (otherPort p) hg
    have hunits' : (u.setQueue s.output.queue).jobUnits j.job.page = u.jobUnits j.job.page :=
      State.jobUnits_congr (u.setQueue_moves _).keeps_job rfl rfl
    rw [State.setQueue_port, hport, if_neg hother] at hbegun
    refine ⟨fun k hk => ?_, hx.trans hxlate, ?_, htouch.channel.trans hchannel, htouch.stories.trans hstories, hq, ?_⟩
    · rw [State.beginJob_samePages (otherPort p) j.job.again k hk, State.setQueue_page, hpages k hk]
    · rw [hpo, State.setQueue_port, hport, if_pos rfl] at ho
      exact ho
    · refine JobBegun.of_page (u := u.setQueue s.output.queue) ?_ hpage
      rw [← hunits, ← hunits']
      exact hbegun
  next h =>
    rw [State.losePort_waits hfate hwaits h]
    exact ⟨hpages, hxlate, by rw [hport, if_pos rfl], hchannel, hstories, hqueue, by rw [hport, if_neg hother], hpage⟩

end Loss

/-- Settles O55: a lost port's job fails over, is queued again, or returns its page. -/
theorem portLossMovesJob : Obligations.PortLossMovesJob := by
  intro s p j seconds g o job told htimer hdue hjob hlow hhigh hwaits
  refine ⟨_, execPortLoss_due htimer hdue hjob, (s.losePort_touches p j).mono (by decide), ?_⟩
  by_cases hfail : (s.port p).failover = true ∧ (s.port o).state = .ready
  · obtain ⟨hpages, hxlate, hport, hraised, hstories, hqueue, hbegun⟩ :=
      State.losePort_failover (j := j) ⟨hlow, hhigh⟩ (State.lossFate_failover hfail)
    rw [if_pos hfail]
    exact ⟨hpages, hxlate, hport, hraised, hstories, hqueue, hbegun⟩
  · rw [if_neg hfail]
    by_cases hroom : s.output.queue.length < 16
    · obtain ⟨hpages, hxlate, hport, hraised, hstories, hrest⟩ :=
        State.losePort_requeued (j := j) ⟨hlow, hhigh⟩ (State.lossFate_requeued hfail hroom) hwaits
      rw [if_pos hroom]
      exact ⟨hpages, hxlate, hport, hraised, hstories, hrest⟩
    · obtain ⟨hpages, ⟨hqueue, hxlate, hothers⟩, hport, hraised, hmoved, hpage⟩ :=
        State.losePort_returned (j := j) ⟨hlow, hhigh⟩ (State.lossFate_returned hfail hroom)
      rw [if_neg hroom]
      exact ⟨hpages, hxlate, hport, hraised, hqueue, hothers, hmoved, hpage⟩

end Sys2Proof.Machine

/-! The outcome of a release (R136 to R138), and RELEASE (R135). -/

namespace Sys2Proof.Machine

section Decide
variable {s : State} {g : Nat}

theorem State.page_congr {t : State} (h : t.pages = s.pages) (k : Nat) : t.page k = s.page k := by
  cases k <;> simp only [State.page, h]

/-- The job built for page `g` (R137). -/
def State.pageJob (s : State) (g : Nat) : Job :=
  { page := g, choice := (s.page g).choice, total := s.jobTotal g, restarts := 0 }

/-- Page `g` QUEUED with its job at the queue's tail, before a port may take it (R137). -/
def State.pageQueued (s : State) (g : Nat) : State :=
  ((((s.setQueue (s.output.queue ++ [s.pageJob g])).recordJob g (freshRecord (s.pageJob g) none)).updPage g fun p =>
    { p with state := .queued }).moveStories g .placed .setting).raise (.release g .queued)

theorem State.pageQueued_page (s : State) (hg : 1 ≤ g ∧ g ≤ 48) : (s.pageQueued g).page g = { s.page g with
    state := .queued, job := some (freshRecord (s.pageJob g) none) } := by
  rw [State.pageQueued, State.raise_page, State.moveStories_page, State.page_updPage_self _ hg, State.recordJob,
    State.page_updPage_self _ hg, State.setQueue_page]

theorem State.pageQueued_samePages (s : State) (g : Nat) : SamePagesBut g s (s.pageQueued g) := by
  intro h hh
  rw [State.pageQueued, State.raise_page, State.moveStories_page, State.page_updPage_ne _ hh, State.recordJob,
    State.page_updPage_ne _ hh, State.setQueue_page]

theorem State.pageQueued_output (s : State) (g : Nat) : (s.pageQueued g).output =
    { s.output with queue := s.output.queue ++ [s.pageJob g] } :=
  (State.moveStories_touches (((s.setQueue (s.output.queue ++ [s.pageJob g])).recordJob g
    (freshRecord (s.pageJob g) none)).updPage g fun p => { p with state := .queued }) g .placed .setting).output

theorem State.pageQueued_port (s : State) (g : Nat) (p : Port) : (s.pageQueued g).port p = s.port p := by
  cases p <;> simp only [State.port, State.pageQueued_output]

theorem State.pageQueued_moved (s : State) (g : Nat) : StoriesMoved g .placed .setting s (s.pageQueued g) := by
  have h := State.moveStories_moved (((s.setQueue (s.output.queue ++ [s.pageJob g])).recordJob g
    (freshRecord (s.pageJob g) none)).updPage g fun p => { p with state := .queued }) g (old := .placed) (new := .setting)
  refine h.congr (fun _ => rfl) (Page.stories_congr ?_) rfl
  by_cases hg : 1 ≤ g ∧ g ≤ 48
  · rw [State.page_updPage_self _ hg, State.recordJob, State.page_updPage_self _ hg, State.setQueue_page]
  · rw [State.page_eq_shut hg, State.page_eq_shut hg]

theorem State.pageQueued_channel (s : State) (g : Nat) : (s.pageQueued g).channel = s.channel.raise (.release g .queued) :=
  congrArg (Channel.raise · _) (State.moveStories_touches (((s.setQueue (s.output.queue ++ [s.pageJob g])).recordJob g
    (freshRecord (s.pageJob g) none)).updPage g fun p => { p with state := .queued }) g .placed .setting).channel

theorem State.pageQueued_moves (s : State) (g : Nat) :
    OnlyMoves [.queue, .pageJob, .pageState, .stage, .channel] s (s.pageQueued g) :=
  ((((s.setQueue_moves _).mono.step (State.recordJob_moves _ g _)).step (State.setPageState_moves _ g _)).step
    (State.moveStories_moves _ g)).step ((State.raise_touches _ _).moves_channel)

/-- Port `x` has taken the job of page `g`, just queued (R137, R150). -/
theorem State.pageQueued_begun (s : State) (hg : 1 ≤ g ∧ g ≤ 48) (x : Port) :
    let t := ((s.pageQueued g).setQueue s.output.queue).beginJob x (s.pageJob g)
    t.output.queue = s.output.queue ∧ t.output.xlate = s.output.xlate ∧ t.port (otherPort x) = s.port (otherPort x) ∧
      JobBegun x (s.port x) (s.pageJob g) (s.jobUnits g) s t ∧ SamePagesBut g s t := by
  obtain ⟨hq, hx, ho⟩ := State.beginJob_sameOutput (s := (s.pageQueued g).setQueue s.output.queue) x (s.pageJob g)
  have hbegun := State.beginJob_begun (s := (s.pageQueued g).setQueue s.output.queue) (j := s.pageJob g) x hg
  have hpage := s.pageQueued_page hg
  have hunits : ((s.pageQueued g).setQueue s.output.queue).jobUnits g = s.jobUnits g := by
    refine State.jobUnits_congr ((s.pageQueued_moves g).step ((s.pageQueued g).setQueue_moves _)).keeps_job ?_ ?_ <;>
      rw [State.setQueue_page, hpage]
  rw [State.setQueue_port, State.pageQueued_port] at hbegun ho
  refine ⟨hq, hx.trans ?_, ho, ?_, ?_⟩
  · change (s.pageQueued g).output.xlate = _
    rw [State.pageQueued_output]
  · refine JobBegun.of_page (u := (s.pageQueued g).setQueue s.output.queue) ?_ hpage
    rw [← hunits]
    exact hbegun
  · intro h hh
    rw [State.beginJob_samePages x (s.pageJob g) h hh, State.setQueue_page, s.pageQueued_samePages g h hh]

/-- The notice of a release's outcome (R136 to R138). -/
def State.releaseNotice (s : State) (g : Nat) : Notice :=
  if (s.page g).fit = .over ∧ (s.page g).trim = false then .release g .overset
  else if 16 ≤ s.output.queue.length then .release g .queueFull
  else .release g .queued

theorem State.decideRelease_overset (h : (s.page g).fit = .over ∧ (s.page g).trim = false) :
    s.decideRelease g = (s.returnPage g).raise (.release g .overset) := if_pos h

theorem State.decideRelease_full (h : ¬((s.page g).fit = .over ∧ (s.page g).trim = false)) (hfull : 16 ≤ s.output.queue.length) :
    s.decideRelease g = (s.returnPage g).raise (.release g .queueFull) := (if_neg h).trans (if_pos hfull)

theorem State.decideRelease_queued (h : ¬((s.page g).fit = .over ∧ (s.page g).trim = false))
    (hroom : ¬16 ≤ s.output.queue.length) : s.decideRelease g = (s.pageQueued g).arbitrate := (if_neg h).trans (if_neg hroom)

theorem State.decideRelease_channel (s : State) (g : Nat) :
    (s.decideRelease g).channel = s.channel.raise (s.releaseNotice g) := by
  unfold State.releaseNotice
  by_cases hover : (s.page g).fit = .over ∧ (s.page g).trim = false
  · rw [State.decideRelease_overset hover, if_pos hover]
    exact congrArg (Channel.raise · _) (s.returnPage_touches g).channel
  · rw [if_neg hover]
    by_cases hfull : 16 ≤ s.output.queue.length
    · rw [State.decideRelease_full hover hfull, if_pos hfull]
      exact congrArg (Channel.raise · _) (s.returnPage_touches g).channel
    · rw [State.decideRelease_queued hover hfull, if_neg hfull, (State.arbitrate_touches _).channel, State.pageQueued_channel]

/-- A page returned with a notice: the output path and the other pages stand. -/
theorem State.returnPage_raised (s : State) (hg : 1 ≤ g ∧ g ≤ 48) (n : Notice) :
    SamePagesBut g s ((s.returnPage g).raise n) ∧ ((s.returnPage g).raise n).output = s.output ∧
      PageReturned g none s ((s.returnPage g).raise n) :=
  ⟨fun h hh => s.returnPage_samePages g h hh, (s.returnPage_touches g).output,
    (s.returnPage_returned hg).congr (fun _ => rfl) rfl rfl rfl⟩

/-- The page's job queued, and where a READY port takes it at once (R137, R150). -/
theorem State.pageQueued_arbitrate (hg : 1 ≤ g ∧ g ≤ 48) (hwaits : ∀ x, PortWaits x s) :
    let t := (s.pageQueued g).arbitrate
    let takes (x : Port) : Prop := (s.port x).state = .ready ∧ (s.page g).choice.allows x = true
    let begun (x : Port) : Prop :=
      t.output.queue = s.output.queue ∧ t.output.xlate = s.output.xlate ∧ t.port (otherPort x) = s.port (otherPort x) ∧
      JobBegun x (s.port x) (s.pageJob g) (s.jobUnits g) s t
    SamePagesBut g s t ∧ (takes .a → begun .a) ∧ (¬takes .a → takes .b → begun .b) ∧
      (¬takes .a → ¬takes .b → t.output = { s.output with queue := s.output.queue ++ [s.pageJob g] } ∧
        t.page g = { s.page g with state := .queued, job := some (freshRecord (s.pageJob g) none) }) := by
  intro t takes begun
  have hqueue : (s.pageQueued g).output.queue = s.output.queue ++ s.pageJob g :: [] := by rw [State.pageQueued_output]
  have hport := s.pageQueued_port g
  have hleft (x : Port) (h : ¬takes x) : PortWaits x (s.pageQueued g) := by
    intro hready j hj
    rw [hport] at hready
    rcases List.mem_append.1 (hqueue ▸ hj) with hj | hj
    · exact hwaits x hready j hj
    · rw [List.mem_singleton.1 hj]
      simpa [State.pageJob] using fun hallows => h ⟨hready, hallows⟩
  have htaken (x : Port) (ht : t = ((s.pageQueued g).setQueue s.output.queue).beginJob x (s.pageJob g)) :
      begun x ∧ SamePagesBut g s t := by
    obtain ⟨hq, hx, ho, hbegun, hpages⟩ := s.pageQueued_begun hg x
    simp only [begun, ht]
    exact ⟨⟨hq, hx, ho, hbegun⟩, hpages⟩
  by_cases ha : takes .a
  · have h := htaken .a (by
      rw [← List.append_nil s.output.queue]
      refine State.arbitrate_takes_a (by rw [hport]; exact ha.1) hqueue (hwaits .a ha.1) ha.2 ?_
      exact (hwaits .b).congr ((State.setQueue_port _ _ _).trans (hport _)) fun j hj => by simpa using hj)
    exact ⟨h.2, fun _ => h.1, fun hna => absurd ha hna, fun hna => absurd ha hna⟩
  · by_cases hb : takes .b
    · have h := htaken .b (by
        rw [← List.append_nil s.output.queue]
        exact State.arbitrate_takes_b (by rw [hport]; exact hb.1) hqueue (hwaits .b hb.1) hb.2 (hleft .a ha))
      exact ⟨h.2, fun hta => absurd hta ha, fun _ _ => h.1, fun _ hnb => absurd hb hnb⟩
    · have ht : t = s.pageQueued g := State.arbitrate_of_waits fun x => by cases x <;> exact hleft _ (by assumption)
      rw [ht]
      exact ⟨s.pageQueued_samePages g, fun hta => absurd hta ha, fun _ htb => absurd htb hb,
        fun _ _ => ⟨s.pageQueued_output g, s.pageQueued_page hg⟩⟩

/-- What a release's outcome leaves of the records, and its notice (R136 to R138). -/
theorem State.decideRelease_decided (hg : 1 ≤ g ∧ g ≤ 48) (hwaits : ∀ x, PortWaits x s) :
    ReleaseDecided g [] s (s.decideRelease g) := by
  have hraised : Raised [s.releaseNotice g] s (s.decideRelease g) := by
    simp only [Raised, State.decideRelease_channel]
    exact ⟨rfl, rfl⟩
  unfold State.releaseNotice at hraised
  by_cases hover : (s.page g).fit = .over ∧ (s.page g).trim = false
  · rw [if_pos hover, State.decideRelease_overset hover] at hraised
    obtain ⟨hpages, hout, hreturned⟩ := s.returnPage_raised hg (.release g .overset)
    rw [State.decideRelease_overset hover]
    exact ⟨hpages, by rw [if_pos hover]; exact ⟨hraised, hout, hreturned⟩⟩
  · rw [if_neg hover] at hraised
    by_cases hfull : 16 ≤ s.output.queue.length
    · rw [if_pos hfull, State.decideRelease_full hover hfull] at hraised
      obtain ⟨hpages, hout, hreturned⟩ := s.returnPage_raised hg (.release g .queueFull)
      rw [State.decideRelease_full hover hfull]
      exact ⟨hpages, by rw [if_neg hover, if_pos hfull]; exact ⟨hraised, hout, hreturned⟩⟩
    · rw [if_neg hfull, State.decideRelease_queued hover hfull] at hraised
      obtain ⟨hpages, hrest⟩ := State.pageQueued_arbitrate hg hwaits
      rw [State.decideRelease_queued hover hfull]
      refine ⟨hpages, ?_⟩
      rw [if_neg hover, if_neg hfull]
      exact ⟨hraised, (s.pageQueued_moved g).congr (fun _ => rfl) rfl (State.arbitrate_touches _).stories, hrest⟩

/-- An outcome decided reads and leaves the stories, the pages and the output path alone, beside the tables; `told` are the notices
before it. -/
theorem ReleaseDecided.congr {told : List Notice} {t u v : State} (h : ReleaseDecided g [] s t)
    (hkeeps : ∀ a ∈ JobAspects, u.keeps s a) (hstories : s.stories = u.stories) (hpages : s.pages = u.pages)
    (houtput : s.output = u.output) (hstories' : v.stories = t.stories) (hpages' : v.pages = t.pages)
    (houtput' : v.output = t.output) (hraised : Raised (told ++ [u.releaseNotice g]) u v) : ReleaseDecided g told u v := by
  have hpage (k : Nat) : s.page k = u.page k := State.page_congr hpages k
  have hpage' (k : Nat) : v.page k = t.page k := State.page_congr hpages' k
  have htotal : s.jobTotal g = u.jobTotal g := State.jobTotal_congr hkeeps g
  have hunits : s.jobUnits g = u.jobUnits g := State.jobUnits_congr hkeeps (by rw [hpage]) (by rw [hpage])
  have hreturned (k : PageReturned g none s t) : PageReturned g none u v :=
    k.congr (fun n => State.story_congr hstories.symm n) (hpage g).symm hstories' (hpage' g)
  have hmoved (k : StoriesMoved g .placed .setting s t) : StoriesMoved g .placed .setting u v :=
    k.congr (fun n => State.story_congr hstories.symm n) (by rw [hpage]) hstories'
  obtain ⟨hothers, h⟩ := h
  simp only [hpage, State.port_of_output houtput, houtput, htotal, hunits] at h
  unfold State.releaseNotice at hraised
  refine ⟨fun k hk => by rw [hpage', hothers k hk, hpage], ?_⟩
  by_cases hover : (u.page g).fit = .over ∧ (u.page g).trim = false
  · rw [if_pos hover] at h hraised ⊢
    obtain ⟨-, hout, hret⟩ := h
    exact ⟨hraised, houtput'.trans hout, hreturned hret⟩
  · rw [if_neg hover] at h hraised ⊢
    by_cases hfull : 16 ≤ u.output.queue.length
    · rw [if_pos hfull] at h hraised ⊢
      obtain ⟨-, hout, hret⟩ := h
      exact ⟨hraised, houtput'.trans hout, hreturned hret⟩
    · rw [if_neg hfull] at h hraised ⊢
      obtain ⟨-, hm, hrest⟩ := h
      refine ⟨hraised, hmoved hm, ?_⟩
      simpa only [JobBegun, hpage, hpage', State.port_of_output houtput', houtput'] using hrest

/-- An outcome decided, the channel apart. -/
theorem ReleaseDecided.channel {told : List Notice} {t u v : State} (h : ReleaseDecided g [] s t)
    (hu : s = u.withChannel s.channel) (hv : v = t.withChannel v.channel) (hraised : Raised (told ++ [u.releaseNotice g]) u v) :
    ReleaseDecided g told u v := by
  have hkeeps : ∀ a ∈ JobAspects, u.keeps s a := by
    rw [hu]
    exact ((u.withChannel_touches _).moves_channel (by decide)).keeps_job
  exact h.congr hkeeps (by rw [hu]; rfl) (by rw [hu]; rfl) (by rw [hu]; rfl) (by rw [hv]; rfl) (by rw [hv]; rfl)
    (by rw [hv]; rfl) hraised

end Decide

end Sys2Proof.Machine

/-! RELEASE (R135). -/

namespace Sys2Proof.Machine

section Request
variable {s : State} {g : Nat}

theorem Page.slot_of_mem {p : Page} {v : Option Slot} (h : v ∈ p.slots.toList) : ∃ k, p.slot k = v := by
  obtain ⟨i, hi, hv⟩ := List.mem_iff_getElem.1 h
  refine ⟨i + 1, ?_⟩
  have hi' : i < 16 := by simpa using hi
  simp [Page.slot, hi', ← hv]

theorem Page.mem_of_slot {p : Page} {sl : Slot} {k : Nat} (h : p.slot k = some sl) : some sl ∈ p.slots.toList := by
  cases k with
  | zero => simp [Page.slot] at h
  | succ i =>
    by_cases hi : i < 16
    · simp only [Page.slot, Vector.getElem?_eq_getElem hi, Option.getD_some] at h
      rw [← h]
      simp
    · simp [Page.slot, hi] at h

/-- A page with a slot filled and no defined slot without an occupant is not empty (check 3 of R135). -/
theorem Page.empty_eq_false {p : Page} (hsome : ∃ k, p.occupied k = true) (hall : ∀ k, ∀ sl ∈ p.slot k, sl.occupant.isSome = true) :
    p.empty = false := by
  obtain ⟨k, hk⟩ := hsome
  unfold Page.occupied at hk
  rw [Page.empty, Bool.or_eq_false_iff]
  constructor
  · split at hk
    next sl hslot =>
      rw [List.all_eq_false]
      exact ⟨_, Page.mem_of_slot hslot, by simp⟩
    next => exact absurd hk (by decide)
  · rw [List.any_eq_false]
    intro v hv
    obtain ⟨k, hslot⟩ := Page.slot_of_mem hv
    cases v with
    | none => simp
    | some sl => simpa [Option.ne_none_iff_isSome] using hall k sl hslot

theorem State.heldOn_isEmpty {p : Page} (h : ∀ n ∈ p.stories, (s.story n).holder = .absent) : (s.heldOn p).isEmpty = true := by
  rw [State.heldOn, List.isEmpty_iff, List.filter_eq_nil_iff]
  intro x hx
  obtain ⟨n, hn, rfl⟩ := List.mem_map.1 hx
  simp [h n hn]

theorem State.releasePage_done {choice trim : Nat} {c : PortChoice} {b : Bool} (hg : 1 ≤ g ∧ g ≤ 48)
    (hchoice : PortChoice.ofCode choice = some c) (htrim : firstOfTwo trim = some b) (hstate : (s.page g).state = .makeup)
    (hempty : (s.page g).empty = false) (hheld : (s.heldOn (s.page g)).isEmpty = true) :
    s.releasePage g choice trim = (.done, u8 ((s.release g c b).page g).state.code, s.release g c b) := by
  simp [State.releasePage, hchoice, htrim, (pageOk_iff g).2 hg, hstate, hempty, hheld]

/-- Page `g` put to RELEASING with its port choice and trim flag (R135). -/
def State.releasing (s : State) (g : Nat) (c : PortChoice) (b : Bool) : State :=
  s.updPage g fun p => { p with state := .releasing, choice := c, trim := b }

theorem State.releasing_page (s : State) (hg : 1 ≤ g ∧ g ≤ 48) (c : PortChoice) (b : Bool) :
    (s.releasing g c b).page g = { s.page g with state := .releasing, choice := c, trim := b } :=
  State.page_updPage_self _ hg _

theorem State.release_pending (hg : 1 ≤ g ∧ g ≤ 48) (hfit : (s.page g).fit = .pending) (c : PortChoice) (b : Bool) :
    s.release g c b = s.releasing g c b := by
  change (s.releasing g c b).endWait g = _
  rw [State.endWait, if_neg]
  rw [s.releasing_page hg]
  exact fun h => h.2 hfit

theorem State.release_decided (hg : 1 ≤ g ∧ g ≤ 48) (hfit : (s.page g).fit ≠ .pending) (c : PortChoice) (b : Bool) :
    s.release g c b = (s.releasing g c b).decideRelease g := by
  change (s.releasing g c b).endWait g = _
  rw [State.endWait, if_pos]
  rw [s.releasing_page hg]
  exact ⟨rfl, hfit⟩

theorem State.releasing_waits (h : ∀ x, PortWaits x s) (c : PortChoice) (b : Bool) (x : Port) : PortWaits x (s.releasing g c b) :=
  (h x).congr (State.updPage_port _ _ _ _) fun _ => id

theorem State.releasing_offer (i : Instr) (c : PortChoice) (b : Bool) :
    (s.offer i).releasing g c b = (s.releasing g c b).withChannel ((s.offer i).releasing g c b).channel := by
  rw [s.offer_eq i]
  rfl

end Request

/-- RELEASE carried out (R135): a PENDING page waits, and otherwise the outcome is decided at once. -/
theorem exec_release {s : State} {tag : Byte} {g choice trim : Nat} {c : PortChoice} {b : Bool}
    (htakes : s.takes (.release tag g choice trim) = true) (hg : 1 ≤ g ∧ g ≤ 48) (hchoice : PortChoice.ofCode choice = some c)
    (htrim : firstOfTwo trim = some b) (hstate : (s.page g).state = .makeup) (hsome : ∃ k, (s.page g).occupied k = true)
    (hall : ∀ k, ∀ sl ∈ (s.page g).slot k, sl.occupant.isSome = true)
    (hheld : ∀ n ∈ (s.page g).stories, (s.story n).holder = .absent) (hwaits : ∀ x, PortWaits x s) :
    ∃ t, exec (.release tag g choice trim) s = .next t ∧
      Replied (.release tag g choice trim) .done (u8 (t.page g).state.code) s t ∧
      OnlyTouches [.stories, .pages, .output, .channel] s t ∧
      if (s.page g).fit = .pending then
        Raised [] s t ∧ t.stories = s.stories ∧ t.output = s.output ∧ t.pages = (s.releasing g c b).pages
      else ReleaseDecided g [] (s.releasing g c b) t := by
  have hact := State.releasePage_done (s := s.offer (.release tag g choice trim)) (choice := choice) (trim := trim) hg hchoice
    htrim (by simpa using hstate) (by simpa using Page.empty_eq_false hsome hall)
    (State.heldOn_isEmpty fun n hn => by simpa using hheld n (by simpa using hn))
  by_cases hfit : (s.page g).fit = .pending
  · have hrel := State.release_pending (s := s.offer (.release tag g choice trim)) hg (by simpa using hfit) c b
    obtain ⟨t, d, hstep, hreply, hraised, htouch, rfl⟩ := host_effect (act := fun s => s.releasePage g choice trim) (ns := [])
      (ps := [.stories, .pages, .output, .channel]) htakes hact (by rw [hrel]; rfl)
      (by rw [hrel]; exact (State.updPage_touches _ g _).mono (by decide)) (by decide)
    refine ⟨_, hstep, by simpa using hreply, htouch, ?_⟩
    rw [if_pos hfit, hrel, State.releasing_offer]
    exact ⟨hraised, rfl, rfl, rfl⟩
  · have hrel := State.release_decided (s := s.offer (.release tag g choice trim)) hg (by simpa using hfit) c b
    have hdecided := State.decideRelease_decided (s := (s.offer (.release tag g choice trim)).releasing g c b) hg
      (State.releasing_waits (fun x => (hwaits x).congr (by simp) fun j hj => by simpa using hj) c b)
    have hchannel := ((s.offer (.release tag g choice trim)).releasing g c b).decideRelease_channel g
    obtain ⟨t, d, hstep, hreply, hraised, htouch, rfl⟩ := host_effect (act := fun s => s.releasePage g choice trim)
      (ns := [((s.offer (.release tag g choice trim)).releasing g c b).releaseNotice g])
      (ps := [.stories, .pages, .output, .channel]) htakes hact (by rw [hrel]; exact hchannel)
      (by
        rw [hrel]
        exact OnlyTouches.trans ((State.updPage_touches _ g _).mono (by decide)) (State.decideRelease_touches _ g) (by decide))
      (by decide)
    refine ⟨_, hstep, by simpa using hreply, htouch, ?_⟩
    rw [if_neg hfit]
    exact hdecided.channel (State.releasing_offer _ c b) (by rw [hrel]; rfl) (by rwa [State.releasing_offer] at hraised)

end Sys2Proof.Machine

/-! Changes of fit state handed on (R99, R120, R124, R133, R134): the page judged, the holder's lamp, the FIT notices; and the
copyfit engine (R121, R122). -/

namespace Sys2Proof.Machine

section HandOff
variable {s t u : State} {n : Nat}

theorem State.line_lampHolder (s : State) (n k : Nat) : (s.lampHolder n).line k =
    if (s.story n).holder = .line k ∧ (s.line k).lampSource = .overset then
      { s.line k with lamp := s.lampLit k (s.line k) } else s.line k := by
  have hreset (h : (s.line k).lampSource = .overset) : k < 32 := by
    by_contra hk
    rw [s.line_eq_reset hk] at h
    exact absurd h (by decide)
  unfold State.lampHolder
  split
  next m hholder =>
    rw [hholder, State.lampIf, State.line_lamps]
    refine if_congr ?_ rfl rfl
    simp only [Holder.line.injEq, Bool.and_eq_true, beq_iff_eq]
    constructor
    · rintro ⟨-, hk, hsource⟩
      exact ⟨hk.symm, hsource⟩
    · rintro ⟨hk, hsource⟩
      exact ⟨hreset hsource, hk.symm, hsource⟩
  next hholder => exact (if_neg fun h => hholder k h.1).symm

theorem State.judgement_shut (s : State) : s.judgement Page.shut = Page.shut.fit := rfl

theorem State.judge_page (s : State) (g h : Nat) : (s.judge g).page h =
    if h = g then { s.page h with fit := s.judgement (s.page h) } else s.page h := by
  rw [State.judge, State.page_updPage]
  by_cases hh : h = g
  · subst hh
    by_cases hg : 1 ≤ h ∧ h ≤ 48
    · rw [if_pos ⟨rfl, hg⟩, if_pos rfl]
    · rw [if_neg fun e => hg e.2, if_pos rfl, State.page_eq_shut hg, State.judgement_shut]
  · rw [if_neg fun e => hh e.1, if_neg hh]

theorem State.judgeStory_page (s : State) (n g : Nat) : (s.judgeStory n).page g =
    if (s.story n).stage = .placed ∧ (s.story n).run.map (fun r => r.page) = some g then
      { s.page g with fit := s.judgement (s.page g) } else s.page g := by
  unfold State.judgeStory
  by_cases hstage : (s.story n).stage = .placed
  · rw [if_pos hstage]
    cases hrun : (s.story n).run with
    | none => simp
    | some r =>
      simp only [State.judge_page, hstage, Option.map_some, Option.some.injEq, true_and, eq_comm]
  · rw [if_neg hstage, if_neg fun h => hstage h.1]

/-- A change of fit state handed off touches no story. -/
theorem State.handOff_stories (s : State) (n : Nat) : (s.handOff n).stories = s.stories := (s.handOff_touches n).stories

/-- The page a story lies on judged afresh (R124). -/
theorem State.handOff_judged (s : State) (n : Nat) : PageJudged n s (s.handOff n) := by
  intro g
  rw [State.judgement_congr (State.handOff_stories s n), State.handOff, (State.lampHolder_touches _ n).page,
    State.judgeStory_page]

theorem State.lampLit_handOff (s : State) (n k : Nat) (l : Line) : (s.handOff n).lampLit k l = s.lampLit k l :=
  State.lampLit_congr (State.handOff_stories s n) (s.handOff_touches n).desks (s.handOff_touches n).flashes
    (s.handOff_touches n).clock k l

/-- The OVERSET lamp of the line that holds a story, set anew (R99, R124). -/
theorem State.handOff_told (s : State) (n : Nat) : HolderTold none n (s.handOff n) s (s.handOff n) := by
  intro k _
  have hjudge : (s.judgeStory n).line k = s.line k := (s.judgeStory_touches n).line k
  have hlit (l : Line) : (s.judgeStory n).lampLit k l = s.lampLit k l :=
    State.lampLit_congr (s.judgeStory_touches n).stories (s.judgeStory_touches n).desks (s.judgeStory_touches n).flashes
      (s.judgeStory_touches n).clock k l
  rw [State.lampLit_handOff, State.handOff, State.line_lampHolder, hjudge, hlit, (s.judgeStory_touches n).story]

/-- A page judged reads of the state before its pages and the place of the story. -/
theorem PageJudged.congr (h : PageJudged n u t) (hstage : (u.story n).stage = (s.story n).stage)
    (hrun : (u.story n).run = (s.story n).run) (hpage : ∀ g, u.page g = s.page g) : PageJudged n s t := by
  intro g
  rw [h g, hstage, hrun, hpage]

theorem PageJudged.to {v : State} (h : PageJudged n s t) (hstories : v.stories = t.stories) (hpage : ∀ g, v.page g = t.page g) :
    PageJudged n s v := by
  intro g
  rw [hpage, h g, State.judgement_congr hstories]

/-- A holder told reads of the state before its lines and the holder. -/
theorem HolderTold.congr {v : State} {skip : Option Nat} (h : HolderTold skip n v u t)
    (hholder : (u.story n).holder = (s.story n).holder) (hline : ∀ k, u.line k = s.line k) : HolderTold skip n v s t := by
  intro k hk
  rw [h k hk, hholder, hline]

theorem HolderTold.to {v w : State} {skip : Option Nat} (h : HolderTold skip n v s t) (hline : ∀ k, w.line k = t.line k) :
    HolderTold skip n v s w := by
  intro k hk
  rw [hline, h k hk]

/-- The records a lamp reads are those of `w` too. -/
theorem HolderTold.records {v w : State} {skip : Option Nat} (h : HolderTold skip n v s t)
    (hlit : ∀ k l, w.lampLit k l = v.lampLit k l) : HolderTold skip n w s t := by
  intro k hk
  rw [h k hk, hlit]

end HandOff

/-! ### A story out of date (R120) -/

section Stale
variable {s : State} {n : Nat}

theorem Story.outdated_fresh {r : Story} (h : r.fit = .none ∨ r.fit = .current) : r.outdated = { r with fit := .stale } := by
  rcases h with h | h <;> simp only [Story.outdated, h]

theorem Story.outdated_stale {r : Story} (h : r.fit = .stale) : r.outdated = r := by
  simp only [Story.outdated, h]

theorem Story.outdated_computing {r : Story} (h : r.fit = .computing) : r.outdated = { r with changed := true } := by
  simp only [Story.outdated, h]

/-- Making a story out of date moves its fit and its changed mark alone. -/
theorem Story.outdated_eq (r : Story) : r.outdated = { r with fit := r.outdated.fit, changed := r.outdated.changed } := by
  unfold Story.outdated
  cases h : r.fit <;> simp only [← h]

/-- A story that joins the tail of the fit queue STALE, before its page and its holder are told (R120). -/
def State.queueStale (s : State) (n : Nat) : State :=
  (s.updStory n fun r => { r with fit := .stale }).setFitQueue (s.fit.queue ++ [n])

theorem State.makeStale_fresh (h : (s.story n).fit = .none ∨ (s.story n).fit = .current) :
    s.makeStale n = (s.queueStale n).handOff n := by
  rcases h with h | h <;> simp only [State.makeStale, h, State.queueStale]

theorem State.makeStale_stale (h : (s.story n).fit = .stale) : s.makeStale n = s := by
  simp only [State.makeStale, h]

theorem State.makeStale_computing (h : (s.story n).fit = .computing) :
    s.makeStale n = s.updStory n fun r => { r with changed := true } := by
  simp only [State.makeStale, h]

theorem State.fit_cases (s : State) (n : Nat) :
    ((s.story n).fit = .none ∨ (s.story n).fit = .current) ∨ (s.story n).fit = .stale ∨ (s.story n).fit = .computing := by
  cases (s.story n).fit <;> simp

theorem State.story_queueStale (s : State) (n m : Nat) : (s.queueStale n).story m =
    if m = n ∧ 1 ≤ n ∧ n ≤ 512 then { s.story n with fit := .stale } else s.story m := by
  rw [State.queueStale, State.setFitQueue_story, State.story_updStory]

theorem State.queueStale_story (hn : 1 ≤ n ∧ n ≤ 512) : (s.queueStale n).story n = { s.story n with fit := .stale } := by
  rw [State.story_queueStale, if_pos ⟨rfl, hn⟩]

/-- Where the story lies and who holds it stand. -/
theorem State.queueStale_place (s : State) (n : Nat) : ((s.queueStale n).story n).stage = (s.story n).stage ∧
    ((s.queueStale n).story n).run = (s.story n).run ∧ ((s.queueStale n).story n).holder = (s.story n).holder := by
  rw [State.story_queueStale]
  split <;> exact ⟨rfl, rfl, rfl⟩

theorem State.makeStale_story (hn : 1 ≤ n ∧ n ≤ 512) : (s.makeStale n).story n = (s.story n).outdated := by
  rcases s.fit_cases n with h | h | h
  · rw [State.makeStale_fresh h, (State.handOff_touches _ n).story, Story.outdated_fresh h, State.queueStale_story hn]
  · rw [State.makeStale_stale h, Story.outdated_stale h]
  · rw [State.makeStale_computing h, Story.outdated_computing h, State.story_updStory_self _ hn]

theorem State.makeStale_sameStories (s : State) (n : Nat) : SameStoriesBut n s (s.makeStale n) := by
  intro m hm
  rcases s.fit_cases n with h | h | h
  · rw [State.makeStale_fresh h, (State.handOff_touches _ n).story]
    rw [State.story_queueStale, if_neg fun h => hm h.1]
  · rw [State.makeStale_stale h]
  · rw [State.makeStale_computing h, State.story_updStory_ne _ hm]

theorem State.makeStale_fit (s : State) (n : Nat) : (s.makeStale n).fit =
    { s.fit with queue := queuedStale s.fit.queue n (s.story n) } := by
  unfold queuedStale
  rcases s.fit_cases n with h | h | h
  · rw [State.makeStale_fresh h, (State.handOff_touches _ n).fit, if_pos h]
    rfl
  · rw [State.makeStale_stale h, if_neg (by simp [h])]
  · rw [State.makeStale_computing h, if_neg (by simp [h])]
    rfl

/-- The pages as a story out of date leaves them: its own judged afresh, if its fit state has changed (R120, R124). -/
theorem State.makeStale_pages (s : State) (n : Nat) (hfresh : (s.story n).fit = .none ∨ (s.story n).fit = .current) :
    PageJudged n s (s.makeStale n) := by
  rw [State.makeStale_fresh hfresh]
  obtain ⟨hstage, hrun, -⟩ := s.queueStale_place n
  exact ((s.queueStale n).handOff_judged n).congr hstage hrun fun _ => rfl

theorem State.makeStale_told (s : State) (n : Nat) (hfresh : (s.story n).fit = .none ∨ (s.story n).fit = .current) :
    HolderTold none n (s.makeStale n) s (s.makeStale n) := by
  rw [State.makeStale_fresh hfresh]
  obtain ⟨-, -, hholder⟩ := s.queueStale_place n
  exact ((s.queueStale n).handOff_told n).congr hholder fun _ => rfl

theorem State.makeStale_settled (h : ¬((s.story n).fit = .none ∨ (s.story n).fit = .current)) :
    (s.makeStale n).pages = s.pages ∧ (s.makeStale n).lines = s.lines := by
  rcases s.fit_cases n with h' | h' | h'
  · exact absurd h' h
  · rw [State.makeStale_stale h']
    exact ⟨rfl, rfl⟩
  · rw [State.makeStale_computing h']
    exact ⟨rfl, rfl⟩

end Stale

/-! ### FIT notices (R134) -/

section Notices
variable {s u : State} {g : Nat}

theorem State.noticeFit_channel (before : State) (g : Nat) (u : State) :
    (State.noticeFit before g u).channel = (fitNotice g before u).foldl Channel.raise u.channel := by
  unfold State.noticeFit fitNotice
  split <;> rfl

theorem State.noticeFitOf_channel (before : State) (n : Nat) (u : State) :
    (State.noticeFitOf before n u).channel = (runNotice (u.story n).run before u).foldl Channel.raise u.channel := by
  unfold State.noticeFitOf runNotice
  cases h : (u.story n).run with
  | none => rfl
  | some run => exact State.noticeFit_channel before run.page u

theorem fitNotice_congr {v w : State} (hs : (v.page g).fit = (s.page g).fit) (hu : (w.page g).fit = (u.page g).fit) :
    fitNotice g v w = fitNotice g s u := by
  simp only [fitNotice, hs, hu]

theorem runNotice_congr {v w : State} (run : Option Run) (hs : ∀ g, v.page g = s.page g) (hu : ∀ g, w.page g = u.page g) :
    runNotice run v w = runNotice run s u := by
  cases run with
  | none => rfl
  | some r => exact fitNotice_congr (by rw [hs]) (by rw [hu])

end Notices

end Sys2Proof.Machine

/-! The copyfit engine (R121, R122), and the wait of a RELEASING page that its last fit ends (R136). -/

namespace Sys2Proof.Machine

section Engine
variable {s : State} {n : Nat}

/-- The state with the fit engine as given, and story `n` changed by `f`: a story as a computation leaves it. -/
def State.refitted (s : State) (e : FitEngine) (n : Nat) (f : Story → Story) : State := State.updStory { s with fit := e } n f

theorem State.refitted_touches (s : State) (e : FitEngine) (n : Nat) (f : Story → Story) :
    OnlyTouches [.stories, .fit] s (s.refitted e n f) :=
  ((s.setFit_touches e).mono (by decide)).trans (State.updStory_touches _ n f) (by decide)

theorem State.refitted_story (e : FitEngine) (f : Story → Story) (hn : 1 ≤ n ∧ n ≤ 512) :
    (s.refitted e n f).story n = f (s.story n) := State.story_updStory_self _ hn f

theorem State.refitted_sameStories (s : State) (e : FitEngine) (n : Nat) (f : Story → Story) :
    SameStoriesBut n s (s.refitted e n f) := fun _ hm => State.story_updStory_ne { s with fit := e } hm f

/-- What a change of fit state leaves: the story, the engine, its page judged, and its holder told (R124). -/
theorem State.refitted_handOff (e : FitEngine) (f : Story → Story) (hn : 1 ≤ n ∧ n ≤ 512)
    (hstage : (f (s.story n)).stage = (s.story n).stage) (hrun : (f (s.story n)).run = (s.story n).run)
    (hholder : (f (s.story n)).holder = (s.story n).holder) :
    let t := (s.refitted e n f).handOff n
    OnlyTouches [.stories, .fit, .pages, .lines] s t ∧ t.story n = f (s.story n) ∧ SameStoriesBut n s t ∧ t.fit = e ∧
      PageJudged n s t ∧ HolderTold none n t s t := by
  have htouch := State.handOff_touches (s.refitted e n f) n
  have hstory := State.refitted_story e f hn (s := s)
  refine ⟨((s.refitted_touches e n f).mono (by decide)).trans htouch (by decide), ?_, ?_, htouch.fit, ?_, ?_⟩
  · rw [htouch.story, hstory]
  · intro m hm
    rw [htouch.story, s.refitted_sameStories e n f m hm]
  · exact (State.handOff_judged _ n).congr (by rw [hstory, hstage]) (by rw [hstory, hrun]) fun _ => rfl
  · exact (State.handOff_told _ n).congr (by rw [hstory, hholder]) fun _ => rfl

theorem State.takeFit_eq {rest : List Nat} (hflight : s.fit.inFlight = none) (hqueue : s.fit.queue = n :: rest) :
    s.takeFit = (s.refitted { s.fit with queue := rest, inFlight := some { story := n, discard := false, results := s.fitResults n } }
      n fun r => { r with fit := .computing, changed := false }).handOff n := by
  simp only [State.takeFit, hflight, hqueue]
  rfl

theorem State.completeFit_discarded {c : InFlight} (hflight : s.fit.inFlight = some c) (hdiscard : c.discard = true) :
    s.completeFit = { s with fit := { s.fit with inFlight := none } } := by
  simp only [State.completeFit, hflight, hdiscard, if_true]

theorem State.completeFit_changed {c : InFlight} (hflight : s.fit.inFlight = some c) (hdiscard : c.discard = false)
    (hchanged : (s.story c.story).changed = true) : s.completeFit =
      (s.refitted { s.fit with queue := s.fit.queue ++ [c.story], inFlight := none } c.story
        fun r => { r with fit := .stale, changed := false }).handOff c.story := by
  have hstory : State.story { s with fit := { s.fit with inFlight := none } } c.story = s.story c.story := rfl
  simp only [State.completeFit, hflight, hdiscard, hstory, hchanged, if_true]
  rfl

/-- A computation's results written and handed off, before the notices (R122). -/
def State.resultsWritten (s : State) (c : InFlight) : State :=
  (s.refitted { s.fit with inFlight := none } c.story fun r => { r with fit := .current, results := some c.results }).handOff c.story

theorem State.completeFit_written {c : InFlight} (hflight : s.fit.inFlight = some c) (hdiscard : c.discard = false)
    (hchanged : (s.story c.story).changed = false) : s.completeFit =
      (State.noticeFitOf { s with fit := { s.fit with inFlight := none } } c.story (s.resultsWritten c)).endWaitOf c.story := by
  have hstory : State.story { s with fit := { s.fit with inFlight := none } } c.story = s.story c.story := rfl
  simp only [State.completeFit, hflight, hdiscard, hstory, hchanged]
  rfl

theorem State.resultsWritten_spec {c : InFlight} (hc : 1 ≤ c.story ∧ c.story ≤ 512) :
    OnlyTouches [.stories, .fit, .pages, .lines] s (s.resultsWritten c) ∧
      (s.resultsWritten c).story c.story = { s.story c.story with fit := .current, results := some c.results } ∧
      SameStoriesBut c.story s (s.resultsWritten c) ∧ (s.resultsWritten c).fit = { s.fit with inFlight := none } ∧
      PageJudged c.story s (s.resultsWritten c) ∧ HolderTold none c.story (s.resultsWritten c) s (s.resultsWritten c) :=
  State.refitted_handOff _ _ hc rfl rfl rfl

/-- The results written and the page's FIT notice raised, before a wait may end (R122, R134). -/
def State.resultsTold (s : State) (c : InFlight) : State :=
  State.noticeFitOf { s with fit := { s.fit with inFlight := none } } c.story (s.resultsWritten c)

theorem State.resultsTold_channel {c : InFlight} (hc : 1 ≤ c.story ∧ c.story ≤ 512) : (s.resultsTold c).channel =
    (runNotice (s.story c.story).run s (s.resultsWritten c)).foldl Channel.raise s.channel := by
  obtain ⟨htouch, hstory, -⟩ := State.resultsWritten_spec (s := s) hc
  have hrun : ((s.resultsWritten c).story c.story).run = (s.story c.story).run := by rw [hstory]
  rw [State.resultsTold, State.noticeFitOf_channel, hrun, htouch.channel]
  exact congrArg (List.foldl Channel.raise s.channel) (runNotice_congr _ (fun _ => rfl) (fun _ => rfl))

/-- The notice changes the channel alone. -/
theorem State.resultsTold_eq (s : State) (c : InFlight) :
    s.resultsTold c = (s.resultsWritten c).withChannel (s.resultsTold c).channel := by
  unfold State.resultsTold State.noticeFitOf State.noticeFit
  cases (State.story (s.resultsWritten c) c.story).run with
  | none => rfl
  | some run =>
    dsimp only
    split <;> rfl

end Engine

/-- The completion of a computation whose results are written, on a story of no RELEASING page (R122). -/
theorem exec_fitCompletion_written {s : State} {c : InFlight} (hflight : s.fit.inFlight = some c) (hdiscard : c.discard = false)
    (hc : 1 ≤ c.story ∧ c.story ≤ 512) (hchanged : (s.story c.story).changed = false)
    (hpage : ∀ run ∈ (s.story c.story).run, (s.page run.page).state ≠ .releasing) :
    ∃ t, exec .fitCompletion s = .next t ∧ OnlyTouches [.stories, .fit, .pages, .lines, .channel] s t ∧
      t.story c.story = { s.story c.story with fit := .current, results := some c.results } ∧ SameStoriesBut c.story s t ∧
      t.fit = { s.fit with inFlight := none } ∧ OnlyRaised (runNotice (s.story c.story).run s t) s t ∧
      PageJudged c.story s t ∧ HolderTold none c.story t s t := by
  obtain ⟨htouch, hstory, hsame, hfit, hjudged, htold⟩ := State.resultsWritten_spec (s := s) hc
  have hchannel := State.resultsTold_channel (s := s) hc
  have hwait : (s.resultsTold c).endWaitOf c.story = s.resultsTold c := by
    unfold State.endWaitOf State.endWait
    split
    next run hrun =>
      rw [if_neg]
      rintro ⟨hstate, -⟩
      rw [s.resultsTold_eq, State.withChannel_story, hstory] at hrun
      refine hpage run hrun (Eq.trans ?_ hstate)
      rw [s.resultsTold_eq, State.withChannel_page, hjudged]
      split <;> rfl
    next => rfl
  refine ⟨s.resultsTold c, congrArg _ ((State.completeFit_written hflight hdiscard hchanged).trans hwait), ?_⟩
  rw [OnlyRaised, hchannel, s.resultsTold_eq]
  generalize (s.resultsTold c).channel = d
  refine ⟨(htouch.mono (by decide)).trans (State.withChannel_touches _ d) (by decide), ?_, ?_, hfit, ?_,
    hjudged.to rfl fun g => State.withChannel_page _ _ _, (htold.to fun k => rfl).records fun k l => rfl⟩
  · rw [State.withChannel_story, hstory]
  · intro m hm
    rw [State.withChannel_story, hsame m hm]
  · rw [runNotice_congr (s := s) (u := s.resultsWritten c) _ (fun _ => rfl) (fun _ => State.withChannel_page _ _ _)]

/-- Notices raised move the notices of a channel alone. -/
theorem Channel.foldl_raise_eq (ns : List Notice) (c : Channel) : ns.foldl Channel.raise c =
    { c with notices := (ns.foldl Channel.raise c).notices, noticesLost := (ns.foldl Channel.raise c).noticesLost } := by
  have h := Channel.foldl_raise_frame ns c
  generalize ns.foldl Channel.raise c = d at h ⊢
  cases c
  cases d
  simp only at h
  obtain ⟨rfl, rfl, rfl, rfl, rfl, rfl⟩ := h
  rfl

/-! ### A RELEASING page whose last fit completes (R122, R136) -/

section Wait
variable {s : State} {c : InFlight} {run : Run}

/-- The records the outcome reads: `fitted` and the engine's own state differ in lines and the channel alone. -/
theorem State.resultsTold_fitted (hstage : (s.story c.story).stage = .placed)
    (hrun : (s.story c.story).run = some run) (hc : 1 ≤ c.story ∧ c.story ≤ 512) :
    (s.resultsTold c).stories = (s.fitted c run.page).stories ∧ (s.resultsTold c).pages = (s.fitted c run.page).pages ∧
      (s.resultsTold c).output = (s.fitted c run.page).output ∧ (s.resultsTold c).fit = (s.fitted c run.page).fit := by
  have hplace : State.judgeStory (s.refitted { s.fit with inFlight := none } c.story
      fun r => { r with fit := .current, results := some c.results }) c.story =
      State.judge (s.refitted { s.fit with inFlight := none } c.story
        fun r => { r with fit := .current, results := some c.results }) run.page := by
    have hstory := State.refitted_story (s := s) { s.fit with inFlight := none }
      (fun r => { r with fit := .current, results := some c.results }) hc
    simp only [State.judgeStory, hstory, hstage, hrun, if_true]
  have hlamp := State.lampHolder_touches (State.judgeStory (s.refitted { s.fit with inFlight := none } c.story
    fun r => { r with fit := .current, results := some c.results }) c.story) c.story
  rw [s.resultsTold_eq]
  refine ⟨hlamp.stories.trans ?_, hlamp.pages.trans ?_, hlamp.output.trans ?_, hlamp.fit.trans ?_⟩ <;> rw [hplace] <;> rfl

/-- The codes of the jobs read the stories, the tables, the pages and the table of translations. -/
theorem State.keeps_job_of_parts {t : State} (hstories : t.stories = s.stories) (hfit : t.fit = s.fit) (hpages : t.pages = s.pages)
    (houtput : t.output = s.output) : ∀ a ∈ JobAspects, s.keeps t a := by
  have hstory (n : Nat) (a : Aspect) : (s.story n).keeps (t.story n) a := by
    rw [State.story_congr hstories]
    exact Story.keeps_refl _ a
  have hpage (g : Nat) (a : Aspect) : (s.page g).keeps (t.page g) a := by
    rw [State.page_congr hpages]
    exact Page.keeps_refl _ a
  intro a ha
  simp only [JobAspects, List.mem_cons, List.not_mem_nil, or_false] at ha
  rcases ha with rfl | rfl | rfl | rfl | rfl | rfl
  case inr.inr.inr.inl =>
    exact ⟨(hstory · _), fun _ => trivial, fun _ => trivial, (hpage · _), by rw [hfit], by rw [hfit]⟩
  case inr.inr.inr.inr.inl =>
    exact ⟨(hstory · _), fun _ => trivial, fun _ => trivial, (hpage · _), congrArg Output.xlate houtput⟩
  all_goals exact ⟨(hstory · _), fun _ => trivial, fun _ => trivial, (hpage · _), trivial⟩

theorem State.fitted_touches (s : State) (c : InFlight) (g : Nat) :
    OnlyTouches [.stories, .fit, .pages] s (s.fitted c g) :=
  ((s.refitted_touches { s.fit with inFlight := none } c.story
    fun r => { r with fit := .current, results := some c.results }).mono (by decide)).trans
    (State.updPage_touches _ g _) (by decide)

/-- The wait's page and story, as the computation found them and as it leaves them (R122, R136). -/
theorem exec_fitCompletion_wait (hflight : s.fit.inFlight = some c) (hdiscard : c.discard = false)
    (hc : 1 ≤ c.story ∧ c.story ≤ 512) (hchanged : (s.story c.story).changed = false) (hstage : (s.story c.story).stage = .placed)
    (hrun : (s.story c.story).run = some run) (hg : 1 ≤ run.page ∧ run.page ≤ 48)
    (hstate : (s.page run.page).state = .releasing) (hwaits : ∀ x, PortWaits x s) :
    ∃ t, exec .fitCompletion s = .next t ∧ OnlyTouches [.stories, .fit, .pages, .output, .lines, .channel] s t ∧
      t.fit = (s.fitted c run.page).fit ∧ HolderTold none c.story (s.fitted c run.page) s t ∧
      if ((s.fitted c run.page).page run.page).fit = .pending then
        OnlyRaised (fitNotice run.page s (s.fitted c run.page)) s t ∧ t.stories = (s.fitted c run.page).stories ∧
          t.output = s.output ∧ t.pages = (s.fitted c run.page).pages
      else ReleaseDecided run.page (fitNotice run.page s (s.fitted c run.page)) (s.fitted c run.page) t ∧
        t.channel = { s.channel with notices := t.channel.notices, noticesLost := t.channel.noticesLost } := by
  obtain ⟨htouch, hstory, -, -, hjudged, htold⟩ := State.resultsWritten_spec (s := s) hc
  obtain ⟨hstories, hpages, houtput, hfit⟩ := State.resultsTold_fitted hstage hrun hc
  have hchannel := State.resultsTold_channel (s := s) hc
  have heq := s.resultsTold_eq c
  have htouch' : OnlyTouches [.stories, .fit, .pages, .lines, .channel] s (s.resultsTold c) := by
    rw [heq]
    exact (htouch.mono (by decide)).trans (State.withChannel_touches _ _) (by decide)
  have hfitted := s.fitted_touches c run.page
  have hnotice : runNotice (s.story c.story).run s (s.resultsWritten c) = fitNotice run.page s (s.fitted c run.page) := by
    rw [hrun]
    refine fitNotice_congr rfl ?_
    rw [← State.page_congr hpages run.page, heq, State.withChannel_page]
  have hholder : HolderTold none c.story (s.fitted c run.page) s (s.resultsTold c) := by
    refine HolderTold.records (v := s.resultsWritten c) ?_ fun k l => ?_
    · rw [heq]
      exact htold.to fun _ => rfl
    · refine State.lampLit_congr ?_ (hfitted.desks.trans htouch.desks.symm) (hfitted.flashes.trans htouch.flashes.symm)
        (hfitted.clock.trans htouch.clock.symm) k l
      rw [← hstories, heq]
      rfl
  have hrunTold : ((s.resultsTold c).story c.story).run = some run := by
    rw [heq, State.withChannel_story, hstory]
    exact hrun
  have hstateTold : ((s.resultsTold c).page run.page).state = .releasing := by
    rw [heq, State.withChannel_page, hjudged]
    split <;> exact hstate
  have hpage : (s.resultsTold c).page run.page = (s.fitted c run.page).page run.page := State.page_congr hpages _
  have hexec : exec .fitCompletion s = .next ((s.resultsTold c).endWaitOf c.story) :=
    congrArg Host.Outcome.next (State.completeFit_written hflight hdiscard hchanged)
  rw [hnotice] at hchannel
  simp only [State.endWaitOf, hrunTold, State.endWait, hpage] at hexec
  rw [hpage] at hstateTold
  by_cases hpending : ((s.fitted c run.page).page run.page).fit = .pending
  · rw [if_neg fun h => h.2 hpending] at hexec
    refine ⟨_, hexec, htouch'.mono (by decide), hfit, hholder, ?_⟩
    rw [if_pos hpending]
    exact ⟨hchannel, hstories, htouch'.output, hpages⟩
  · rw [if_pos ⟨hstateTold, hpending⟩] at hexec
    have hdecide := State.decideRelease_touches (s.resultsTold c) run.page
    have hdecided := State.decideRelease_decided (s := s.resultsTold c) hg fun x =>
      (hwaits x).congr (htouch'.port x) fun j hj => by rwa [htouch'.output] at hj
    have hraise := (s.resultsTold c).decideRelease_channel run.page
    have hlast : (s.resultsTold c).releaseNotice run.page = (s.fitted c run.page).releaseNotice run.page := by
      simp only [State.releaseNotice, hpage, houtput]
    rw [hchannel, hlast] at hraise
    have hraised : ((s.resultsTold c).decideRelease run.page).channel = (fitNotice run.page s (s.fitted c run.page) ++
        [(s.fitted c run.page).releaseNotice run.page]).foldl Channel.raise s.channel := by
      rw [List.foldl_append]
      exact hraise
    refine ⟨_, hexec, (htouch'.mono (by decide)).trans hdecide (by decide), hdecide.fit.trans hfit,
      hholder.to fun k => hdecide.line k, ?_⟩
    rw [if_neg hpending]
    refine ⟨hdecided.congr (State.keeps_job_of_parts hstories hfit hpages houtput) hstories hpages houtput rfl rfl rfl ?_, ?_⟩
    · rw [Raised, hraised, hfitted.channel]
      exact ⟨rfl, rfl⟩
    · rw [hraised]
      exact Channel.foldl_raise_eq _ _

end Wait

/-- Settles O44: the engine takes a story, and the three ends of a computation. -/
theorem fitTakenAndCompleted : Obligations.FitTakenAndCompleted := by
  refine ⟨?_, ?_, ?_, ?_⟩
  · intro s n rest hflight hqueue hlow hhigh
    refine ⟨_, congrArg Host.Outcome.next (State.takeFit_eq hflight hqueue), ?_⟩
    exact State.refitted_handOff (s := s) _ (fun r => { r with fit := .computing, changed := false }) ⟨hlow, hhigh⟩ rfl rfl rfl
  · intro s c hflight hdiscard
    exact congrArg _ (State.completeFit_discarded hflight hdiscard)
  · intro s c hflight hdiscard hlow hhigh hchanged
    refine ⟨_, congrArg Host.Outcome.next (State.completeFit_changed hflight hdiscard hchanged), ?_⟩
    exact State.refitted_handOff (s := s) _ (fun r => { r with fit := .stale, changed := false }) ⟨hlow, hhigh⟩ rfl rfl rfl
  · intro s c hflight hdiscard hlow hhigh hchanged hpage
    exact exec_fitCompletion_written hflight hdiscard ⟨hlow, hhigh⟩ hchanged hpage

/-- Settles O48: RELEASE, and the end of a wait at the completion of the page's last fit. -/
theorem releaseSendsPage : Obligations.ReleaseSendsPage := by
  refine ⟨?_, ?_⟩
  · intro s tag g choice trim c b i u htakes hlow hhigh hchoice htrim hstate hsome hall hheld hwaits
    exact exec_release htakes ⟨hlow, hhigh⟩ hchoice htrim hstate hsome hall hheld hwaits
  · intro s c run g u hflight hdiscard hlow hhigh hchanged hstage hrun hglow hghigh hstate hwaits
    exact exec_fitCompletion_wait hflight hdiscard ⟨hlow, hhigh⟩ hchanged hstage hrun ⟨hglow, hghigh⟩ hstate hwaits

end Sys2Proof.Machine

/-! REOPEN (R141), and CANCEL and REOPEN settled. -/

namespace Sys2Proof.Machine

section Stale
variable {s t u : State} {g : Nat}

theorem LampsOnly.refl (s : State) : LampsOnly s s := fun _ => .inl rfl

theorem LampsOnly.trans (h : LampsOnly s t) (k : LampsOnly t u) : LampsOnly s u := by
  intro m
  rcases h m with h | ⟨hsource, h⟩ <;> rcases k m with k | ⟨ksource, k⟩
  · exact .inl (k.trans h)
  · rw [h] at k ksource
    exact .inr ⟨ksource, k⟩
  · rw [k]
    exact .inr ⟨hsource, h⟩
  · rw [h] at k
    exact .inr ⟨hsource, k⟩

theorem HolderTold.lampsOnly {n : Nat} (h : HolderTold none n u s t) : LampsOnly s t := by
  intro k
  have hk := h k (by simp)
  split at hk
  next hheld => exact .inr ⟨hheld.2, by rw [hk]⟩
  next => exact .inl hk

theorem HolderTold.lines_of_absent {n : Nat} (h : HolderTold none n u s t) (habsent : (s.story n).holder = .absent) (k : Nat) :
    t.line k = s.line k := by
  rw [h k (by simp), habsent, if_neg (by simp)]

theorem State.lines_ext (h : ∀ k, t.line k = s.line k) : t.lines = s.lines := by
  ext i hi : 1
  have := h i
  simpa [State.line, hi] using this

theorem State.makeStale_lampsOnly (s : State) (n : Nat) : LampsOnly s (s.makeStale n) := by
  by_cases hfresh : (s.story n).fit = .none ∨ (s.story n).fit = .current
  · exact (s.makeStale_told n hfresh).lampsOnly
  · intro k
    rw [State.line, (State.makeStale_settled hfresh).2]
    exact .inl rfl

theorem State.makeStale_lines_of_absent {n : Nat} (habsent : (s.story n).holder = .absent) : (s.makeStale n).lines = s.lines := by
  by_cases hfresh : (s.story n).fit = .none ∨ (s.story n).fit = .current
  · exact State.lines_ext ((s.makeStale_told n hfresh).lines_of_absent habsent)
  · exact (State.makeStale_settled hfresh).2

/-- Making a story of page `g` out of date moves no more of the pages than the judgement of `g`. -/
theorem State.makeStale_page {n : Nat} (hrun : (s.story n).run.map (fun r => r.page) = some g) (h : Nat) :
    (s.makeStale n).page h =
      if h = g then { s.page g with fit := ((s.makeStale n).page g).fit } else s.page h := by
  by_cases hfresh : (s.story n).fit = .none ∨ (s.story n).fit = .current
  · have hjudged := s.makeStale_pages n hfresh
    by_cases hh : h = g
    · subst hh
      rw [if_pos rfl, hjudged h]
      split <;> rfl
    · rw [if_neg hh, hjudged h, if_neg]
      rintro ⟨-, hg⟩
      exact hh (Option.some.inj (hg.symm.trans hrun))
  · have hpages := (State.makeStale_settled hfresh).1
    rw [State.page_congr hpages, State.page_congr hpages]
    split
    next hh => rw [hh]
    next => rfl

end Stale

/-! ### A list of stories made out of date in turn -/

section Fold
variable {s : State} {g : Nat}

/-- The stories that join the fit queue when they are made out of date (R120). -/
def State.fresh (s : State) (n : Nat) : Bool := (s.story n).fit == .none || (s.story n).fit == .current

theorem State.fresh_iff (s : State) (n : Nat) :
    s.fresh n = true ↔ (s.story n).fit = .none ∨ (s.story n).fit = .current := by
  simp [State.fresh]

/-- The stories `ns` made out of date one after another (R120, R141). -/
def State.staleAll (s : State) (ns : List Nat) : State := ns.foldl (fun t n => t.makeStale n) s

theorem State.staleAll_story {ns : List Nat} (hnodup : ns.Nodup) (hrange : ∀ n ∈ ns, 1 ≤ n ∧ n ≤ 512) (n : Nat) :
    (s.staleAll ns).story n = if n ∈ ns then (s.story n).outdated else s.story n := by
  induction ns generalizing s with
  | nil => rfl
  | cons m ns ih =>
    obtain ⟨hm, hnodup⟩ := List.nodup_cons.1 hnodup
    have hrest := ih (s := s.makeStale m) hnodup fun k hk => hrange k (List.mem_cons_of_mem m hk)
    rw [State.staleAll, List.foldl_cons]
    refine hrest.trans ?_
    by_cases hn : n = m
    · subst hn
      rw [if_neg hm, if_pos List.mem_cons_self, State.makeStale_story (hrange n List.mem_cons_self)]
    · rw [s.makeStale_sameStories m n hn]
      simp [hn]

theorem State.staleAll_fit {ns : List Nat} (hnodup : ns.Nodup) : (s.staleAll ns).fit =
    { s.fit with queue := s.fit.queue ++ ns.filter s.fresh } := by
  induction ns generalizing s with
  | nil => simp [State.staleAll]
  | cons m ns ih =>
    obtain ⟨hm, hnodup⟩ := List.nodup_cons.1 hnodup
    have hkept : ns.filter (s.makeStale m).fresh = ns.filter s.fresh := List.filter_congr fun n hn => by
      rw [State.fresh, State.fresh, s.makeStale_sameStories m n fun e => hm (e ▸ hn)]
    rw [State.staleAll, List.foldl_cons]
    refine (ih (s := s.makeStale m) hnodup).trans ?_
    rw [hkept, s.makeStale_fit, queuedStale, List.filter_cons]
    by_cases hfresh : (s.story m).fit = .none ∨ (s.story m).fit = .current
    · rw [if_pos hfresh, if_pos ((s.fresh_iff m).2 hfresh)]
      simp
    · rw [if_neg hfresh, if_neg (fun h => hfresh ((s.fresh_iff m).1 h))]

theorem State.makeStale_run (s : State) (m n : Nat) : ((s.makeStale m).story n).run = (s.story n).run :=
  (s.makeStale_moves m .run (by decide)).1 n

theorem State.makeStale_holder (s : State) (m n : Nat) : ((s.makeStale m).story n).holder = (s.story n).holder :=
  (s.makeStale_moves m .holder (by decide)).1 n

theorem State.staleAll_page {ns : List Nat} (hrun : ∀ n ∈ ns, (s.story n).run.map (fun r => r.page) = some g) (h : Nat) :
    (s.staleAll ns).page h = if h = g then { s.page g with fit := ((s.staleAll ns).page g).fit } else s.page h := by
  induction ns generalizing s with
  | nil =>
    split
    next hh => rw [hh]; rfl
    next => rfl
  | cons m ns ih =>
    have hstep := State.makeStale_page (hrun m List.mem_cons_self)
    have hrest := ih (s := s.makeStale m) fun n hn => by
      rw [s.makeStale_run m n]
      exact hrun n (List.mem_cons_of_mem m hn)
    rw [State.staleAll, List.foldl_cons]
    refine hrest.trans ?_
    by_cases hh : h = g
    · rw [if_pos hh, if_pos hh, hstep g, if_pos rfl]
      rfl
    · rw [if_neg hh, if_neg hh, hstep h, if_neg hh]

theorem State.staleAll_lampsOnly (s : State) (ns : List Nat) : LampsOnly s (s.staleAll ns) := by
  induction ns generalizing s with
  | nil => exact LampsOnly.refl s
  | cons m ns ih => exact (s.makeStale_lampsOnly m).trans (ih _)

theorem State.staleAll_lines {ns : List Nat} (habsent : ∀ n ∈ ns, (s.story n).holder = .absent) :
    (s.staleAll ns).lines = s.lines := by
  induction ns generalizing s with
  | nil => rfl
  | cons m ns ih =>
    refine (ih (s := s.makeStale m) fun n hn => ?_).trans (State.makeStale_lines_of_absent (habsent m List.mem_cons_self))
    rw [s.makeStale_holder m n]
    exact habsent n (List.mem_cons_of_mem m hn)

end Fold

end Sys2Proof.Machine

/-! REOPEN (R141), and the requests that end a release settled. -/

namespace Sys2Proof.Machine

section Reopen
variable {s : State} {g : Nat}

/-- Page `g` back in MAKEUP with its SET stories PLACED, before they are made out of date (R141). -/
def State.pageBack (s : State) (g : Nat) : State :=
  (s.moveStories g .set .placed).updPage g fun p => { p with state := .makeup, trim := false }

theorem State.reopenPage_eq (s : State) (g : Nat) :
    s.reopenPage g = ((s.pageBack g).staleAll (s.page g).stories).judge g := rfl

theorem State.pageBack_touches (s : State) (g : Nat) : OnlyTouches [.stories, .pages] s (s.pageBack g) :=
  ((s.moveStories_touches g _ _).mono (by decide)).trans (State.updPage_touches _ g _) (by decide)

theorem State.pageBack_moves (s : State) (g : Nat) : OnlyMoves [.stage, .pageState] s (s.pageBack g) :=
  (s.moveStories_moves g).mono.step (State.backToMakeup_moves _ g)

theorem State.pageBack_page (s : State) (hg : 1 ≤ g ∧ g ≤ 48) :
    (s.pageBack g).page g = { s.page g with state := .makeup, trim := false } := by
  rw [State.pageBack, State.page_updPage_self _ hg, State.moveStories_page]

theorem State.pageBack_samePages (s : State) (g : Nat) : SamePagesBut g s (s.pageBack g) := by
  intro h hh
  rw [State.pageBack, State.page_updPage_ne _ hh, State.moveStories_page]

theorem State.pageBack_story (s : State) (g n : Nat) : (s.pageBack g).story n =
    if n ∈ (s.page g).stories ∧ (s.story n).stage = .set then { s.story n with stage := .placed } else s.story n :=
  s.moveStories_moved g (old := .set) (new := .placed) (by decide) (by decide) n

/-- The stories of a SET page: each SET on a run of the page, none twice (R127, R128). -/
def SetPage (g : Nat) (s : State) : Prop :=
  (s.page g).stories.Nodup ∧ ∀ n ∈ (s.page g).stories,
    (1 ≤ n ∧ n ≤ 512) ∧ (s.story n).stage = .set ∧ (s.story n).run.map (fun r => r.page) = some g

theorem State.fresh_congr {t : State} {n : Nat} (h : (t.story n).fit = (s.story n).fit) : t.fresh n = s.fresh n := by
  rw [State.fresh, State.fresh, h]

/-- What reopening a SET page leaves (R141). -/
theorem State.reopenPage_story (h : SetPage g s) (n : Nat) : (s.reopenPage g).story n =
    if n ∈ (s.page g).stories then Story.outdated { s.story n with stage := .placed } else s.story n := by
  rw [State.reopenPage_eq, (State.judge_touches _ g).story, State.staleAll_story h.1 (fun n hn => (h.2 n hn).1),
    State.pageBack_story]
  by_cases hn : n ∈ (s.page g).stories
  · rw [if_pos hn, if_pos hn, if_pos ⟨hn, (h.2 n hn).2.1⟩]
  · rw [if_neg hn, if_neg hn, if_neg fun k => hn k.1]

theorem State.reopenPage_fit (h : SetPage g s) : (s.reopenPage g).fit =
    { s.fit with queue := s.fit.queue ++ (s.page g).stories.filter s.fresh } := by
  have hfresh : (s.pageBack g).fresh = s.fresh := funext fun n =>
    State.fresh_congr ((s.pageBack_moves g .storyFit (by decide)).1 n)
  rw [State.reopenPage_eq, (State.judge_touches _ g).fit, State.staleAll_fit h.1, (s.pageBack_touches g).fit, hfresh]

theorem State.reopenPage_staleRuns (h : SetPage g s) (n : Nat) (hn : n ∈ (s.page g).stories) :
    ((s.pageBack g).story n).run.map (fun r => r.page) = some g := by
  have hrun : ((s.pageBack g).story n).run = (s.story n).run := (s.pageBack_moves g .run (by decide)).1 n
  rw [hrun]
  exact (h.2 n hn).2.2

theorem State.reopenPage_samePages (h : SetPage g s) : SamePagesBut g s (s.reopenPage g) := by
  intro k hk
  rw [State.reopenPage_eq, State.judge_page, if_neg hk, State.staleAll_page (State.reopenPage_staleRuns h), if_neg hk,
    s.pageBack_samePages g k hk]

theorem State.reopenPage_page (h : SetPage g s) (hg : 1 ≤ g ∧ g ≤ 48) : (s.reopenPage g).page g = { s.page g with
    state := .makeup, trim := false, fit := (s.reopenPage g).judgement (s.page g) } := by
  have hstale := State.staleAll_page (State.reopenPage_staleRuns h) g
  rw [if_pos rfl, s.pageBack_page hg] at hstale
  have hjudge : (s.reopenPage g).judgement (s.page g) =
      ((s.pageBack g).staleAll (s.page g).stories).judgement (((s.pageBack g).staleAll (s.page g).stories).page g) := by
    rw [State.reopenPage_eq, State.judgement_congr (State.judge_touches _ g).stories]
    exact (State.judgement_page (by rw [hstale]) (by rw [hstale])).symm
  rw [hjudge, State.reopenPage_eq, State.judge_page, if_pos rfl]
  rw [hstale]

theorem State.reopenPage_lampsOnly (s : State) (g : Nat) : LampsOnly s (s.reopenPage g) := by
  intro k
  have h := (s.pageBack g).staleAll_lampsOnly (s.page g).stories k
  rw [State.reopenPage_eq, (State.judge_touches _ g).line]
  rwa [(s.pageBack_touches g).line] at h

theorem State.reopenPage_lines (habsent : ∀ n ∈ (s.page g).stories, (s.story n).holder = .absent) :
    (s.reopenPage g).lines = s.lines := by
  rw [State.reopenPage_eq, (State.judge_touches _ g).lines, State.staleAll_lines, (s.pageBack_touches g).lines]
  intro n hn
  have hholder : ((s.pageBack g).story n).holder = (s.story n).holder := (s.pageBack_moves g .holder (by decide)).1 n
  rw [hholder, habsent n hn]

theorem State.reopen_done (hg : 1 ≤ g ∧ g ≤ 48) (hstate : (s.page g).state = .set) :
    s.reopen g = (.done, u8 (s.page g).stories.length, State.noticeFit s g (s.reopenPage g)) := by
  simp [State.reopen, (pageOk_iff g).2 hg, hstate]

theorem State.noticeFit_eq (before : State) (g : Nat) (u : State) :
    State.noticeFit before g u = u.withChannel (State.noticeFit before g u).channel := by
  unfold State.noticeFit
  split <;> rfl

theorem SetPage.offer (h : SetPage g s) (i : Instr) : SetPage g (s.offer i) := by
  simpa only [SetPage, State.page_offer, State.story_offer] using h

end Reopen

/-- REOPEN carried out (R141). -/
theorem exec_reopen {s : State} {tag : Byte} {g : Nat} (htakes : s.takes (.reopen tag g) = true) (hg : 1 ≤ g ∧ g ≤ 48)
    (hstate : (s.page g).state = .set) (hset : SetPage g s) :
    ∃ t, exec (.reopen tag g) s = .next t ∧ Replied (.reopen tag g) .done (u8 (s.page g).stories.length) s t ∧
      Raised (fitNotice g s t) s t ∧ OnlyTouches [.stories, .fit, .pages, .lines, .channel] s t ∧ LampsOnly s t ∧
      SamePagesBut g s t ∧ ((∀ n ∈ (s.page g).stories, (s.story n).holder = .absent) → t.lines = s.lines) ∧
      t.page g = { s.page g with state := .makeup, trim := false, fit := t.judgement (t.page g) } ∧
      (∀ n, t.story n =
        if n ∈ (s.page g).stories then Story.outdated { s.story n with stage := .placed } else s.story n) ∧
      t.fit = { s.fit with queue := s.fit.queue ++ (s.page g).stories.filter s.fresh } := by
  have hset' : SetPage g (s.offer (.reopen tag g)) := hset.offer _
  have hact := State.reopen_done (s := s.offer (.reopen tag g)) hg (by simpa using hstate)
  have htouch := State.reopenPage_touches (s.offer (.reopen tag g)) g
  have hnotice := State.noticeFit_channel (s.offer (.reopen tag g)) g ((s.offer (.reopen tag g)).reopenPage g)
  rw [htouch.channel] at hnotice
  obtain ⟨t, c, hstep, hreply, hraised, htouches, rfl⟩ := host_effect (act := fun s => s.reopen g)
    (ps := [.stories, .fit, .pages, .lines, .channel]) htakes hact hnotice
    ((htouch.mono (by decide)).trans (State.noticeFit_touches _ _ g) (by decide)) (by decide)
  have hfresh : (s.offer (.reopen tag g)).fresh = s.fresh := funext fun n => State.fresh_congr (by rw [State.story_offer])
  rw [State.noticeFit_eq] at *
  refine ⟨_, hstep, by simpa using hreply, ?_, htouches, ?_, ?_, ?_, ?_, ?_, ?_⟩
  · rwa [fitNotice_congr (s := s) (u := ((s.offer (.reopen tag g)).reopenPage g)) (by rw [State.page_offer]) rfl] at hraised
  · intro k
    simpa using (s.offer (.reopen tag g)).reopenPage_lampsOnly g k
  · intro h hh
    simpa using State.reopenPage_samePages hset' h hh
  · intro habsent
    simpa using State.reopenPage_lines (s := s.offer (.reopen tag g)) (g := g) (by simpa using habsent)
  · have hpage := State.reopenPage_page hset' hg
    simp only [State.withChannel_page, State.withChannel_judgement]
    rw [State.judgement_page (p := (s.offer (.reopen tag g)).page g) (by rw [hpage]) (by rw [hpage]), hpage]
    simp only [State.page_offer]
  · intro n
    simpa using State.reopenPage_story hset' n
  · have hfit := State.reopenPage_fit hset'
    rw [hfresh, State.page_offer, State.fit_offer] at hfit
    exact hfit

/-- CANCEL of a SETTING page (R150, R158). -/
theorem exec_cancel_setting {s : State} {tag : Byte} {g : Nat} {p : Port} (htakes : s.takes (.cancel tag g) = true)
    (hg : 1 ≤ g ∧ g ≤ 48) (hstate : (s.page g).state = .setting) (hjob : JobAt g p s) :
    ∃ t, exec (.cancel tag g) s = .next t ∧ Replied (.cancel tag g) .done [4] s t ∧ Raised [] s t ∧
      OnlyTouches [.stories, .pages, .output, .channel] s t ∧ PageReturned g (some .cancelled) s t ∧
      (t.port p).abort = true ∧ PortFreed p ((s.port p).cancelled .ready) (some g) s t := by
  obtain ⟨hport, hqueue, hwaits⟩ := hjob
  have hact := State.cancel_setting (s := s.offer (.cancel tag g)) hg (by simpa using hstate) (by rwa [State.portOf_offer])
  have htouch : OnlyTouches [.output, .stories, .pages] (s.offer (.cancel tag g)) _ :=
    ((s.offer (.cancel tag g)).cancelAtPort_touches p g .ready).trans (State.arbitrate_touches _) (by decide)
  obtain ⟨hreturned, habort, hfreed⟩ := State.cancelAtPort_freed (s := s.offer (.cancel tag g)) (p := p) hg
    (hwaits.congr (by simp) fun j hj => by simpa using hj) (by simpa using hqueue)
  obtain ⟨t, c, hstep, hreply, hraised, htouches, rfl⟩ := host_effect (act := fun s => s.cancel g) (ns := [])
    (ps := [.stories, .pages, .output, .channel]) htakes hact htouch.channel (htouch.mono (by decide)) (by decide)
  rw [State.port_offer] at hfreed
  exact ⟨_, hstep, hreply, hraised, htouches, hreturned.of_offer c, by rwa [State.withChannel_port],
    hfreed.of_offer.withChannel c⟩

/-- Settles O49: CANCEL in its three states, and REOPEN. -/
theorem cancelAndReopen : Obligations.CancelAndReopen := by
  refine ⟨?_, ?_, ?_, ?_⟩
  · intro s tag g i htakes hlow hhigh hstate
    have hact := State.cancel_releasing (s := s.offer i) ⟨hlow, hhigh⟩ (by simpa using hstate)
    have htouch := (s.offer i).returnPage_touches g
    obtain ⟨t, c, hstep, hreply, hraised, htouches, rfl⟩ := host_effect (act := fun s => s.cancel g) (ns := [])
      (ps := [.stories, .pages, .channel]) htakes hact htouch.channel (htouch.mono (by decide)) (by decide)
    exact ⟨_, hstep, hreply, hraised, htouches, ((s.offer i).returnPage_returned ⟨hlow, hhigh⟩).of_offer c,
      ((s.offer i).returnPage_samePages g).of_offer c⟩
  · intro s tag g i htakes hlow hhigh hstate
    have hact := State.cancel_queued (s := s.offer i) ⟨hlow, hhigh⟩ (by simpa using hstate)
    have htouch := (s.offer i).cancelQueued_touches g
    obtain ⟨t, c, hstep, hreply, hraised, htouches, rfl⟩ := host_effect (act := fun s => s.cancel g) (ns := [])
      (ps := [.stories, .pages, .output, .channel]) htakes hact htouch.channel (htouch.mono (by decide)) (by decide)
    refine ⟨_, hstep, hreply, hraised, htouches, ((s.offer i).cancelQueued_returned ⟨hlow, hhigh⟩).of_offer c, ?_, ?_⟩
    · refine SamePagesBut.of_offer (i := i) (fun h hh => ?_) c
      rw [State.cancelQueued, State.endRecord_samePages _ g _ h hh, State.setQueue_page]
    · have houtput : ((s.offer i).cancelQueued g).output =
          ((s.offer i).setQueue ((s.offer i).output.queue.filter fun j => j.page ≠ g)).output :=
        (State.returnPage_touches _ g).output
      rw [State.withChannel_output, houtput, State.output_offer, State.setQueue, State.output_offer]
  · intro s tag g p i htakes hlow hhigh hstate hjob
    exact exec_cancel_setting htakes ⟨hlow, hhigh⟩ hstate hjob
  · intro s tag g i htakes hlow hhigh hstate hstories hnodup
    refine exec_reopen htakes ⟨hlow, hhigh⟩ hstate ⟨hnodup, fun n hn => ?_⟩
    obtain ⟨h1, h2, hset, run, hrun, hpage⟩ := hstories n hn
    exact ⟨⟨h1, h2⟩, hset, by rw [hrun, Option.map_some, hpage]⟩

end Sys2Proof.Machine

/-! PAGEOPEN, SLOT and PAGESHUT (R129, R130, R142). -/

namespace Sys2Proof.Machine

/-- The lowest of the numbers 1 to `N` with a property. -/
theorem find?_ids {N n : Nat} {p : Nat → Bool} (hn : 1 ≤ n ∧ n ≤ N) (hp : p n = true) (hlow : ∀ m, 1 ≤ m → m < n → p m = false) :
    ((List.range N).map (· + 1)).find? p = some n := by
  rw [List.find?_map, Option.map_eq_some_iff]
  refine ⟨n - 1, List.find?_range_eq_some.2 ⟨?_, ?_, fun j hj => ?_⟩, by omega⟩
  · simpa [Nat.sub_add_cancel hn.1] using hp
  · rw [List.mem_range]
    omega
  · simpa using hlow (j + 1) (by omega) (by omega)

section Pages
variable {s : State} {g k : Nat}

theorem State.lowestClosed_eq (hg : 1 ≤ g ∧ g ≤ 48) (hclosed : (s.page g).state = .closed)
    (hlow : ∀ h, 1 ≤ h → h < g → (s.page h).state ≠ .closed) : s.lowestClosed = some g :=
  find?_ids hg (by simp [hclosed]) fun h h1 h2 => by simpa using hlow h h1 h2

theorem optWithin_iff {lo hi : Nat} {v : Option Nat} : optWithin lo hi v = true ↔ ∀ x ∈ v, lo ≤ x ∧ x ≤ hi := by
  cases v <;> simp [optWithin, within]

theorem State.pageopen_done {label : Nat} {edition tolerance : Option Nat} (hlabel : 1 ≤ label ∧ label ≤ 999)
    (hedition : ∀ e ∈ edition, 1 ≤ e ∧ e ≤ 15) (hlowest : s.lowestClosed = some g) :
    s.pageopen label edition tolerance =
      (.done, u8 g ++ u8 (edition.getD s.clock.edition) ++ u8 ((tolerance.map (clamp 0 48)).getD 12),
        s.setPage g { Page.shut with
          label := label, edition := edition.getD s.clock.edition, state := .makeup
          tolerance := (tolerance.map (clamp 0 48)).getD 12 }) := by
  have hok : (within 1 999 label && optWithin 1 15 edition) = true := by
    rw [Bool.and_eq_true, optWithin_iff]
    exact ⟨by simp [within, hlabel], hedition⟩
  simp [State.pageopen, hok, hlowest]

theorem clamp_tolerance (v : Option Nat) : (v.map (clamp 0 48)).getD 12 =
    match v with
    | none => 12
    | some v => if 48 < v then 48 else v := by
  cases v with
  | none => rfl
  | some v => simp [clamp_eq]

theorem State.slotDefine_done {depth measure : Nat} (hg : 1 ≤ g ∧ g ≤ 48) (hk : 1 ≤ k ∧ k ≤ 16)
    (hdepth : 24 ≤ depth ∧ depth ≤ 3600) (hmeasure : 36 ≤ measure ∧ measure ≤ 720) (hstate : (s.page g).state = .makeup) :
    s.slotDefine g k depth measure =
      (.done, slotBytes (((s.defineSlot g k depth measure).page g).slot k), s.defineSlot g k depth measure) := by
  simp [State.slotDefine, (pageOk_iff g).2 hg, within, hk, hdepth, hmeasure, hstate, PageState.barred]

theorem State.slotUndefine_done (hg : 1 ≤ g ∧ g ≤ 48) (hk : 1 ≤ k ∧ k ≤ 16) (hstate : (s.page g).state = .makeup)
    (hfree : (s.page g).occupied k = false) :
    s.slotUndefine g k = (.done, [0], s.updPage g fun p => p.setSlot k none) := by
  simp [State.slotUndefine, (pageOk_iff g).2 hg, within, hk, hstate, PageState.barred, hfree, slotBytes]
  rfl

theorem Page.anyOccupied_eq_false {p : Page} (h : ∀ k, p.occupied k = false) : p.anyOccupied = false := by
  rw [Page.anyOccupied, List.any_eq_false]
  intro v hv
  obtain ⟨k, hslot⟩ := Page.slot_of_mem hv
  have hk := h k
  unfold Page.occupied at hk
  rw [hslot] at hk
  cases v with
  | none => simp
  | some sl => simpa using hk

theorem State.pageshut_done (hg : 1 ≤ g ∧ g ≤ 48) (hstate : (s.page g).state = .makeup ∨ (s.page g).state = .set)
    (hfree : ∀ k, (s.page g).occupied k = false) : s.pageshut g = (.done, [], s.setPage g Page.shut) := by
  rcases hstate with h | h <;> simp [State.pageshut, (pageOk_iff g).2 hg, h, Page.anyOccupied_eq_false hfree]

end Pages

/-- A request that changes one page, the channel apart. -/
theorem host_page {s : State} {i : Instr} {act : State → Verdict} {d : List Byte} {g : Nat} {p : Page}
    (htakes : s.takes i = true) (hg : 1 ≤ g ∧ g ≤ 48) (hact : act (s.offer i) = (.done, d, (s.offer i).setPage g p)) :
    ∃ t, hostStep i act s = .next t ∧ Replied i .done d s t ∧ Raised [] s t ∧ OnlyTouches [.pages, .channel] s t ∧
      SamePagesBut g s t ∧ t.page g = p := by
  obtain ⟨t, c, hstep, hreply, hraised, htouch, rfl⟩ := host_effect (ns := []) (ps := [.pages, .channel]) htakes hact
    ((State.setPage_touches _ g p).channel) ((State.setPage_touches _ g p).mono (by decide)) (by decide)
  refine ⟨_, hstep, hreply, hraised, htouch, SamePagesBut.of_offer (i := i) (fun h hh => ?_) c, ?_⟩
  · exact State.page_setPage_ne _ hh p
  · rw [State.withChannel_page, State.page_setPage_self _ hg]

/-! ### SLOT with a depth and a measure (R130) -/

section Define
variable {s : State} {g k n depth measure : Nat}

/-- The page with slot `k` as a SLOT defines it, before its occupant is made out of date. -/
def State.slotPut (s : State) (g k depth measure : Nat) : State :=
  s.updPage g fun p => p.setSlot k (some (redefineSlot ((s.page g).slot k) depth measure))

theorem redefineSlot_eq (old : Option Slot) : redefineSlot old depth measure =
    { depth := depth, measure := measure, occupant := old.bind fun sl => sl.occupant } := by
  cases old <;> rfl

/-- The hole of a defined slot is left as it was: the occupant need not be composed anew. -/
theorem redefineSlot_same {sl : Slot} :
    some sl = some (redefineSlot (some sl) depth measure) ↔ (sl.depth == depth && sl.measure == measure) = true := by
  cases sl
  simp [redefineSlot]

theorem State.slotPut_page (s : State) (hg : 1 ≤ g ∧ g ≤ 48) : (s.slotPut g k depth measure).page g =
    (s.page g).setSlot k (some (redefineSlot ((s.page g).slot k) depth measure)) :=
  State.page_updPage_self _ hg _

theorem State.defineSlot_vacant (h : ((s.page g).slot k).bind (fun sl => sl.occupant) = none) :
    s.defineSlot g k depth measure = s.slotPut g k depth measure := by
  simp only [State.defineSlot, redefineSlot_eq, h]
  rw [State.slotPut, redefineSlot_eq, h]

theorem State.defineSlot_occupied {i : Nat} (h : ((s.page g).slot k).bind (fun sl => sl.occupant) = some (n, i)) :
    s.defineSlot g k depth measure =
      if ((s.page g).slot k).any (fun sl => sl.depth == depth && sl.measure == measure) = true then
        s.slotPut g k depth measure
      else State.noticeFit s g (((s.slotPut g k depth measure).makeStale n).judge g) := by
  cases hslot : (s.page g).slot k with
  | none => rw [hslot] at h; exact absurd h (by simp)
  | some sl =>
    have hsame := redefineSlot_same (sl := sl) (depth := depth) (measure := measure)
    have hocc : (redefineSlot (some sl) depth measure).occupant = some (n, i) := by rwa [hslot] at h
    simp only [State.defineSlot, State.slotPut, hslot, hocc, hsame, Option.any_some]

/-- Making a story out of date changes of a page its judgement alone. -/
theorem State.makeStale_page_fit (s : State) (n h : Nat) :
    (s.makeStale n).page h = { s.page h with fit := ((s.makeStale n).page h).fit } := by
  by_cases hfresh : (s.story n).fit = .none ∨ (s.story n).fit = .current
  · rw [s.makeStale_pages n hfresh h]
    split <;> rfl
  · rw [State.page_congr (State.makeStale_settled hfresh).1]

/-- The occupant of a slot whose hole has changed made out of date, and the page judged (R130), before the notice. -/
def State.slotRefit (s : State) (g k depth measure n : Nat) : State := ((s.slotPut g k depth measure).makeStale n).judge g

theorem State.slotRefit_page (hg : 1 ≤ g ∧ g ≤ 48) : (s.slotRefit g k depth measure n).page g =
    { s.page g with
      slots := ((s.page g).setSlot k (some (redefineSlot ((s.page g).slot k) depth measure))).slots
      fit := (s.slotRefit g k depth measure n).judgement ((s.slotRefit g k depth measure n).page g) } := by
  have hstale := State.makeStale_page_fit (s.slotPut g k depth measure) n g
  rw [s.slotPut_page hg] at hstale
  have hpage : (s.slotRefit g k depth measure n).page g = { s.page g with
      slots := ((s.page g).setSlot k (some (redefineSlot ((s.page g).slot k) depth measure))).slots
      fit := ((s.slotPut g k depth measure).makeStale n).judgement (((s.slotPut g k depth measure).makeStale n).page g) } := by
    rw [State.slotRefit, State.judge_page, if_pos rfl]
    rw [hstale]
    rfl
  have hjudge : (s.slotRefit g k depth measure n).judgement ((s.slotRefit g k depth measure n).page g) =
      ((s.slotPut g k depth measure).makeStale n).judgement (((s.slotPut g k depth measure).makeStale n).page g) := by
    rw [State.slotRefit, State.judgement_congr (State.judge_touches _ g).stories]
    exact State.judgement_page (by rw [← State.slotRefit, hpage, hstale]) (by rw [← State.slotRefit, hpage, hstale]; rfl)
  rw [hjudge]
  exact hpage

theorem State.slotRefit_story (s : State) (g k depth measure n m : Nat) :
    (s.slotRefit g k depth measure n).story m = ((s.slotPut g k depth measure).makeStale n).story m :=
  (State.judge_touches _ g).story m

theorem State.slotRefit_outdated (hn : 1 ≤ n ∧ n ≤ 512) :
    (s.slotRefit g k depth measure n).story n = (s.story n).outdated := by
  rw [State.slotRefit_story, State.makeStale_story hn]
  rfl

theorem State.slotRefit_sameStories : SameStoriesBut n s (s.slotRefit g k depth measure n) := by
  intro m hm
  rw [State.slotRefit_story, State.makeStale_sameStories _ n m hm]
  rfl

theorem State.slotRefit_fit : (s.slotRefit g k depth measure n).fit =
    { s.fit with queue := queuedStale s.fit.queue n (s.story n) } :=
  (State.judge_touches _ g).fit.trans (State.makeStale_fit _ n)

theorem State.slotRefit_told : if (s.story n).fit = .none ∨ (s.story n).fit = .current then
    HolderTold none n (s.slotRefit g k depth measure n) s (s.slotRefit g k depth measure n)
    else (s.slotRefit g k depth measure n).lines = s.lines := by
  have htouch := State.judge_touches ((s.slotPut g k depth measure).makeStale n) g
  split
  next h =>
    have htold := State.makeStale_told (s.slotPut g k depth measure) n h
    exact ((htold.congr (s := s) rfl fun _ => rfl).to fun m => htouch.line m).records fun m l =>
      State.lampLit_congr htouch.stories htouch.desks htouch.flashes htouch.clock m l
  next h => exact htouch.lines.trans (State.makeStale_settled (s := s.slotPut g k depth measure) h).2

theorem State.slotPut_touches (s : State) (g k depth measure : Nat) : OnlyTouches [.pages] s (s.slotPut g k depth measure) :=
  s.updPage_touches g _

theorem State.slotRefit_touches (s : State) (g k depth measure n : Nat) :
    OnlyTouches [.stories, .fit, .pages, .lines] s (s.slotRefit g k depth measure n) :=
  (((s.slotPut_touches g k depth measure).mono (by decide)).trans (State.makeStale_touches _ n) (by decide)).trans
    (State.judge_touches _ g) (by decide)

theorem Page.slot_put (p : Page) (hk : 1 ≤ k ∧ k ≤ 16) (v : Option Slot) :
    (p.setSlot k v).slot k = v ∧ ∀ j, j ≠ k → (p.setSlot k v).slot j = p.slot j := by
  refine ⟨by rw [Page.slot_setSlot, if_pos ⟨rfl, hk⟩], fun j hj => by rw [Page.slot_setSlot, if_neg fun h => hj h.1]⟩

theorem Page.slot_of_slots {p q : Page} (h : p.slots = q.slots) (j : Nat) : p.slot j = q.slot j := by
  cases j <;> simp only [Page.slot, h]

/-- A SLOT whose occupant, if any, keeps its hole: the slot alone changes. -/
theorem exec_slotDefine_kept {tag : Byte} (htakes : s.takes (.slotDefine tag g k depth measure) = true)
    (hg : 1 ≤ g ∧ g ≤ 48) (hk : 1 ≤ k ∧ k ≤ 16) (hdepth : 24 ≤ depth ∧ depth ≤ 3600) (hmeasure : 36 ≤ measure ∧ measure ≤ 720)
    (hstate : (s.page g).state = .makeup)
    (hkept : (s.offer (.slotDefine tag g k depth measure)).defineSlot g k depth measure =
      (s.offer (.slotDefine tag g k depth measure)).slotPut g k depth measure) :
    ∃ t, exec (.slotDefine tag g k depth measure) s = .next t ∧
      Replied (.slotDefine tag g k depth measure) .done (slotBytes ((t.page g).slot k)) s t ∧ Raised (fitNotice g s t) s t ∧
      OnlyTouches [.pages, .channel] s t ∧
      t.page g = (s.page g).setSlot k (some (redefineSlot ((s.page g).slot k) depth measure)) := by
  have hact := State.slotDefine_done (s := s.offer (.slotDefine tag g k depth measure)) hg hk hdepth hmeasure
    (by simpa using hstate)
  rw [hkept] at hact
  have hput := (s.offer (.slotDefine tag g k depth measure)).slotPut_page (k := k) (depth := depth) (measure := measure) hg
  rw [State.page_offer] at hput
  obtain ⟨t, c, hstep, hreply, hraised, htouch, rfl⟩ := host_effect (act := fun s => s.slotDefine g k depth measure) (ns := [])
    (ps := [.pages, .channel]) htakes hact rfl ((State.slotPut_touches _ g k depth measure).mono (by decide)) (by decide)
  have hpage : (((s.offer (.slotDefine tag g k depth measure)).slotPut g k depth measure).withChannel c).page g =
      (s.page g).setSlot k (some (redefineSlot ((s.page g).slot k) depth measure)) := by
    rw [State.withChannel_page, hput]
  refine ⟨_, hstep, by simpa using hreply, ?_, htouch, hpage⟩
  have hfit : fitNotice g s (((s.offer (.slotDefine tag g k depth measure)).slotPut g k depth measure).withChannel c) = [] := by
    rw [fitNotice, hpage]
    exact if_pos rfl
  rwa [hfit]

/-- A SLOT that changes the hole of its occupant (R130). -/
theorem exec_slotDefine_refit {tag : Byte} {i : Nat} (htakes : s.takes (.slotDefine tag g k depth measure) = true)
    (hg : 1 ≤ g ∧ g ≤ 48) (hk : 1 ≤ k ∧ k ≤ 16) (hdepth : 24 ≤ depth ∧ depth ≤ 3600) (hmeasure : 36 ≤ measure ∧ measure ≤ 720)
    (hstate : (s.page g).state = .makeup) (hocc : ((s.page g).slot k).bind (fun sl => sl.occupant) = some (n, i))
    (hnew : ¬((s.page g).slot k).any (fun sl => sl.depth == depth && sl.measure == measure) = true) :
    ∃ t c, exec (.slotDefine tag g k depth measure) s = .next t ∧
      Replied (.slotDefine tag g k depth measure) .done (slotBytes ((t.page g).slot k)) s t ∧ Raised (fitNotice g s t) s t ∧
      OnlyTouches [.stories, .fit, .pages, .lines, .channel] s t ∧
      t = ((s.offer (.slotDefine tag g k depth measure)).slotRefit g k depth measure n).withChannel c := by
  have hact := State.slotDefine_done (s := s.offer (.slotDefine tag g k depth measure)) hg hk hdepth hmeasure
    (by simpa using hstate)
  rw [State.defineSlot_occupied (n := n) (i := i) (by simpa using hocc), if_neg (by simpa using hnew), ← State.slotRefit,
    State.noticeFit_eq] at hact
  have htouch := State.slotRefit_touches (s.offer (.slotDefine tag g k depth measure)) g k depth measure n
  have hnotice := State.noticeFit_channel (s.offer (.slotDefine tag g k depth measure)) g
    ((s.offer (.slotDefine tag g k depth measure)).slotRefit g k depth measure n)
  rw [htouch.channel] at hnotice
  obtain ⟨t, c, hstep, hreply, hraised, htouches, rfl⟩ := host_effect (act := fun s => s.slotDefine g k depth measure)
    (ps := [.stories, .fit, .pages, .lines, .channel]) htakes hact hnotice
    ((htouch.mono (by decide)).trans (State.withChannel_touches _ _) (by decide)) (by decide)
  refine ⟨_, c, hstep, by simpa using hreply, ?_, htouches, rfl⟩
  rwa [fitNotice_congr (s := s) (u := (s.offer (.slotDefine tag g k depth measure)).slotRefit g k depth measure n)
    (by rw [State.page_offer]) rfl] at hraised

end Define

/-- SLOT with a depth and a measure carried out (R130): the slot defined, and an occupant whose hole has changed made out of date. -/
theorem exec_slotDefine {s : State} {tag : Byte} {g k depth measure : Nat} (htakes : s.takes (.slotDefine tag g k depth measure) = true)
    (hg : 1 ≤ g ∧ g ≤ 48) (hk : 1 ≤ k ∧ k ≤ 16) (hdepth : 24 ≤ depth ∧ depth ≤ 3600) (hmeasure : 36 ≤ measure ∧ measure ≤ 720)
    (hstate : (s.page g).state = .makeup) :
    let old := (s.page g).slot k
    ∃ t, exec (.slotDefine tag g k depth measure) s = .next t ∧
      Replied (.slotDefine tag g k depth measure) .done (slotBytes ((t.page g).slot k)) s t ∧ Raised (fitNotice g s t) s t ∧
      OnlyTouches [.stories, .fit, .pages, .lines, .channel] s t ∧
      (t.page g).slot k = some { depth := depth, measure := measure, occupant := old.bind fun sl => sl.occupant } ∧
      (∀ j, j ≠ k → (t.page g).slot j = (s.page g).slot j) ∧
      ∃ slots, t.page g = { s.page g with slots := slots, fit := (t.page g).fit } ∧
        match old.bind fun sl => sl.occupant with
        | some (n, _) =>
          if old.any (fun sl => sl.depth == depth && sl.measure == measure) = true then
            t.stories = s.stories ∧ t.fit = s.fit ∧ t.lines = s.lines ∧ (t.page g).fit = (s.page g).fit
          else SameStoriesBut n s t ∧ (1 ≤ n → n ≤ 512 → t.story n = (s.story n).outdated) ∧
            t.fit = { s.fit with queue := queuedStale s.fit.queue n (s.story n) } ∧
            (t.page g).fit = t.judgement (t.page g) ∧
            (if (s.story n).fit = .none ∨ (s.story n).fit = .current then HolderTold none n t s t else t.lines = s.lines)
        | none => t.stories = s.stories ∧ t.fit = s.fit ∧ t.lines = s.lines ∧ (t.page g).fit = (s.page g).fit := by
  intro old
  obtain ⟨hslot, hslots⟩ := (s.page g).slot_put hk (some (redefineSlot old depth measure))
  have hnew := redefineSlot_eq (depth := depth) (measure := measure) old
  cases hocc : old.bind fun sl => sl.occupant with
  | none =>
    obtain ⟨t, hstep, hreply, hraised, htouch, hpage⟩ := exec_slotDefine_kept htakes hg hk hdepth hmeasure hstate
      (State.defineSlot_vacant (by simpa using hocc))
    refine ⟨t, hstep, hreply, hraised, htouch.mono (by decide), ?_, ?_, (t.page g).slots, ?_, htouch.stories, htouch.fit, htouch.lines, ?_⟩
    · rw [hpage, hslot, hnew, hocc]
    · rwa [hpage]
    · rw [hpage]
      rfl
    · rw [hpage]
      rfl
  | some occ =>
    obtain ⟨n, i⟩ := occ
    by_cases hsame : old.any (fun sl => sl.depth == depth && sl.measure == measure) = true
    · obtain ⟨t, hstep, hreply, hraised, htouch, hpage⟩ := exec_slotDefine_kept htakes hg hk hdepth hmeasure hstate
        (by rw [State.defineSlot_occupied (n := n) (i := i) (by simpa using hocc), if_pos (by simpa using hsame)])
      refine ⟨t, hstep, hreply, hraised, htouch.mono (by decide), ?_, ?_, (t.page g).slots, ?_, ?_⟩
      · rw [hpage, hslot, hnew, hocc]
      · rwa [hpage]
      · rw [hpage]
        rfl
      · simp only [if_pos hsame]
        exact ⟨htouch.stories, htouch.fit, htouch.lines, by rw [hpage]; rfl⟩
    · obtain ⟨t, c, hstep, hreply, hraised, htouch, rfl⟩ := exec_slotDefine_refit htakes hg hk hdepth hmeasure hstate hocc hsame
      have hpage := State.slotRefit_page (s := s.offer (.slotDefine tag g k depth measure)) (k := k) (depth := depth)
        (measure := measure) (n := n) hg
      have htold := State.slotRefit_told (s := s.offer (.slotDefine tag g k depth measure)) (g := g) (k := k) (depth := depth)
        (measure := measure) (n := n)
      have hsamestories := State.slotRefit_sameStories (s := s.offer (.slotDefine tag g k depth measure)) (g := g) (k := k)
        (depth := depth) (measure := measure) (n := n)
      have houtdated := State.slotRefit_outdated (s := s.offer (.slotDefine tag g k depth measure)) (g := g) (k := k)
        (depth := depth) (measure := measure) (n := n)
      have hfit := State.slotRefit_fit (s := s.offer (.slotDefine tag g k depth measure)) (g := g) (k := k)
        (depth := depth) (measure := measure) (n := n)
      rw [State.page_offer] at hpage
      rw [State.story_offer, State.lines_offer] at htold
      rw [State.story_offer, State.fit_offer] at hfit
      refine ⟨_, hstep, hreply, hraised, htouch, ?_, ?_,
        ((s.page g).setSlot k (some (redefineSlot ((s.page g).slot k) depth measure))).slots, ?_, ?_⟩
      · rw [State.withChannel_page, ← hocc, ← hnew, ← hslot]
        exact Page.slot_of_slots (by rw [hpage]) k
      · intro j hj
        rw [State.withChannel_page, ← hslots j hj]
        exact Page.slot_of_slots (by rw [hpage]) j
      · rw [State.withChannel_page]
        conv => lhs; rw [hpage]
        conv => rhs; rw [hpage]
      · simp only [if_neg hsame]
        refine ⟨fun m hm => ?_, fun h1 h2 => ?_, hfit, ?_, ?_⟩
        · rw [State.withChannel_story, hsamestories m hm, State.story_offer]
        · rw [State.withChannel_story, houtdated ⟨h1, h2⟩, State.story_offer]
        · rw [State.withChannel_page, State.withChannel_judgement]
          conv => lhs; rw [hpage]
        · split
          next h =>
            rw [if_pos h] at htold
            exact ((htold.congr (s := s) (by rw [State.story_offer]) fun m => s.line_offer _ m).to fun _ => rfl).records
              fun _ _ => rfl
          next h =>
            rw [if_neg h] at htold
            exact htold

/-- Settles O46: PAGEOPEN, SLOT in its two forms, and PAGESHUT. -/
theorem pagesOpenedAndShut : Obligations.PagesOpenedAndShut := by
  refine ⟨?_, ?_, ?_, ?_⟩
  · intro s tag label edition tolerance g i htakes hlow hhigh hedition hglow hghigh hclosed hlowest e tol
    have hfound : (s.offer i).lowestClosed = some g :=
      State.lowestClosed_eq ⟨hglow, hghigh⟩ (by simpa using hclosed) (by simpa using hlowest)
    have hact := State.pageopen_done (tolerance := tolerance) ⟨hlow, hhigh⟩ hedition hfound
    rw [State.clock_offer] at hact
    obtain ⟨t, hstep, hreply, hraised, htouch, hpages, hpage⟩ :=
      host_page (act := fun s => s.pageopen label edition tolerance) htakes ⟨hglow, hghigh⟩ hact
    rw [clamp_tolerance] at hreply hpage
    exact ⟨t, hstep, hreply, hraised, htouch, hpages, hpage⟩
  · intro s tag g k depth measure i old htakes hglow hghigh hklow hkhigh hd1 hd2 hm1 hm2 hstate
    exact exec_slotDefine htakes ⟨hglow, hghigh⟩ ⟨hklow, hkhigh⟩ ⟨hd1, hd2⟩ ⟨hm1, hm2⟩ hstate
  · intro s tag g k i htakes hglow hghigh hklow hkhigh hstate hfree
    have hact := State.slotUndefine_done (s := s.offer i) ⟨hglow, hghigh⟩ ⟨hklow, hkhigh⟩ (by simpa using hstate)
      (by simpa using hfree)
    obtain ⟨t, hstep, hreply, hraised, htouch, hpages, hpage⟩ := host_page (act := fun s => s.slotUndefine g k) htakes
      ⟨hglow, hghigh⟩ hact
    obtain ⟨hslot, hslots⟩ := (s.page g).slot_put ⟨hklow, hkhigh⟩ none
    rw [State.page_offer] at hpage
    exact ⟨t, hstep, hreply, hraised, htouch, hpages, by rw [hpage, hslot], by rwa [hpage], _, hpage⟩
  · intro s tag g i htakes hglow hghigh hstate hfree
    have hact := State.pageshut_done (s := s.offer i) ⟨hglow, hghigh⟩ (by simpa using hstate) (by simpa using hfree)
    exact host_page (act := fun s => s.pageshut g) htakes ⟨hglow, hghigh⟩ hact

end Sys2Proof.Machine

/-! STYLE, WIDTHS and XLATE (R102 to R106, R145, R146). -/

namespace Sys2Proof.Machine

@[simp] theorem State.withChannel_withChannel (s : State) (c d : Channel) : (s.withChannel c).withChannel d = s.withChannel d := rfl

section Load
variable {s : State}

/-- The records of a table load, before its FIT notices (R105, R124). -/
def State.loaded (s : State) : State := s.loadStale.judgeMakeup.lamps fun _ l => l.lampSource == .overset && l.held.isSome

theorem State.tableLoad_loaded (before s : State) : State.tableLoad before s = State.noticeFits before s.loaded := rfl

theorem State.loaded_story (s : State) (n : Nat) : s.loaded.story n = (s.story n).afterTableLoad :=
  (State.story_congr (s := { s with stories := s.stories.map Story.afterTableLoad }) rfl n).trans
    (s.story_mapStories _ Story.freed_afterTableLoad n)

theorem Story.afterTableLoad_eq (r : Story) : r.afterTableLoad =
    if r.stage = .basket ∨ r.stage = .placed then
      match r.fit with
      | .current => { r with fit := .stale }
      | .computing => { r with changed := true }
      | _ => r
    else r := by
  unfold Story.afterTableLoad Story.inMakeup
  simp only [Bool.or_eq_true, beq_iff_eq]
  refine if_congr Iff.rfl ?_ rfl
  cases h : r.fit <;> simp only

theorem State.loaded_fit (s : State) : s.loaded.fit = { s.fit with queue := s.fit.queue ++ s.tableStale } := rfl

theorem State.loaded_judgement (s : State) (p : Page) : s.loaded.judgement p = s.loadStale.judgement p :=
  State.judgement_congr rfl p

theorem State.loaded_page (s : State) (g : Nat) : s.loaded.page g =
    if (s.page g).state = .makeup then { s.page g with fit := s.loaded.judgement (s.page g) } else s.page g := by
  have hpage : s.loaded.page g = s.loadStale.judgeMakeup.page g := State.page_congr rfl g
  have hbefore : s.loadStale.page g = s.page g := State.page_congr rfl g
  rw [hpage, State.page_judgeMakeup, State.loaded_judgement, hbefore]

theorem State.loaded_line (s : State) {k : Nat} (hk : k < 32) : s.loaded.line k =
    if (s.line k).lampSource = .overset ∧ (s.line k).held.isSome = true then
      { s.line k with lamp := s.loaded.lampLit k (s.line k) } else s.line k := by
  have hlit (l : Line) : s.loadStale.judgeMakeup.lampLit k l = s.loaded.lampLit k l :=
    State.lampLit_congr rfl rfl rfl rfl k l
  have hline : s.loadStale.judgeMakeup.line k = s.line k := rfl
  rw [State.loaded, State.line_lamps, hline, ← State.loaded, hlit]
  simp [hk]

theorem State.noticeFits_channel (before u : State) : (State.noticeFits before u).channel =
    (pageIds.flatMap fun g => fitNotice g before u).foldl Channel.raise u.channel ∧
      State.noticeFits before u = u.withChannel (State.noticeFits before u).channel := by
  unfold State.noticeFits
  induction pageIds generalizing u with
  | nil => exact ⟨rfl, rfl⟩
  | cons g gs ih =>
    have hstep := State.noticeFit_eq before g u
    obtain ⟨hchannel, heq⟩ := ih (State.noticeFit before g u)
    rw [List.foldl_cons]
    constructor
    · have hmap : (fun h => fitNotice h before (State.noticeFit before g u)) = fun h => fitNotice h before u :=
        funext fun h => fitNotice_congr rfl (by rw [hstep, State.withChannel_page])
      rw [hchannel, State.noticeFit_channel, List.flatMap_cons, List.foldl_append, hmap]
    · rw [heq, hstep]
      rfl

/-- A load of tables, told to the pages and the lines; the channel and the tables themselves apart. -/
theorem tableLoaded_of {w t : State} {c : Channel} (hstories : w.stories = s.stories) (hqueue : w.fit.queue = s.fit.queue)
    (hflight : w.fit.inFlight = s.fit.inFlight) (hpages : w.pages = s.pages) (hlines : w.lines = s.lines)
    (ht : t = w.loaded.withChannel c) (hraised : Raised (pageIds.flatMap fun g => fitNotice g s t) s t) : TableLoaded s t := by
  have hstory (n : Nat) : w.story n = s.story n := State.story_congr hstories n
  have hpage (g : Nat) : w.page g = s.page g := State.page_congr hpages g
  have hline (k : Nat) : w.line k = s.line k := by rw [State.line, State.line, hlines]
  have hstale : w.tableStale = s.tableStale := by
    simp only [State.tableStale, hstory]
  subst ht
  refine ⟨fun n => ?_, ?_, ?_, fun g => ?_, hraised, fun k hk => ?_⟩
  · rw [State.withChannel_story, State.loaded_story, hstory]
    exact Story.afterTableLoad_eq _
  · rw [State.withChannel_fit, State.loaded_fit, hstale, hqueue]
    rfl
  · rw [State.withChannel_fit, State.loaded_fit, hflight]
  · rw [State.withChannel_page, State.loaded_page, hpage, State.withChannel_judgement]
  · rw [State.withChannel_line, State.loaded_line _ hk, hline, State.withChannel_lampLit]

theorem State.loadReport_congr {t : State} (h : ∀ n, t.story n = s.story n) : t.loadReport = s.loadReport := by
  simp only [State.loadReport, State.tableStale, State.tableMarks, h]

theorem State.tablesFrozen_congr {t : State} (h : t.pages = s.pages) : t.tablesFrozen = s.tablesFrozen := by
  rw [State.tablesFrozen, State.tablesFrozen, h]

end Load

/-- A load of the fit engine's tables by a request of the host (R105, R106). -/
theorem host_tableLoad {s : State} {i : Instr} {act : State → Verdict} {d : List Byte} {e : FitEngine}
    (htakes : s.takes i = true) (hqueue : e.queue = s.fit.queue) (hflight : e.inFlight = s.fit.inFlight)
    (hact : act (s.offer i) = (.done, d, State.tableLoad (s.offer i) { s.offer i with fit := e })) :
    ∃ t, hostStep i act s = .next t ∧ Replied i .done d s t ∧ OnlyTouches [.stories, .fit, .pages, .lines, .channel] s t ∧
      t.fit.styles = e.styles ∧ t.fit.widths = e.widths ∧ TableLoaded s t := by
  obtain ⟨hchannel, heq⟩ := State.noticeFits_channel (s.offer i) (State.loaded { s.offer i with fit := e })
  have htouch : OnlyTouches [.stories, .fit, .pages, .lines, .channel] (s.offer i)
      (State.tableLoad (s.offer i) { s.offer i with fit := e }) :=
    ((State.setFit_touches _ e).mono (by decide)).trans (State.tableLoad_touches _ _) (by decide)
  obtain ⟨t, c, hstep, hreply, hraised, htouches, rfl⟩ := host_effect (ps := [.stories, .fit, .pages, .lines, .channel])
    htakes hact hchannel htouch (by decide)
  have ht : (State.tableLoad (s.offer i) { s.offer i with fit := e }).withChannel c =
      (State.loaded { s.offer i with fit := e }).withChannel c := by
    rw [State.tableLoad_loaded, heq, State.withChannel_withChannel]
  rw [ht] at hstep hreply hraised htouches
  have hnotices : (pageIds.flatMap fun g => fitNotice g (s.offer i) (State.loaded { s.offer i with fit := e })) =
      pageIds.flatMap fun g => fitNotice g s ((State.loaded { s.offer i with fit := e }).withChannel c) :=
    congrArg (fun f => List.flatMap f pageIds) (funext fun g =>
      fitNotice_congr (by rw [State.page_offer]) (by rw [State.withChannel_page]))
  rw [hnotices] at hraised
  exact ⟨_, hstep, hreply, htouches, rfl, rfl, tableLoaded_of (w := { s.offer i with fit := e }) (c := c) (s.stories_offer i)
    hqueue hflight (s.pages_offer i) (s.lines_offer i) rfl hraised⟩

/-! ### The tables themselves (R102, R103, R145) -/

section Tables
variable {s t : State}

theorem State.loadStyle_done {n : Nat} {f : StyleFields} (hn : n < 32) (hok : ((s.style n).merge f).ok = true)
    (hfree : s.tablesFrozen = false) : s.loadStyle n f =
      (.done, styleBytes ((s.style n).merge f) ++ s.loadReport, State.tableLoad s
        { s with fit := { s.fit with styles := s.fit.styles.setIfInBounds n ((s.style n).merge f) } }) := by
  simp [State.loadStyle, Config.styles, hn, hok, hfree]

theorem State.style_of_set {n : Nat} {y : Style} (hn : n < 32) (h : t.fit.styles = s.fit.styles.setIfInBounds n y) :
    t.style n = y ∧ ∀ m, m ≠ n → t.style m = s.style m := by
  simp only [State.style, h, Vector.getElem?_setIfInBounds]
  refine ⟨by simp [hn], fun m hm => ?_⟩
  rw [if_neg fun e => hm e.symm]

theorem State.loadWidths_done {font c : Nat} {values : List Nat} (hfont : font < 8) (hc : 33 ≤ c) (hsome : values ≠ [])
    (hlast : c + values.length ≤ 127) (hfree : s.tablesFrozen = false) : s.loadWidths font c values =
      (.done, u8 font ++ u8 c ++ u8 values.length ++ u8 (values.countP fun w => decide (72 < w)) ++ s.loadReport,
        State.tableLoad s { s with fit := s.fit.loadWidths font c values }) := by
  have hlen : values.length ≠ 0 := by simpa using hsome
  have hok : (decide (font < Config.fonts) && within 33 126 c && decide (values.length ≠ 0) &&
      decide (c + values.length - 1 ≤ 126)) = true := by
    simp only [within, Bool.and_eq_true, decide_eq_true_eq, Config.fonts]
    exact ⟨⟨⟨decide_eq_true hfont, hc, by omega⟩, hlen⟩, by omega⟩
  simp only [State.loadWidths, hok, hfree]
  rfl

theorem putWidths_get (font : Vector Nat 94) {c code : Nat} {values : List Nat} (hc : 33 ≤ c) (hlow : 33 ≤ code)
    (hhigh : code ≤ 126) : (putWidths font c values)[code - 33]? =
      if c ≤ code ∧ code < c + values.length then (values[code - c]?).map (min 72) else font[code - 33]? := by
  have hi : code - 33 < 94 := by omega
  have hindex : code - 33 - (c - 33) = code - c := by omega
  rw [putWidths, Vector.getElem?_eq_getElem hi, Vector.getElem_mapIdx, Vector.getElem?_eq_getElem hi, hindex]
  by_cases hin : c ≤ code ∧ code < c + values.length
  · have hlt : code - c < values.length := by omega
    rw [if_pos hin, if_pos (by omega), List.getElem?_eq_getElem hlt]
    rfl
  · rw [if_neg hin]
    by_cases hle : c ≤ code
    · have hge : values.length ≤ code - c := by omega
      rw [if_pos (by omega), List.getElem?_eq_none hge]
      rfl
    · rw [if_neg (by omega)]

theorem FitEngine.loadWidths_get (e : FitEngine) {font c f code : Nat} {values : List Nat} (hc : 33 ≤ c) (hf : f < 8)
    (hlow : 33 ≤ code) (hhigh : code ≤ 126) :
    (((e.loadWidths font c values).widths[f]?).bind fun v => v[code - 33]?) =
      if f = font ∧ c ≤ code ∧ code < c + values.length then (values[code - c]?).map (min 72)
      else (e.widths[f]?).bind fun v => v[code - 33]? := by
  simp only [FitEngine.loadWidths, Vector.getElem?_eq_getElem hf, Option.bind_some, Vector.getElem_mapIdx]
  by_cases hfont : f = font
  · rw [if_pos hfont, putWidths_get _ hc hlow hhigh]
    simp [hfont]
  · rw [if_neg hfont, if_neg fun h => hfont h.1]

theorem State.loadXlate_done {c : Nat} {entries : List (List Nat)} (hsome : entries ≠ []) (hlast : c + entries.length ≤ 128)
    (hspace : 32 < c ∨ c + entries.length ≤ 32) (hentries : ∀ e ∈ entries, e.length ≤ 2 ∧ ∀ v ∈ e, v ≤ 255)
    (hfree : s.tablesFrozen = false) : s.loadXlate c entries =
      (.done, u8 c ++ u8 entries.length,
        { s with output := { s.output with xlate := putEntries s.output.xlate c entries } }) := by
  have hlen : entries.length ≠ 0 := by simpa using hsome
  have hok : xlateOk c entries = true := by
    simp only [xlateOk, Bool.and_eq_true, Bool.not_eq_true', Bool.and_eq_false_iff, decide_eq_true_eq, decide_eq_false_iff_not,
      List.all_eq_true]
    exact ⟨⟨⟨⟨hlen, by omega⟩, by omega⟩, by omega⟩, hentries⟩
  simp [State.loadXlate, hok, hfree]

theorem State.entry_of_put {c code : Nat} {entries : List (List Nat)} (hcode : code < 128)
    (h : t.output.xlate = putEntries s.output.xlate c entries) : t.entry code =
      if c ≤ code ∧ code < c + entries.length then ((entries[code - c]?).getD []).map byte else s.entry code := by
  simp only [State.entry, h, putEntries, Vector.getElem?_eq_getElem hcode, Vector.getElem_mapIdx, Option.getD_some]
  by_cases hin : c ≤ code ∧ code < c + entries.length
  · have hlt : code - c < entries.length := by omega
    rw [if_pos hin, if_pos hin.1, List.getElem?_eq_getElem hlt]
    rfl
  · rw [if_neg hin]
    by_cases hle : c ≤ code
    · rw [if_pos hle, List.getElem?_eq_none (by omega)]
      rfl
    · rw [if_neg hle]

end Tables

/-- Settles O43: STYLE and WIDTHS, which load a table of the fit engine, and XLATE. -/
theorem tablesLoaded : Obligations.TablesLoaded := by
  refine ⟨?_, ?_, ?_⟩
  · intro s tag n f y i htakes hn hfree hy hok
    subst hy
    have hreport : (s.offer i).loadReport = s.loadReport := State.loadReport_congr fun n => s.story_offer i n
    have hstyle : (s.offer i).style n = s.style n := by rw [State.style, State.style, State.fit_offer]
    have hact := State.loadStyle_done (s := s.offer i) hn (by rwa [hstyle])
      ((State.tablesFrozen_congr (s.pages_offer i)).trans hfree)
    rw [hreport, hstyle] at hact
    obtain ⟨t, hstep, hreply, htouch, hstyles, hwidths, hloaded⟩ := host_tableLoad
      (e := { (s.offer i).fit with styles := (s.offer i).fit.styles.setIfInBounds n ((s.style n).merge f) })
      (act := fun s => s.loadStyle n f) htakes (by rw [State.fit_offer]) (by rw [State.fit_offer]) hact
    rw [State.fit_offer] at hstyles hwidths
    obtain ⟨hself, hothers⟩ := State.style_of_set (t := t) hn hstyles
    exact ⟨t, hstep, hreply, htouch, hself, hothers, hwidths, hloaded⟩
  · intro s tag font c values i htakes hfont hc hsome hlast hfree
    have hreport : (s.offer i).loadReport = s.loadReport := State.loadReport_congr fun n => s.story_offer i n
    have hact := State.loadWidths_done (s := s.offer i) hfont hc hsome hlast
      ((State.tablesFrozen_congr (s.pages_offer i)).trans hfree)
    rw [hreport] at hact
    obtain ⟨t, hstep, hreply, htouch, hstyles, hwidths, hloaded⟩ := host_tableLoad
      (e := (s.offer i).fit.loadWidths font c values) (act := fun s => s.loadWidths font c values) htakes
      (by rw [State.fit_offer]; rfl) (by rw [State.fit_offer]; rfl) hact
    rw [State.fit_offer] at hstyles hwidths
    refine ⟨t, hstep, hreply, htouch, fun f code hf hlow hhigh => ?_, hstyles, hloaded⟩
    rw [hwidths]
    exact FitEngine.loadWidths_get _ hc hf hlow hhigh
  · intro s tag c entries i htakes hsome hlast hspace hentries hfree
    have hact := State.loadXlate_done (s := s.offer i) hsome hlast hspace hentries
      ((State.tablesFrozen_congr (s.pages_offer i)).trans hfree)
    obtain ⟨t, d, hstep, hreply, hraised, htouch, rfl⟩ := host_effect (act := fun s => s.loadXlate c entries) (ns := [])
      (ps := [.output, .channel]) htakes hact rfl ((State.setOutput_touches _ _).mono (by decide)) (by decide)
    rw [State.output_offer] at *
    exact ⟨_, hstep, hreply, hraised, htouch, rfl, fun code hcode => State.entry_of_put hcode rfl⟩

end Sys2Proof.Machine

/-! Arrivals and departures told to the lines of a desk (R23, R24, R81), and the baskets they move (R21). -/

namespace Sys2Proof.Machine

/-! ### A desk told -/

section Told
variable {s t u : State} {d k : Nat} {l : Line}

theorem State.homeScreen_congr (hstories : t.stories = s.stories) (hdesk : t.desk d = s.desk d) (p w : Nat) :
    t.homeScreen d p w = s.homeScreen d p w := by
  have hentries (q : Nat) (ns : List Nat) : t.homeEntries q ns = s.homeEntries q ns := by
    induction ns generalizing q with
    | nil => rfl
    | cons n ns ih => simp only [State.homeEntries, State.story_congr hstories, ih]
  simp only [State.homeScreen, hdesk, hentries]

theorem State.statusLine_of_desk (hflashes : t.flashes = s.flashes) (hclock : t.clock = s.clock) (k : Nat) (v : SignedOn)
    (hdesk : t.desk v.desk = s.desk v.desk) (w : Option Nat) : t.statusLine k v w = s.statusLine k v w := by
  simp only [State.statusLine, hdesk, State.newestUnseen_congr hflashes, hclock]

/-- A BASKET or URGENT lamp shows the desk of the user signed on. -/
theorem State.lampLit_of_desk {v : SignedOn} (huser : l.user = some v) (hdesk : t.desk v.desk = s.desk v.desk)
    (hsource : l.lampSource = .basket ∨ l.lampSource = .urgent) (k : Nat) : t.lampLit k l = s.lampLit k l := by
  rcases hsource with h | h <;> simp only [State.lampLit, h, huser, hdesk]

/-- The lines of desk `d` told of an arrival or a departure there: status lines, the wake if there is one, lamps (R23, R24). -/
def State.tellDesk (s : State) (d : Nat) (wakes : Bool) : State :=
  let t := s.refreshDesk d
  (if wakes then t.wake fun _ l => l.onDesk d && l.wakeUrgent else t).lampsDesk d

theorem State.announce_eq (s : State) (n : Nat) : s.announce n =
    (s.raise (.arrival (s.story n).desk n)).tellDesk (s.story n).desk (s.story n).priority.high := rfl

theorem State.depart_eq (s : State) (n : Nat) : s.depart n = (s.leaveBasket n).tellDesk (s.story n).desk false := rfl

theorem State.tellDesk_touches (s : State) (d : Nat) (wakes : Bool) : OnlyTouches [.lines] s (s.tellDesk d wakes) := by
  have hwake : OnlyTouches [.lines] s (if wakes then (s.refreshDesk d).wake fun _ l => l.onDesk d && l.wakeUrgent
      else s.refreshDesk d) := by
    split
    · exact (s.refresh_touches _).trans (State.wake_touches _ _) (by decide)
    · exact s.refresh_touches _
  exact hwake.trans (State.lamps_touches _ _) (by decide)

theorem deskTold_of_no_user (huser : l.user = none) (ds : List Nat) (woken : Option Nat) : deskTold s ds woken k l = l := by
  simp only [deskTold, huser]

theorem deskTold_of_other {v : SignedOn} (huser : l.user = some v) {ds : List Nat} (hd : v.desk ∉ ds) (woken : Option Nat) :
    deskTold s ds woken k l = l := by
  simp only [deskTold, huser, if_neg hd]

theorem deskTold_user (ds : List Nat) (woken : Option Nat) : (deskTold s ds woken k l).user = l.user := by
  cases huser : l.user with
  | none => rw [deskTold_of_no_user huser, huser]
  | some v =>
    by_cases hd : v.desk ∈ ds
    · simp only [deskTold, huser, if_pos hd]
      split
      · rfl
      · exact huser
    · rw [deskTold_of_other huser hd, huser]

/-- A line told reads of the records the desk of its user, the flashes and the clock, and for a wake the home screen. -/
theorem deskTold_of_home {ds : List Nat} {woken : Option Nat} (hdesk : ∀ d ∈ ds, t.desk d = s.desk d)
    (hflashes : t.flashes = s.flashes) (hclock : t.clock = s.clock)
    (hshown : ∀ d ∈ ds, woken = some d → ∀ w, t.homeScreen d 0 w = s.homeScreen d 0 w) :
    deskTold t ds woken k l = deskTold s ds woken k l := by
  cases huser : l.user with
  | none => rw [deskTold_of_no_user huser, deskTold_of_no_user huser]
  | some v =>
    by_cases hd : v.desk ∈ ds
    · have hhome (h : woken = some v.desk) : t.homeScreen v.desk 0 l.windowSize = s.homeScreen v.desk 0 l.windowSize :=
        hshown v.desk hd h _
      simp only [deskTold, huser, if_pos hd, State.statusLine_of_desk hflashes hclock k v (hdesk _ hd)]
      have hlit (m : Line) (hm : m.user = some v) (hsource : m.lampSource = .basket ∨ m.lampSource = .urgent) :
          t.lampLit k m = s.lampLit k m := State.lampLit_of_desk hm (hdesk _ hd) hsource k
      by_cases hwake : l.state = .dim ∧ woken = some v.desk ∧ l.wakeUrgent = true
      · simp only [if_pos hwake, hhome hwake.2.1]
        by_cases hsource : l.lampSource = .basket ∨ l.lampSource = .urgent
        · simp only [if_pos hsource]
          rw [hlit]
          · rfl
          · exact hsource
        · simp only [if_neg hsource]
      · simp only [if_neg hwake]
        by_cases hsource : l.lampSource = .basket ∨ l.lampSource = .urgent
        · simp only [if_pos hsource, hlit l huser hsource]
        · simp only [if_neg hsource]
    · rw [deskTold_of_other huser hd, deskTold_of_other huser hd]

/-- A line told reads of the records the desk of its user, the flashes and the clock, and for a wake the basket's stories. -/
theorem deskTold_congr {ds : List Nat} {woken : Option Nat} (hdesk : ∀ d ∈ ds, t.desk d = s.desk d)
    (hflashes : t.flashes = s.flashes) (hclock : t.clock = s.clock) (hstories : t.stories = s.stories ∨ woken = none) :
    deskTold t ds woken k l = deskTold s ds woken k l := by
  refine deskTold_of_home hdesk hflashes hclock fun d hd hwoken w => ?_
  rcases hstories with h | h
  · exact State.homeScreen_congr h (hdesk d hd) _ _
  · rw [h] at hwoken
    exact absurd hwoken (by simp)

theorem State.withStatus_of_user {v : SignedOn} (huser : l.user = some v) :
    s.withStatus k l = { l with status := some (s.statusLine k v l.withdrawn) } := by
  simp only [State.withStatus, huser]

theorem State.tellDesk_line (s : State) (d : Nat) (wakes : Bool) (hk : k < 32) :
    (s.tellDesk d wakes).line k = deskTold s [d] (if wakes then some d else none) k (s.line k) := by
  have hrefreshTouch : OnlyTouches [.lines] s (s.refreshDesk d) := s.refresh_touches _
  cases huser : (s.line k).user with
  | none =>
    have hoff : (s.line k).onDesk d = false := by simp [Line.onDesk, huser]
    have hrefresh : (s.refreshDesk d).line k = s.line k := by
      rw [State.refreshDesk, State.line_refresh, if_neg (by simp [hoff])]
    rw [deskTold_of_no_user huser, State.tellDesk, State.lampsDesk, State.line_lamps]
    cases wakes <;> simp [State.line_wake, hrefresh, hoff]
  | some v =>
    by_cases hd : v.desk = d
    · subst hd
      have hon : (s.line k).onDesk v.desk = true := by simp [Line.onDesk, huser]
      have hstatus (w : Option Nat) : (s.refreshDesk v.desk).statusLine k v w = s.statusLine k v w :=
        State.statusLine_congr hrefreshTouch.desks hrefreshTouch.flashes hrefreshTouch.clock k v w
      have hhome (w : Nat) : (s.refreshDesk v.desk).homeScreen v.desk 0 w = s.homeScreen v.desk 0 w :=
        State.homeScreen_congr hrefreshTouch.stories (hrefreshTouch.desk _) _ _
      have hrefresh : (s.refreshDesk v.desk).line k =
          if (s.line k).state = .ready then { s.line k with status := some (s.statusLine k v (s.line k).withdrawn) }
          else s.line k := by
        rw [State.refreshDesk, State.line_refresh]
        by_cases hready : (s.line k).state = .ready
        · rw [if_pos ⟨hk, hready, hon⟩, if_pos hready, State.withStatus_of_user huser]
        · rw [if_neg fun h => hready h.2.1, if_neg hready]
      have hwoken : (if wakes then (s.refreshDesk v.desk).wake fun _ l => l.onDesk v.desk && l.wakeUrgent
          else s.refreshDesk v.desk).line k =
          if (s.line k).state = .dim ∧ (if wakes then some v.desk else none) = some v.desk ∧ (s.line k).wakeUrgent = true then
            { s.line k with
              state := .ready, dimTimer := dimSet (s.line k).dimTime
              display := some (.home (s.homeScreen v.desk 0 (s.line k).windowSize))
              status := some (s.statusLine k v (s.line k).withdrawn) }
          else (s.refreshDesk v.desk).line k := by
        cases wakes with
        | false => simp
        | true =>
          rw [if_pos rfl, State.line_wake]
          by_cases hwake : (s.line k).state = .dim ∧ (s.line k).wakeUrgent = true
          · have hnot : ¬(s.line k).state = .ready := by rw [hwake.1]; decide
            rw [hrefresh, if_neg hnot, if_pos ⟨hk, hwake.1, by simp [hon, hwake.2]⟩, if_pos ⟨hwake.1, rfl, hwake.2⟩]
            simp only [State.awake, Line.armDim, huser, hstatus, hhome]
            rfl
          · have hno : ¬((s.line k).state = .dim ∧ (if true = true then some v.desk else none) = some v.desk ∧
                (s.line k).wakeUrgent = true) := fun h => hwake ⟨h.1, h.2.2⟩
            rw [if_neg hno, hrefresh]
            by_cases hready : (s.line k).state = .ready
            · simp [hready]
            · rw [if_neg hready, if_neg]
              rintro ⟨-, hdim, hurgent⟩
              rw [Bool.and_eq_true] at hurgent
              exact hwake ⟨hdim, hurgent.2⟩
      have hlamps : (s.tellDesk v.desk wakes).line k =
          let m := (if wakes then (s.refreshDesk v.desk).wake fun _ l => l.onDesk v.desk && l.wakeUrgent
            else s.refreshDesk v.desk).line k
          if m.onDesk v.desk = true ∧ (m.lampSource = .basket ∨ m.lampSource = .urgent) then
            { m with lamp := s.lampLit k m } else m := by
        have hlit (m : Line) : (if wakes then (s.refreshDesk v.desk).wake fun _ l => l.onDesk v.desk && l.wakeUrgent
            else s.refreshDesk v.desk).lampLit k m = s.lampLit k m := by
          cases wakes <;> exact State.lampLit_congr rfl rfl rfl rfl k m
        rw [State.tellDesk, State.lampsDesk, State.line_lamps, hlit]
        simp [hk]
      rw [hlamps, hwoken]
      simp only [deskTold, huser, List.mem_singleton, if_true]
      by_cases hwake : (s.line k).state = .dim ∧ (if wakes then some v.desk else none) = some v.desk ∧
          (s.line k).wakeUrgent = true
      · simp only [if_pos hwake]
        by_cases hsource : (s.line k).lampSource = .basket ∨ (s.line k).lampSource = .urgent
        · rw [if_pos ⟨by simp [Line.onDesk], hsource⟩, if_pos hsource]
          rfl
        · rw [if_neg fun h => hsource h.2, if_neg hsource]
          rfl
      · simp only [if_neg hwake, hrefresh]
        by_cases hready : (s.line k).state = .ready
        · simp only [if_pos hready]
          by_cases hsource : (s.line k).lampSource = .basket ∨ (s.line k).lampSource = .urgent
          · rw [if_pos ⟨hon, hsource⟩, if_pos hsource]
            rfl
          · rw [if_neg fun h => hsource h.2, if_neg hsource]
        · simp only [if_neg hready]
          by_cases hsource : (s.line k).lampSource = .basket ∨ (s.line k).lampSource = .urgent
          · rw [if_pos ⟨hon, hsource⟩, if_pos hsource]
          · rw [if_neg fun h => hsource h.2, if_neg hsource]
    · have hoff : (s.line k).onDesk d = false := by simp [Line.onDesk, huser, hd]
      have hrefresh : (s.refreshDesk d).line k = s.line k := by
        rw [State.refreshDesk, State.line_refresh, if_neg (by simp [hoff])]
      rw [deskTold_of_other huser (by simpa using hd), State.tellDesk, State.lampsDesk, State.line_lamps]
      cases wakes <;> simp [State.line_wake, hrefresh, hoff]

end Told

end Sys2Proof.Machine

/-! Arrivals and departures (R21 to R24), and CREATE (R9, R11). -/

namespace Sys2Proof.Machine

section Baskets
variable {s t : State} {n d k : Nat}

/-- A story put into a basket stands at the tail of its class (R21). -/
theorem insertByClass_joined (rank : Nat → Nat) (n : Nat) (basket : List Nat) :
    Joined rank n basket (insertByClass rank n basket) := by
  induction basket with
  | nil => exact ⟨[], [], rfl, rfl, by simp, by simp⟩
  | cons m ms ih =>
    by_cases hlow : rank m < rank n
    · exact ⟨[], m :: ms, rfl, if_pos hlow, by simp, fun i hi => by cases hi; exact hlow⟩
    · obtain ⟨before, after, hold, hnew, hbefore, hafter⟩ := ih
      refine ⟨m :: before, after, by rw [hold]; rfl, ?_, ?_, hafter⟩
      · rw [insertByClass, if_neg hlow, hnew]
        rfl
      · intro i hi
        rcases List.mem_cons.1 hi with rfl | hi
        · exact Nat.le_of_not_lt hlow
        · exact hbefore i hi

theorem State.joinBasket_desk (s : State) (n d : Nat) : (s.joinBasket n).desk d =
    if d = (s.story n).desk ∧ d < 16 then
      { s.desk d with
        basket := insertByClass s.rankOf n (s.desk d).basket, urgent := countIn (s.story n).priority (s.desk d).urgent }
    else s.desk d := by
  rw [State.joinBasket, State.desk_updDesk]
  by_cases hd : d = (s.story n).desk ∧ d < 16
  · rw [if_pos ⟨hd.1, hd.1 ▸ hd.2⟩, if_pos hd, hd.1]
    rfl
  · rw [if_neg (by rintro ⟨rfl, h⟩; exact hd ⟨rfl, h⟩), if_neg hd]

theorem State.leaveBasket_desk (s : State) (n d : Nat) : (s.leaveBasket n).desk d =
    if d = (s.story n).desk ∧ d < 16 then
      { s.desk d with
        basket := (s.desk d).basket.erase n, urgent := countOut (s.story n).priority (s.desk d).urgent }
    else s.desk d := by
  rw [State.leaveBasket, State.desk_updDesk]
  by_cases hd : d = (s.story n).desk ∧ d < 16
  · rw [if_pos ⟨hd.1, hd.1 ▸ hd.2⟩, if_pos hd, hd.1]
    rfl
  · rw [if_neg (by rintro ⟨rfl, h⟩; exact hd ⟨rfl, h⟩), if_neg hd]

theorem State.announce_desk (s : State) (n d : Nat) : (s.announce n).desk d = s.desk d := (s.announce_touches n).desk d

theorem State.arrive_desk (s : State) (n d : Nat) : (s.arrive n).desk d = (s.joinBasket n).desk d := State.announce_desk _ n d

theorem State.depart_desk (s : State) (n d : Nat) : (s.depart n).desk d = (s.leaveBasket n).desk d := by
  rw [State.depart_eq, (State.tellDesk_touches _ _ _).desk]

theorem State.arrive_channel (s : State) (n : Nat) : (s.arrive n).channel = s.channel.raise (.arrival (s.story n).desk n) := by
  rw [State.arrive, State.announce_eq, (State.tellDesk_touches _ _ _).channel]
  rfl

theorem State.rankOf_congr (h : ∀ m, (t.story m).priority = (s.story m).priority) : t.rankOf = s.rankOf :=
  funext fun m => by rw [State.rankOf, State.rankOf, h]

/-- An arrival told to the lines of the story's desk (R23, R81). -/
theorem State.arrive_line (s : State) (n : Nat) (hk : k < 32) : (s.arrive n).line k =
    deskTold (s.arrive n) [(s.story n).desk] (wokenBy (s.story n).priority (s.story n).desk) k (s.line k) := by
  have htouch := State.tellDesk_touches ((s.joinBasket n).raise (.arrival (s.story n).desk n)) (s.story n).desk
    (s.story n).priority.high
  have hline := State.tellDesk_line ((s.joinBasket n).raise (.arrival (s.story n).desk n)) (s.story n).desk
    (s.story n).priority.high hk
  have harrive : s.arrive n = ((s.joinBasket n).raise (.arrival (s.story n).desk n)).tellDesk (s.story n).desk
    (s.story n).priority.high := rfl
  rw [harrive, hline]
  exact (deskTold_congr (fun d _ => htouch.desk d) htouch.flashes htouch.clock (.inl htouch.stories)).symm

/-- A departure told to the lines of the story's desk (R24). -/
theorem State.depart_line (s : State) (n : Nat) (hk : k < 32) :
    (s.depart n).line k = deskTold (s.depart n) [(s.story n).desk] none k (s.line k) := by
  have htouch := State.tellDesk_touches (s.leaveBasket n) (s.story n).desk false
  have hline := State.tellDesk_line (s.leaveBasket n) (s.story n).desk false hk
  rw [State.depart_eq, hline]
  exact (deskTold_congr (fun d _ => htouch.desk d) htouch.flashes htouch.clock (.inl htouch.stories)).symm

theorem State.arrive_told (s : State) (n : Nat) :
    DesksTold none [(s.story n).desk] (wokenBy (s.story n).priority (s.story n).desk) s (s.arrive n) :=
  fun _ hk _ => s.arrive_line n hk

/-- Lines told read of the state before the lines alone. -/
theorem DesksTold.congr {u : State} {skip : Option Nat} {ds : List Nat} {woken : Option Nat} (h : DesksTold skip ds woken u t)
    (hline : ∀ k, skip ≠ some k → u.line k = s.line k) : DesksTold skip ds woken s t := by
  intro k hk hskip
  rw [h k hk hskip, hline k hskip]

theorem DesksTold.skip {ds : List Nat} {woken : Option Nat} (h : DesksTold none ds woken s t) (skip : Option Nat) :
    DesksTold skip ds woken s t :=
  fun k hk _ => h k hk (by simp)

/-- Lines told read of the state after, beside the lines, the desks, the flashes, the clock and the stories. -/
theorem DesksTold.to {u : State} {skip : Option Nat} {ds : List Nat} {woken : Option Nat} (h : DesksTold skip ds woken s t)
    (hline : ∀ k, skip ≠ some k → u.line k = t.line k) (hdesk : ∀ d, u.desk d = t.desk d) (hflashes : u.flashes = t.flashes)
    (hclock : u.clock = t.clock) (hstories : u.stories = t.stories ∨ woken = none) : DesksTold skip ds woken s u := by
  intro k hk hskip
  rw [hline k hskip, h k hk hskip]
  exact (deskTold_congr (fun d _ => hdesk d) hflashes hclock hstories).symm

theorem DesksTold.withChannel {skip : Option Nat} {ds : List Nat} {woken : Option Nat} (h : DesksTold skip ds woken s t)
    (c : Channel) : DesksTold skip ds woken s (t.withChannel c) :=
  h.to (fun _ _ => rfl) (fun _ => rfl) rfl rfl (.inl rfl)

end Baskets

/-! ### CREATE (R9, R11) -/

section Create
variable {s : State} {n : Nat} {p : Priority}

theorem State.lowestFree_eq (hn : 1 ≤ n ∧ n ≤ 512) (hfree : (s.story n).stage = .free)
    (hlow : ∀ m, 1 ≤ m → m < n → (s.story m).stage ≠ .free) : s.lowestFree = some n :=
  find?_ids hn (by simp [hfree]) fun m h1 h2 => by simpa using hlow m h1 h2

theorem State.create_done {slug : List Byte} {desk style priority : Nat} (hslug : slugOk slug = true) (hdesk : desk < 16)
    (hstyle : style < 32) (hp : Priority.ofCode priority = some p) (hfree : s.lowestFree = some n) :
    s.create slug desk style priority = (.done, u16 n, (s.makeStory n slug desk style p).arrive n) := by
  simp [State.create, hp, hslug, (deskOk_iff desk).2 (Nat.le_of_lt_succ hdesk), Config.styles, hstyle, hfree]

/-- What the arrival of a story leaves: the basket of its desk, the notice, and the lines told (R21, R23). -/
theorem State.arrive_spec (s : State) {n desk : Nat} {p : Priority} (hdesk : (s.story n).desk = desk)
    (hp : (s.story n).priority = p) (hrange : desk < 16) :
    Joined (s.arrive n).rankOf n (s.desk desk).basket ((s.arrive n).desk desk).basket ∧
      ((s.arrive n).desk desk).urgent = countIn p (s.desk desk).urgent ∧
      ((s.arrive n).desk desk).spikes = (s.desk desk).spikes ∧ SameDesksBut desk s (s.arrive n) ∧
      DesksTold none [desk] (wokenBy p desk) s (s.arrive n) ∧
      (s.arrive n).channel = s.channel.raise (.arrival desk n) := by
  subst hdesk hp
  have hself : (s.arrive n).desk (s.story n).desk = _ := (s.arrive_desk n _).trans
    ((s.joinBasket_desk n _).trans (if_pos ⟨rfl, hrange⟩))
  have hrank : (s.arrive n).rankOf = s.rankOf := State.rankOf_congr fun m => by rw [(s.arrive_touches n).story]
  refine ⟨?_, ?_, ?_, fun e he => ?_, s.arrive_told n, s.arrive_channel n⟩
  · rw [hself, hrank]
    exact insertByClass_joined _ _ _
  · rw [hself]
  · rw [hself]
  · rw [s.arrive_desk, s.joinBasket_desk, if_neg fun h => he h.1]

end Create

/-- Settles O19: CREATE. -/
theorem createMakesStory : Obligations.CreateMakesStory := by
  intro s tag slug desk style priority n p i htakes hslug hdesk hstyle hp hlow hhigh hfree hlowest
  have hfound : (s.offer i).lowestFree = some n :=
    State.lowestFree_eq ⟨hlow, hhigh⟩ (by simpa using hfree) (by simpa using hlowest)
  have hact := State.create_done (s := s.offer i) hslug hdesk hstyle hp hfound
  have hstory := State.makeStory_story (s := s.offer i) ⟨hlow, hhigh⟩ slug desk style p
  have hmade := State.makeStory_touches (s := s.offer i) (n := n) (p := p) slug desk style
  obtain ⟨hjoined, hurgent, hspikes, hdesks, htold, hchannel⟩ :=
    State.arrive_spec ((s.offer i).makeStory n slug desk style p) (by rw [hstory]) (by rw [hstory]) hdesk
  have harrive := State.arrive_touches ((s.offer i).makeStory n slug desk style p) n
  obtain ⟨t, c, hstep, hreply, hraised, htouch, rfl⟩ := host_effect (act := fun s => s.create slug desk style priority)
    (ns := [.arrival desk n]) (ps := [.stories, .desks, .fit, .lines, .channel]) htakes hact
    (hchannel.trans (congrArg (Channel.raise · _) hmade.channel)) ((hmade.mono (by decide)).trans harrive (by decide)) (by decide)
  refine ⟨_, hstep, hreply, hraised, htouch, ?_, ?_, ?_, ?_, ?_, ?_, ?_, ?_⟩
  · rw [State.withChannel_story, harrive.story, hstory]
    rfl
  · intro m hm
    rw [State.withChannel_story, harrive.story, State.makeStory_sameStories _ _ _ _ m hm, State.story_offer]
  · rw [State.withChannel_fit, harrive.fit]
    simp [State.makeStory, State.setFitQueue]
  · rwa [hmade.desk, State.desk_offer] at hjoined
  · rwa [hmade.desk, State.desk_offer] at hurgent
  · rwa [hmade.desk, State.desk_offer] at hspikes
  · intro e he
    rw [State.withChannel_desk, hdesks e he, hmade.desk, State.desk_offer]
  · exact (htold.congr fun m _ => by rw [hmade.line, State.line_offer]).withChannel c

end Sys2Proof.Machine

/-! Terminal requests carried out: what the answer leaves, and NEW (R10, R72). -/

namespace Sys2Proof.Machine

section Setup
variable {l m o : Line}

theorem Line.sameSetup.trans (h : l.sameSetup m) (k : m.sameSetup o) : l.sameSetup o := by
  unfold Line.sameSetup at h k ⊢
  rw [h] at k
  exact k

/-- What a change of a line's session records, screens and lamp leaves of its setup. -/
theorem Line.sameSetup.of_eq (h : m = { l with
    state := m.state, held := m.held, window := m.window, service := m.service, answer := m.answer, display := m.display
    status := m.status, override := m.override, dimTimer := m.dimTimer, withdrawn := m.withdrawn, lamp := m.lamp }) :
    l.sameSetup m := by
  unfold Line.sameSetup
  rw [h]

theorem Line.sameSession.sameSetup (h : l.sameSession m) : l.sameSetup m := by
  unfold Line.sameSession at h
  exact .of_eq (by rw [h])

/-- A line told of its desk keeps its session. -/
theorem deskTold_sameSession (t : State) (ds : List Nat) (woken : Option Nat) (k : Nat) (l : Line) :
    l.sameSession (deskTold t ds woken k l) := by
  have hself : l.sameSession l := rfl
  cases huser : l.user with
  | none => rwa [deskTold_of_no_user huser]
  | some v =>
    by_cases hd : v.desk ∈ ds
    · unfold deskTold
      rw [huser]
      dsimp only
      rw [if_pos hd]
      unfold Line.sameSession
      split <;> simp only [huser]
    · rwa [deskTold_of_other huser hd]

end Setup

/-- A terminal request its block takes, and what its rule and the answer leave of the lines. -/
theorem line_effect {s : State} {k : Fin 32} {i : Instr} {act : State → Verdict} {st : Status} {d : List Byte} {v : State}
    {ps : List Part} (htakes : s.takesFrame k i = true) (hact : act (s.offerFrame k i) = (st, d, v))
    (hsetup : ((s.offerFrame k i).line k).sameSetup (v.line k))
    (hservice : (v.line k).service = ((s.offerFrame k i).line k).service) (htouch : OnlyTouches ps (s.offerFrame k i) v)
    (hlines : Part.lines ∈ ps) :
    ∃ t, lineStep k i act s = .next t ∧ OnlyTouches ps s t ∧ Served i k st d s t ∧ OnlyTouches [.lines] v t ∧
      SameLinesBut k v t ∧ t.line k = { v.line k with
        answer := (t.line k).answer, service := (t.line k).service, override := (t.line k).override } := by
  have hmem : [Part.lines] ⊆ ps := by simpa using hlines
  have hanswer := v.answerService_touches k i.kind st d
  refine ⟨_, line_served htakes hact, ?_, ?_, hanswer, v.updLine_sameLines k _, ?_⟩
  · exact (((s.offerFrame_touches k i).mono hmem).trans htouch (List.Subset.refl ps)).trans hanswer hmem
  · obtain ⟨kind, hwaiting⟩ := State.waiting_iff.1 htakes
    have hfound := (State.offerFrame_asFound htakes).1
    rw [Served, State.line_answerService]
    refine ⟨rfl, by simp [hservice, hwaiting], fun harm => if_neg harm, ?_⟩
    exact (hfound.sameSetup.trans hsetup).trans (.of_eq rfl)
  · rw [State.line_answerService]

section Holds
variable {s : State} {n : Nat}

/-- Line `k` takes the hold on story `n` (R43, R44). -/
theorem State.takeHold_spec (s : State) (k : Fin 32) (hn : 1 ≤ n ∧ n ≤ 512) :
    (s.takeHold k n).story n = { s.story n with holder := .line k } ∧ SameStoriesBut n s (s.takeHold k n) ∧
      SameLinesBut k s (s.takeHold k n) ∧
      ∃ lamp, (s.takeHold k n).line k = { s.line k with held := some n, lamp := lamp } := by
  have hlamp := State.lampIf_touches ((s.updStory n fun r => { r with holder := .line k }).updLine k
    fun l => { l with held := some n }) k .overset
  refine ⟨?_, fun m hm => ?_, fun m hm => ?_, ?_⟩
  · rw [State.takeHold, hlamp.story, State.updLine_story, State.story_updStory_self _ hn]
  · rw [State.takeHold, hlamp.story, State.updLine_story, State.story_updStory_ne _ hm]
  · rw [State.takeHold, State.lampIf_sameLines _ _ _ m hm, State.line_updLine_ne _ hm]
    rfl
  · rw [State.takeHold, State.line_lampIf_self, State.line_updLine_self _ k.isLt]
    exact ⟨_, rfl⟩

/-- The window of story `n` from line `f`, sent to line `k` (R86). -/
theorem State.putWindow_line (s : State) (k : Fin 32) (n f : Nat) : (s.putWindow k n f).line k = { s.line k with
    display := some (.window (s.windowScreen n f (s.line k).windowSize))
    window := some { first := f, shown := min (s.line k).windowSize ((s.story n).text.length - f) } } := by
  rw [State.putWindow, State.line_updLine_self _ k.isLt]
  rfl

theorem State.putWindow_sameLines (s : State) (k : Nat) (n f : Nat) : SameLinesBut k s (s.putWindow k n f) :=
  s.updLine_sameLines k _

/-- A window shown reads of the state the story and the line. -/
theorem windowShown_of {v t : State} {k : Nat} {f : Nat} (hstory : t.story n = v.story n)
    (hdisplay : (t.line k).display = some (.window (v.windowScreen n f (t.line k).windowSize)))
    (hwindow : (t.line k).window = some { first := f, shown := min (t.line k).windowSize ((v.story n).text.length - f) }) :
    WindowShown k n f t := by
  have hscreen (w : Nat) : t.windowScreen n f w = v.windowScreen n f w := by
    simp only [State.windowScreen, hstory]
  exact ⟨by rw [hscreen]; exact hdisplay, by rw [hstory]; exact hwindow⟩

end Holds

/-! ### NEW (R10, R11) -/

section New
variable {s : State} {k : Fin 32} {n : Nat} {p : Priority} {u : SignedOn} {slug : List Byte} {style priority : Nat}

theorem State.newStory_done (hslug : slugOk slug = true) (hstyle : style < 32) (hp : Priority.ofCode priority = some p)
    (huser : (s.line k).user = some u) (hheld : (s.line k).held = none) (hfree : s.lowestFree = some n) :
    s.newStory k slug style priority =
      (.done, u16 n, (((s.makeStory n slug u.desk style p).takeHold k n).arrive n).putWindow k n 0) := by
  simp [State.newStory, hp, hslug, Config.styles, hstyle, huser, hheld, hfree]

/-- A new story held by the line that made it, as its basket takes it (R10, R23). -/
theorem State.newHeld_spec (hn : 1 ≤ n ∧ n ≤ 512) (hdesk : u.desk < 16) :
    let b := (s.makeStory n slug u.desk style p).takeHold k n
    b.story n =
        { slug := slug, desk := u.desk, priority := p, stage := .basket, style := style, holder := .line k, editCount := 0,
          text := [], chain := [], run := none, fit := .stale, changed := false, results := none } ∧
      SameStoriesBut n s b ∧ b.fit = { s.fit with queue := s.fit.queue ++ [n] } ∧ SameLinesBut k s b ∧
      (∃ lamp, b.line k = { s.line k with held := some n, lamp := lamp }) ∧ OnlyTouches [.stories, .fit, .lines] s b ∧
      Joined (b.arrive n).rankOf n (s.desk u.desk).basket ((b.arrive n).desk u.desk).basket ∧
      ((b.arrive n).desk u.desk).urgent = countIn p (s.desk u.desk).urgent ∧
      ((b.arrive n).desk u.desk).spikes = (s.desk u.desk).spikes ∧ SameDesksBut u.desk s (b.arrive n) ∧
      DesksTold none [u.desk] (wokenBy p u.desk) b (b.arrive n) ∧
      (b.arrive n).channel = s.channel.raise (.arrival u.desk n) := by
  intro b
  have hmade := State.makeStory_touches s n slug u.desk style p
  obtain ⟨hstory, hothers, hlines, lamp, hline⟩ := (s.makeStory n slug u.desk style p).takeHold_spec k hn
  have hhold := (s.makeStory n slug u.desk style p).takeHold_touches k n
  rw [State.makeStory_story hn] at hstory
  rw [hmade.line] at hline
  have htouch : OnlyTouches [.stories, .fit, .lines] s b := (hmade.mono (by decide)).trans hhold (by decide)
  obtain ⟨hjoined, hurgent, hspikes, hdesks, htold, hchannel⟩ :=
    State.arrive_spec b (n := n) (desk := u.desk) (p := p) (by rw [hstory]) (by rw [hstory]) hdesk
  rw [htouch.desk] at hjoined hurgent hspikes
  refine ⟨hstory, fun m hm => ?_, ?_, fun m hm => ?_, ⟨lamp, hline⟩, htouch, hjoined, hurgent, hspikes, fun e he => ?_, htold, ?_⟩
  · rw [hothers m hm, State.makeStory_sameStories _ _ _ _ m hm]
  · rw [hhold.fit]
    rfl
  · rw [hlines m hm, hmade.line]
  · rw [hdesks e he, htouch.desk]
  · rw [hchannel, htouch.channel]

end New

/-- Settles O20: NEW. -/
theorem newMakesHeldStory : Obligations.NewMakesHeldStory := by
  intro s k slug style priority n p u i htakes hslug hstyle hp huser hdesk hheld hlow hhigh hfree hlowest
  have hfound := (State.offerFrame_asFound htakes).1
  have hoffer := s.offerFrame_touches k i
  have hoffered := State.offerFrame_sameLines htakes
  unfold Line.asFound at hfound
  have hact := State.newStory_done (s := s.offerFrame k i) (k := k) (n := n) (u := u) hslug hstyle hp (by rw [hfound, huser])
    (by rw [hfound, hheld]) (State.lowestFree_eq ⟨hlow, hhigh⟩ (by rw [hoffer.story]; exact hfree) fun m h1 h2 => by
      rw [hoffer.story]; exact hlowest m h1 h2)
  obtain ⟨hstory, hothers, hfit, hlines, ⟨lamp, hline⟩, htouch, hjoined, hurgent, hspikes, hdesks, htold, hchannel⟩ :=
    State.newHeld_spec (s := s.offerFrame k i) (k := k) (n := n) (p := p) (u := u) (slug := slug) (style := style)
      ⟨hlow, hhigh⟩ hdesk
  generalize hb : ((s.offerFrame k i).makeStory n slug u.desk style p).takeHold k n = b at *
  have harrive := b.arrive_touches n
  have hsession := deskTold_sameSession (b.arrive n) [u.desk] (wokenBy p u.desk) k (b.line k)
  rw [← htold k k.isLt (by simp)] at hsession
  unfold Line.sameSession at hsession
  have hwindow := (b.arrive n).putWindow_line k n 0
  have hput := (b.arrive n).putWindow_touches k n 0
  obtain ⟨t, hstep, htouches, hserved, hlast, hsame, hlast'⟩ := line_effect
    (act := fun s => s.newStory k slug style priority) (ps := [.stories, .desks, .fit, .lines, .channel]) htakes hact
    (.of_eq (by rw [hwindow, hsession, hline])) (by rw [hwindow, hsession, hline])
    (((htouch.mono (by decide)).trans harrive (by decide)).trans hput (by decide)) (by decide)
  have hrank : t.rankOf = (b.arrive n).rankOf := State.rankOf_congr fun m => by rw [hlast.story, hput.story]
  refine ⟨t, hstep, hserved, ?_, htouches, ?_, ?_, ?_, ?_, ?_, ?_, ?_, ?_, ?_, ?_⟩
  · rw [OnlyRaised, hlast.channel, hput.channel, hchannel, hoffer.channel]
    rfl
  · rw [hlast.story, hput.story, harrive.story, hstory]
  · intro m hm
    rw [hlast.story, hput.story, harrive.story, hothers m hm, hoffer.story]
  · rw [hlast.fit, hput.fit, harrive.fit, hfit, hoffer.fit]
  · rwa [hrank, hlast.desk, hput.desk, ← hoffer.desk]
  · rw [hlast.desk, hput.desk, hurgent, hoffer.desk]
  · rw [hlast.desk, hput.desk, hspikes, hoffer.desk]
  · intro e he
    rw [hlast.desk, hput.desk, hdesks e he, hoffer.desk]
  · refine ((htold.skip (some k.val)).congr fun m hm => ?_).to (fun m hm => ?_) (fun d => ?_) ?_ ?_ (.inl ?_)
    · have hmk : m ≠ k.val := fun e => hm (by rw [e])
      rw [hlines m hmk, hoffered m hmk]
    · have hmk : m ≠ k.val := fun e => hm (by rw [e])
      rw [hsame m hmk, State.putWindow_sameLines _ _ _ _ m hmk]
    · rw [hlast.desk, hput.desk]
    · rw [hlast.flashes, hput.flashes]
    · rw [hlast.clock, hput.clock]
    · rw [hlast.stories, hput.stories]
  · rw [hlast', hwindow, hsession, hline]
  · refine windowShown_of (v := b.arrive n) (by rw [hlast.story, hput.story]) ?_ ?_ <;> rw [hlast', hwindow] <;> rfl

end Sys2Proof.Machine

/-! Holds released (R44), and the moves between baskets and spike lists: ROUTE, PRIORITY, SPIKE and UNSPIKE (R28 to R35). -/

namespace Sys2Proof.Machine

/-! ### Holds released (R44, R51) -/

section Release
variable {s : State} {n k : Nat}

theorem State.releaseHold_stories (s : State) (n : Nat) :
    (s.releaseHold n).stories = (s.updStory n fun r => { r with holder := .absent }).stories := by
  unfold State.releaseHold
  dsimp only
  split
  · rfl
  · rfl
  · exact (State.lampIf_touches _ _ _).stories
  · exact (State.lampIf_touches _ _ _).stories

theorem State.releaseHold_story (hn : 1 ≤ n ∧ n ≤ 512) : (s.releaseHold n).story n = { s.story n with holder := .absent } := by
  rw [State.story_congr (State.releaseHold_stories s n), State.story_updStory_self _ hn]

theorem State.releaseHold_sameStories (s : State) (n : Nat) : SameStoriesBut n s (s.releaseHold n) := fun m hm => by
  rw [State.story_congr (State.releaseHold_stories s n), State.story_updStory_ne _ hm]

/-- The release of a hold that no line has leaves the lines. -/
theorem State.releaseHold_lines (h : (s.story n).holder = .absent ∨ (s.story n).holder = .channel) :
    (s.releaseHold n).lines = s.lines := by
  rcases h with h | h <;> simp [State.releaseHold, h]

/-- A line as the release of its live hold leaves it, its lamp apart (R44). -/
def Line.letGo (l : Line) : Line := { l with
  held := none, window := none, dimTimer := if l.state = .ready then dimSet l.dimTime else l.dimTimer }

theorem State.releaseHold_of_live (h : (s.story n).holder = .line k) : s.releaseHold n =
    ((s.updStory n fun r => { r with holder := .absent }).updLine k Line.letGo).lampIf k .overset := by
  have hletGo : (fun l : Line =>
      let l : Line := { l with held := none, window := none }
      if l.state = .ready then l.armDim else l) = Line.letGo := by
    funext l
    by_cases hready : l.state = .ready
    · simp only [Line.letGo, hready, if_true]
      rfl
    · simp only [Line.letGo, if_neg hready]
  simp only [State.releaseHold, h]
  exact congrArg (fun f => ((s.updStory n fun r => { r with holder := .absent }).updLine k f).lampIf k .overset) hletGo

theorem State.releaseHold_of_orphan {user seconds : Nat} (h : (s.story n).holder = .orphan k user seconds) : s.releaseHold n =
    ((s.updStory n fun r => { r with holder := .absent }).updLine k fun l => { l with held := none }).lampIf k .overset := by
  simp only [State.releaseHold, h]

theorem State.lampIf_line (s : State) (hk : k < 32) (src : LampSource) :
    (s.lampIf k src).line k = { s.line k with lamp := ((s.lampIf k src).line k).lamp } := by
  rw [State.line_lampIf_self s ⟨k, hk⟩]

/-- The release of a live hold at its line (R44). -/
theorem State.releaseHold_line_of_live (h : (s.story n).holder = .line k) (hk : k < 32) :
    (s.releaseHold n).line k = { (s.line k).letGo with lamp := ((s.releaseHold n).line k).lamp } := by
  rw [State.releaseHold_of_live h]
  refine (State.lampIf_line _ hk _).trans ?_
  rw [State.line_updLine_self _ hk, State.updStory_line]

/-- The release of an orphaned hold at its line (R44). -/
theorem State.releaseHold_line_of_orphan {user seconds : Nat} (h : (s.story n).holder = .orphan k user seconds) (hk : k < 32) :
    (s.releaseHold n).line k = { s.line k with held := none, lamp := ((s.releaseHold n).line k).lamp } := by
  rw [State.releaseHold_of_orphan h]
  refine (State.lampIf_line _ hk _).trans ?_
  rw [State.line_updLine_self _ hk, State.updStory_line]

theorem State.releaseHold_sameLines
    (h : (s.story n).holder = .line k ∨ ∃ user seconds, (s.story n).holder = .orphan k user seconds) :
    SameLinesBut k s (s.releaseHold n) := by
  rcases h with h | ⟨user, seconds, h⟩ <;> simp only [State.releaseHold, h] <;>
    exact (State.updLine_sameLines (s.updStory n _) k _).trans (State.lampIf_sameLines _ k _)

/-! ### The requester's own hold released first (R28, R33, R34, R37, R38) -/

/-- What a line's own move of a story does to its hold: where it held the story, the hold goes with the window record and the home
screen is sent; otherwise both stand. The session and the request in service stand. -/
def Line.holdLeft (own : Prop) (l m : Line) : Prop :=
  (own → m.held = none ∧ m.window = none ∧
    ∀ u ∈ m.user, ∃ h, m.display = some (.home h) ∧ h.desk = u.desk ∧ h.first = 0) ∧
  (¬own → m.held = l.held ∧ m.window = l.window) ∧ l.sameSetup m ∧ m.service = l.service

/-- A hold left as a move leaves it stays so when the line is told of desks. -/
theorem Line.holdLeft.told {own : Prop} {l m : Line} (h : l.holdLeft own m) (t : State) (ds : List Nat) (woken : Option Nat)
    (k : Nat) : l.holdLeft own (deskTold t ds woken k m) := by
  obtain ⟨hown, hother, hset, hserve⟩ := h
  have hsame := deskTold_sameSession t ds woken k m
  have huser : (deskTold t ds woken k m).user = m.user := by rw [hsame]
  have hheld : (deskTold t ds woken k m).held = m.held := by rw [hsame]
  have hwindow : (deskTold t ds woken k m).window = m.window := by rw [hsame]
  have hservice : (deskTold t ds woken k m).service = m.service := by rw [hsame]
  refine ⟨fun h => ?_, fun h => ?_, hset.trans hsame.sameSetup, hservice.trans hserve⟩
  · obtain ⟨h1, h2, h3⟩ := hown h
    refine ⟨hheld.trans h1, hwindow.trans h2, fun u hu => ?_⟩
    rw [huser] at hu
    by_cases hd : u.desk ∈ ds
    · have hval : m.user = some u := hu
      by_cases hwake : m.state = .dim ∧ woken = some u.desk ∧ m.wakeUrgent = true
      · refine ⟨t.homeScreen u.desk 0 m.windowSize, ?_, rfl, rfl⟩
        simp only [deskTold, hval, if_pos hd, if_pos hwake]
      · have hdisplay : (deskTold t ds woken k m).display = m.display := by
          simp only [deskTold, hval, if_pos hd, if_neg hwake]
        rw [hdisplay]
        exact h3 u hu
    · rw [deskTold_of_other hu hd]
      exact h3 u hu
  · rw [hheld, hwindow]
    exact hother h

/-- A hold left as a move leaves it stays so when the request is answered. -/
theorem Line.holdLeft.answered {own : Prop} {l m : Line} (h : l.holdLeft own m) {answer : Option Answer}
    {service : Option Service} {override : Bool} {s t : State} {k : Nat} (hs : s.line k = l)
    (ht : t.line k = { m with answer := answer, service := service, override := override }) : HoldAfterMove k own s t := by
  obtain ⟨hown, hother, -, -⟩ := h
  rw [HoldAfterMove, HomeShown, hs, ht]
  exact ⟨hown, hother⟩

theorem Line.holdLeft.refl {own : Prop} (h : ¬own) (l : Line) : l.holdLeft own l :=
  ⟨fun e => absurd e h, fun _ => ⟨rfl, rfl⟩, .of_eq rfl, rfl⟩

theorem State.putOwnHome_line (s : State) (k : Fin 32) : (s.putOwnHome k).line k = { s.line k with
    display := ((s.line k).user.map fun u => Display.home (s.homeScreen u.desk 0 (s.line k).windowSize)).or (s.line k).display } := by
  unfold State.putOwnHome
  cases huser : (s.line k).user with
  | none => simp
  | some u =>
    simp only [State.putHome]
    rw [State.line_updLine_self _ k.isLt]
    rfl

theorem State.putOwnHome_sameLines (s : State) (k : Nat) : SameLinesBut k s (s.putOwnHome k) := by
  unfold State.putOwnHome
  split
  · exact s.updLine_sameLines k _
  · exact fun _ _ => rfl

/-- The story of a move, with the requester's own hold let go (R28, R34, R38). -/
theorem State.releaseOwn_spec (s : State) (k : Fin 32) (hn : 1 ≤ n ∧ n ≤ 512)
    (h : (s.story n).holder = .absent ∨ (s.story n).holder = .line k) :
    (s.releaseOwn k n).story n = { s.story n with holder := .absent } ∧ SameStoriesBut n s (s.releaseOwn k n) ∧
      SameLinesBut k s (s.releaseOwn k n) ∧
      (s.line k).holdLeft ((s.story n).holder = .line k) ((s.releaseOwn k n).line k) := by
  by_cases hown : (s.story n).holder = .line k
  · have hput := State.putOwnHome_touches (s.releaseHold n) k
    rw [State.releaseOwn, if_pos hown]
    refine ⟨?_, fun m hm => ?_, (State.releaseHold_sameLines (.inl hown)).trans (State.putOwnHome_sameLines _ k), ?_⟩
    · rw [hput.story, State.releaseHold_story hn]
    · rw [hput.story, State.releaseHold_sameStories _ _ m hm]
    · have hline := State.releaseHold_line_of_live hown k.isLt
      rw [State.putOwnHome_line, hline]
      refine ⟨fun _ => ⟨rfl, rfl, fun u hu => ?_⟩, fun e => absurd hown e, .of_eq rfl, rfl⟩
      have huser : (s.line k).user = some u := hu
      refine ⟨(s.releaseHold n).homeScreen u.desk 0 (s.line k).windowSize, ?_, rfl, rfl⟩
      refine (congrArg (fun v => (Option.map _ v).or _) huser).trans ?_
      rfl
  · rw [State.releaseOwn, if_neg hown]
    refine ⟨?_, fun _ _ => rfl, fun _ _ => rfl, .refl hown _⟩
    rw [← h.resolve_right hown]

/-- The story of a move, with the channel's hold let go (R28, R33, R37). -/
theorem State.releaseChannel_spec (s : State) (hn : 1 ≤ n ∧ n ≤ 512)
    (h : (s.story n).holder = .absent ∨ (s.story n).holder = .channel) :
    (s.releaseChannel n).story n = { s.story n with holder := .absent } ∧ SameStoriesBut n s (s.releaseChannel n) ∧
      (s.releaseChannel n).lines = s.lines := by
  by_cases hown : (s.story n).holder = .channel
  · rw [State.releaseChannel, if_pos hown]
    exact ⟨State.releaseHold_story hn, State.releaseHold_sameStories s n, State.releaseHold_lines h⟩
  · rw [State.releaseChannel, if_neg hown]
    refine ⟨?_, fun _ _ => rfl, rfl⟩
    rw [← h.resolve_right hown]

end Release

end Sys2Proof.Machine

/-! ROUTE, PRIORITY, SPIKE and UNSPIKE (R28 to R35). -/

namespace Sys2Proof.Machine

/-! ### Arrivals told after a departure -/

section Told
variable {s t u : State} {n d : Nat}

/-- A line is told of the desk of its user alone. -/
theorem deskTold_of_mem {l : Line} {v : SignedOn} (huser : l.user = some v) {ds es : List Nat} {woken woken' : Option Nat}
    (hds : v.desk ∈ ds) (hes : v.desk ∈ es) (hwoken : woken = some v.desk ↔ woken' = some v.desk) (k : Nat) :
    deskTold t ds woken k l = deskTold t es woken' k l := by
  simp only [deskTold, huser, if_pos hds, if_pos hes, hwoken]

/-- A departure from one desk and an arrival at another, told one after the other. -/
theorem deskTold_deskTold {d e : Nat} (hne : d ≠ e) {woken : Option Nat} (hwoken : woken = none ∨ woken = some e)
    (hdesk : u.desk d = t.desk d) (hflashes : u.flashes = t.flashes) (hclock : u.clock = t.clock) (k : Nat) (l : Line) :
    deskTold t [e] woken k (deskTold u [d] none k l) = deskTold t [d, e] woken k l := by
  cases huser : l.user with
  | none => rw [deskTold_of_no_user huser, deskTold_of_no_user huser, deskTold_of_no_user huser]
  | some v =>
    by_cases hd : v.desk = d
    · have htold : (deskTold u [d] none k l).user = some v := (deskTold_user _ _).trans huser
      rw [deskTold_of_other htold (by simpa [hd] using hne)]
      have hwoke : woken ≠ some v.desk := by
        rcases hwoken with rfl | rfl
        · simp
        · simpa [hd] using Ne.symm hne
      rw [deskTold_congr (t := u) (s := t) (by simpa using hdesk) hflashes hclock (.inr rfl)]
      exact deskTold_of_mem huser (by simp [hd]) (by simp [hd]) (by simp [hwoke]) k
    · rw [deskTold_of_other huser (by simpa using hd)]
      by_cases he : v.desk = e
      · exact deskTold_of_mem huser (by simp [he]) (by simp [he]) Iff.rfl k
      · rw [deskTold_of_other huser (by simpa using he), deskTold_of_other huser (by simp [hd, he])]

theorem wokenBy_cases (p : Priority) (d : Nat) : wokenBy p d = none ∨ wokenBy p d = some d := by
  unfold wokenBy
  split
  · exact .inr rfl
  · exact .inl rfl

theorem DesksTold.same_desk {skip : Option Nat} {woken : Option Nat} (h : DesksTold skip [d] woken s t) :
    DesksTold skip [d, d] woken s t := by
  intro k hk hskip
  rw [h k hk hskip]
  cases huser : (s.line k).user with
  | none => rw [deskTold_of_no_user huser, deskTold_of_no_user huser]
  | some v =>
    by_cases hd : v.desk = d
    · exact deskTold_of_mem huser (by simp [hd]) (by simp [hd]) Iff.rfl k
    · rw [deskTold_of_other huser (by simpa using hd), deskTold_of_other huser (by simpa using hd)]

/-- What the departure of a story leaves: the basket of its desk, and the lines told (R24). -/
theorem State.depart_spec (s : State) {n desk : Nat} (hdesk : (s.story n).desk = desk) (hrange : desk < 16) :
    (s.depart n).desk desk = { s.desk desk with
        basket := (s.desk desk).basket.erase n, urgent := countOut (s.story n).priority (s.desk desk).urgent } ∧
      SameDesksBut desk s (s.depart n) ∧ DesksTold none [desk] none s (s.depart n) := by
  subst hdesk
  refine ⟨?_, fun e he => ?_, fun k hk _ => s.depart_line n hk⟩
  · rw [State.depart_desk, State.leaveBasket_desk, if_pos ⟨rfl, hrange⟩]
  · rw [State.depart_desk, State.leaveBasket_desk, if_neg fun h => he h.1]

end Told

/-! ### Records told from one state to another -/

section Carry
variable {s t u v : State} {n : Nat}

/-- What a move of story `n` may be read from: a state that differs from `s` in the holder of the story and the line skipped. -/
structure HolderLet (skip : Option Nat) (n : Nat) (s u : State) : Prop where
  story : u.story n = { s.story n with holder := .absent }
  stories : SameStoriesBut n s u
  lines : ∀ k, skip ≠ some k → u.line k = s.line k
  touch : OnlyTouches [.stories, .lines, .channel] s u

/-- What the end of a request may change of a move's records: the line skipped, and the channel. -/
structure EndOf (skip : Option Nat) (t v : State) : Prop where
  lines : ∀ k, skip ≠ some k → v.line k = t.line k
  touch : OnlyTouches [.lines, .channel] t v

theorem EndOf.withChannel (skip : Option Nat) (t : State) (c : Channel) : EndOf skip t (t.withChannel c) :=
  ⟨fun _ _ => rfl, (t.withChannel_touches c).mono (by decide)⟩

theorem EndOf.told {skip : Option Nat} {ds : List Nat} {woken : Option Nat} (h : EndOf skip t v)
    (htold : DesksTold skip ds woken s t) : DesksTold skip ds woken s v :=
  htold.to h.lines (fun d => h.touch.desk d) h.touch.flashes h.touch.clock (.inl h.touch.stories)

theorem EndOf.rank {skip : Option Nat} (h : EndOf skip t v) : v.rankOf = t.rankOf :=
  State.rankOf_congr fun m => by rw [h.touch.story]

end Carry

/-! ### ROUTE (R28) -/

section Route
variable {s t u v : State} {n desk : Nat} {skip : Option Nat}

theorem Routed.told (h : Routed skip n desk s t) :
    DesksTold skip [(s.story n).desk, desk] (wokenBy (s.story n).priority desk) s t := by
  obtain ⟨-, -, -, -, -, -, -, -, htold⟩ := h
  exact htold

theorem Routed.congr (h : Routed skip n desk u t) (hlet : HolderLet skip n s u) : Routed skip n desk s t := by
  obtain ⟨hstory, hothers, hleft, hjoined, hurgent, hspikes, hdesks, htouch, htold⟩ := h
  have hdesk (d : Nat) : u.desk d = s.desk d := hlet.touch.desk d
  rw [Routed]
  simp only [hlet.story, hdesk] at hstory hleft hjoined hurgent hspikes hdesks htold
  exact ⟨hstory, fun m hm => (hothers m hm).trans (hlet.stories m hm), hleft, hjoined, hurgent, hspikes, hdesks,
    (hlet.touch.mono (by decide)).trans htouch (by decide), htold.congr hlet.lines⟩

theorem Routed.to (h : Routed skip n desk s t) (hend : EndOf skip t v) : Routed skip n desk s v := by
  obtain ⟨hstory, hothers, hleft, hjoined, hurgent, hspikes, hdesks, htouch, htold⟩ := h
  have hdesk (d : Nat) : v.desk d = t.desk d := hend.touch.desk d
  refine ⟨(hend.touch.story n).trans hstory, fun m hm => (hend.touch.story m).trans (hothers m hm), ?_, ?_, ?_, ?_, ?_,
    htouch.trans hend.touch (by decide), hend.told htold⟩
  · rwa [hdesk]
  · rwa [hend.rank, hdesk]
  · rwa [hdesk]
  · rwa [hdesk]
  · intro d h1 h2
    rw [hdesk, hdesks d h1 h2]

theorem Routed.but (h : Routed none n desk s t) (skip : Option Nat) : Routed skip n desk s t := by
  obtain ⟨hstory, hothers, hleft, hjoined, hurgent, hspikes, hdesks, htouch, htold⟩ := h
  exact ⟨hstory, hothers, hleft, hjoined, hurgent, hspikes, hdesks, htouch, htold.skip skip⟩

/-- A ROUTE to the story's own desk: an arrival (R28). -/
theorem State.route_same (hdesk : (s.story n).desk = desk) (hrange : desk < 16) (hholder : (s.story n).holder = .absent) :
    Routed none n desk s (s.route n desk) ∧ (s.route n desk).channel = s.channel.raise (.arrival desk n) := by
  have hroute : s.route n desk = (s.leaveBasket n).arrive n := if_pos hdesk
  have htouch := s.leaveBasket_touches n
  have harrive := (s.leaveBasket n).arrive_touches n
  obtain ⟨hjoined, hurgent, hspikes, hdesks, htold, hchannel⟩ :=
    State.arrive_spec (s.leaveBasket n) (n := n) (desk := desk) (p := (s.story n).priority) hdesk rfl hrange
  have hleft : (s.leaveBasket n).desk desk = { s.desk desk with
      basket := (s.desk desk).basket.erase n, urgent := countOut (s.story n).priority (s.desk desk).urgent } := by
    rw [State.leaveBasket_desk, if_pos ⟨hdesk.symm, hrange⟩]
  rw [hleft] at hjoined hurgent hspikes
  rw [← hroute] at hjoined hurgent hspikes hdesks htold hchannel harrive
  refine ⟨⟨?_, fun m _ => harrive.story m, fun h => absurd hdesk h, ?_, ?_, hspikes, fun d hd _ => ?_,
    (htouch.mono (by decide)).trans harrive (by decide), ?_⟩, hchannel⟩
  · rw [harrive.story, ← hdesk, ← hholder]
    rfl
  · rwa [hdesk, if_pos rfl]
  · rwa [hdesk, if_pos rfl]
  · rw [hdesks d hd, State.leaveBasket_desk, if_neg fun h => hd (h.1.trans hdesk)]
  · rw [hdesk]
    exact (htold.congr fun k _ => htouch.line k).same_desk

/-- A ROUTE to another desk: a departure and an arrival (R28). -/
theorem State.route_other (hn : 1 ≤ n ∧ n ≤ 512) (hdesk : (s.story n).desk ≠ desk) (hrange : desk < 16)
    (hown : (s.story n).desk < 16) (hholder : (s.story n).holder = .absent) :
    Routed none n desk s (s.route n desk) ∧ (s.route n desk).channel = s.channel.raise (.arrival desk n) := by
  have hroute : s.route n desk = ((s.depart n).updStory n fun r => { r with desk := desk }).arrive n := if_neg hdesk
  have hdepart := s.depart_touches n
  obtain ⟨hleft, hleftDesks, hleftTold⟩ := State.depart_spec s (n := n) rfl hown
  have hstory : ((s.depart n).updStory n fun r => { r with desk := desk }).story n = { s.story n with desk := desk } := by
    rw [State.story_updStory_self _ hn, hdepart.story]
  have hothers (m : Nat) (hm : m ≠ n) : ((s.depart n).updStory n fun r => { r with desk := desk }).story m = s.story m := by
    rw [State.story_updStory_ne _ hm, hdepart.story]
  have hupd := (s.depart n).updStory_touches n fun r => { r with desk := desk }
  generalize (s.depart n).updStory n (fun r => { r with desk := desk }) = a at *
  have harrive := a.arrive_touches n
  obtain ⟨hjoined, hurgent, hspikes, hdesks, htold, hchannel⟩ :=
    State.arrive_spec a (n := n) (desk := desk) (p := (s.story n).priority) (by rw [hstory]) (by rw [hstory]) hrange
  rw [hupd.desk, hleftDesks desk (Ne.symm hdesk)] at hjoined hurgent hspikes
  rw [← hroute] at hjoined hurgent hspikes hdesks htold hchannel harrive
  refine ⟨⟨?_, fun m hm => ?_, fun _ => ?_, ?_, ?_, hspikes, fun d hd he => ?_,
    ((hdepart.mono (by decide)).trans hupd (by decide)).trans harrive (by decide), ?_⟩, ?_⟩
  · rw [harrive.story, hstory, ← hholder]
  · rw [harrive.story, hothers m hm]
  · rw [hdesks _ hdesk, hupd.desk, hleft]
  · rwa [if_neg hdesk]
  · rwa [if_neg hdesk]
  · rw [hdesks d hd, hupd.desk, hleftDesks d he]
  · intro k hk _
    have hdeskOwn : (s.depart n).desk (s.story n).desk = (s.route n desk).desk (s.story n).desk := by
      rw [hdesks _ hdesk, hupd.desk]
    rw [htold k hk (by simp), hupd.line, hleftTold k hk (by simp)]
    exact deskTold_deskTold hdesk (wokenBy_cases _ _) hdeskOwn (hupd.flashes.symm.trans harrive.flashes.symm)
      (hupd.clock.symm.trans harrive.clock.symm) k _
  · rw [hchannel, hupd.channel, hdepart.channel]

theorem State.route_spec (hn : 1 ≤ n ∧ n ≤ 512) (hrange : desk < 16) (hown : (s.story n).desk < 16)
    (hholder : (s.story n).holder = .absent) :
    Routed none n desk s (s.route n desk) ∧ (s.route n desk).channel = s.channel.raise (.arrival desk n) := by
  by_cases hdesk : (s.story n).desk = desk
  · exact State.route_same hdesk hrange hholder
  · exact State.route_other hn hdesk hrange hown hholder

end Route

/-! ### Moves asked for by the host and by a line -/

section Asked
variable {s t v : State} {n : Nat} {k : Fin 32} {i : Instr}

theorem State.line_of_lines (h : t.lines = s.lines) (m : Nat) : t.line m = s.line m := by
  rw [State.line, State.line, h]

theorem Holder.atLine_eq_false {h : Holder} (free : h = .absent ∨ h = .channel) : h.atLine = false := by
  rcases free with rfl | rfl <;> rfl

theorem Holder.bars_eq_false {h : Holder} {m : Nat} (free : h = .absent ∨ h = .line m) : h.bars m = false := by
  rcases free with rfl | rfl <;> simp [Holder.bars]

theorem Line.holdLeft.sameSetup {own : Prop} {l m : Line} (h : l.holdLeft own m) : l.sameSetup m := h.2.2.1

theorem Line.holdLeft.service {own : Prop} {l m : Line} (h : l.holdLeft own m) : m.service = l.service := h.2.2.2

/-- The channel's hold let go before the host's move (R28, R33, R37). -/
theorem HolderLet.host (hn : 1 ≤ n ∧ n ≤ 512) (h : (s.story n).holder = .absent ∨ (s.story n).holder = .channel) :
    HolderLet none n s ((s.offer i).releaseChannel n) := by
  obtain ⟨hstory, hothers, hlines⟩ := State.releaseChannel_spec (s.offer i) hn (by simpa using h)
  have htouch := (s.offer i).releaseChannel_touches n
  exact ⟨by simpa using hstory, fun m hm => by simpa using hothers m hm,
    fun m _ => by rw [State.line_of_lines hlines, State.line_offer], (s.offer_touches i |>.mono (by decide)).trans htouch (by decide)⟩

/-- The line's own hold let go before its move (R28, R34, R38). -/
theorem HolderLet.line (htakes : s.takesFrame k i = true) (hn : 1 ≤ n ∧ n ≤ 512)
    (h : (s.story n).holder = .absent ∨ (s.story n).holder = .line k) :
    HolderLet (some k.val) n s ((s.offerFrame k i).releaseOwn k n) := by
  have hoffer := s.offerFrame_touches k i
  obtain ⟨hstory, hothers, hlines, -⟩ := State.releaseOwn_spec (s.offerFrame k i) k hn (by rwa [hoffer.story])
  have htouch := (s.offerFrame k i).releaseOwn_touches k n
  refine ⟨by rw [hstory, hoffer.story], fun m hm => by rw [hothers m hm, hoffer.story], fun m hm => ?_,
    (hoffer.mono (by decide)).trans htouch (by decide)⟩
  have hm : m ≠ k.val := fun e => hm (by rw [e])
  rw [hlines m hm, State.offerFrame_sameLines htakes m hm]

/-- What the line's own hold is once let go (R28, R34, R38). -/
theorem State.releaseOwn_holdLeft (i : Instr) (hn : 1 ≤ n ∧ n ≤ 512)
    (h : (s.story n).holder = .absent ∨ (s.story n).holder = .line k) :
    ((s.offerFrame k i).line k).holdLeft ((s.story n).holder = .line k)
      (((s.offerFrame k i).releaseOwn k n).line k) := by
  have hoffer := s.offerFrame_touches k i
  have hspec := (State.releaseOwn_spec (s.offerFrame k i) k hn (by rwa [hoffer.story])).2.2.2
  rwa [hoffer.story] at hspec

theorem Line.asFound.held {l m : Line} (h : l.asFound m) : m.held = l.held := by rw [h]
theorem Line.asFound.window {l m : Line} (h : l.asFound m) : m.window = l.window := by rw [h]

theorem DesksTold.holdLeft {u : State} {own : Prop} {l : Line} {ds : List Nat} {woken : Option Nat}
    (htold : DesksTold none ds woken u v) (h : l.holdLeft own (u.line k)) : l.holdLeft own (v.line k) := by
  rw [htold k k.isLt (by simp)]
  exact h.told v ds woken k

/-- The hold of a line after its move is answered. -/
theorem Line.holdLeft.afterMove {own : Prop} (htakes : s.takesFrame k i = true)
    (h : ((s.offerFrame k i).line k).holdLeft own (v.line k))
    (ht : t.line k = { v.line k with
      answer := (t.line k).answer, service := (t.line k).service, override := (t.line k).override }) :
    HoldAfterMove k own s t := by
  have hfound := (State.offerFrame_asFound htakes).1
  obtain ⟨hown, hother, -, -⟩ := h
  rw [hfound.held, hfound.window] at hother
  rw [HoldAfterMove, HomeShown, ht]
  exact ⟨hown, hother⟩

theorem EndOf.line (hsame : SameLinesBut k v t) (htouch : OnlyTouches [.lines] v t) : EndOf (some k.val) v t :=
  ⟨fun m hm => hsame m fun e => hm (by rw [e]), htouch.mono (by decide)⟩

end Asked

/-- Settles O24: ROUTE. -/
theorem routeMovesStory : Obligations.RouteMovesStory := by
  refine ⟨?_, ?_⟩
  · intro s tag n desk i r htakes hlow hhigh hdesk hown hstage hholder
    have hlet := HolderLet.host (s := s) (i := i) ⟨hlow, hhigh⟩ hholder
    obtain ⟨hrouted, hchannel⟩ := State.route_spec (s := (s.offer i).releaseChannel n) (n := n) (desk := desk) ⟨hlow, hhigh⟩ hdesk
      (by rw [hlet.story]; exact hown) (by rw [hlet.story])
    have hact : (s.offer i).hostRoute n desk =
        (.done, routeDetails n desk, ((s.offer i).releaseChannel n).route n desk) := by
      have hbasket : (s.story n).stage = .basket := hstage
      have hatLine : (s.story n).holder.atLine = false := Holder.atLine_eq_false hholder
      simp [State.hostRoute, (storyOk_iff n).2 ⟨hlow, hhigh⟩, (deskOk_iff desk).2 (Nat.le_of_lt_succ hdesk), hbasket, hatLine]
    obtain ⟨t, c, hstep, hreply, hraised, htouch, rfl⟩ := host_effect (act := fun s => s.hostRoute n desk)
      (ns := [.arrival desk n]) (ps := [.stories, .desks, .lines, .channel]) htakes hact
      (hchannel.trans (congrArg (Channel.raise · _) ((s.offer i).releaseChannel_touches n).channel))
      ((((s.offer i).releaseChannel_touches n).mono (by decide)).trans (State.route_touches _ n desk) (by decide)) (by decide)
    exact ⟨_, hstep, hreply, hraised, (hrouted.congr hlet).to (.withChannel none _ c)⟩
  · intro s k n desk i r htakes hlow hhigh hdesk hown hstage hholder
    have hfree : (s.story n).holder = .absent ∨ (s.story n).holder = .line k := hholder.imp_left And.left
    have hlet := HolderLet.line htakes ⟨hlow, hhigh⟩ hfree
    have hoffer := s.offerFrame_touches k i
    have hheld := State.releaseOwn_holdLeft i ⟨hlow, hhigh⟩ hfree
    obtain ⟨hrouted, hchannel⟩ := State.route_spec (s := (s.offerFrame k i).releaseOwn k n) (n := n) (desk := desk)
      ⟨hlow, hhigh⟩ hdesk (by rw [hlet.story]; exact hown) (by rw [hlet.story])
    have hact : (s.offerFrame k i).lineRoute k n desk =
        (.done, routeDetails n desk, ((s.offerFrame k i).releaseOwn k n).route n desk) := by
      have hfound := (State.offerFrame_asFound htakes).1
      have hdesks (d : Nat) : ((s.offerFrame k i).line k).onDesk d = (s.line k).onDesk d := by
        rw [Line.onDesk, Line.onDesk, hfound]
      have hbars : (s.story n).holder.bars k = false := Holder.bars_eq_false hfree
      have hallowed : ¬((s.story n).holder ≠ .line k ∧ (s.line k).onDesk (s.story n).desk = false) := by
        rintro ⟨h1, h2⟩
        rcases hholder with ⟨-, h⟩ | h
        · rw [h] at h2
          exact absurd h2 (by decide)
        · exact h1 h
      have hbasket : (s.story n).stage = .basket := hstage
      rw [State.lineRoute]
      simp only [hoffer.story, hdesks, (storyOk_iff n).2 ⟨hlow, hhigh⟩, (deskOk_iff desk).2 (Nat.le_of_lt_succ hdesk), hbasket,
        hbars, if_neg hallowed]
      rfl
    have hsettled := hrouted.told.holdLeft hheld
    obtain ⟨t, hstep, htouches, hserved, hlast, hsame, hline⟩ := line_effect (act := fun s => s.lineRoute k n desk)
      (ps := [.stories, .desks, .lines, .channel]) htakes hact hsettled.sameSetup hsettled.service
      ((((s.offerFrame k i).releaseOwn_touches k n).mono (by decide)).trans (State.route_touches _ n desk) (by decide))
      (by decide)
    refine ⟨t, hstep, hserved, ?_, ((hrouted.but _).congr hlet).to (.line hsame hlast), hsettled.afterMove htakes hline⟩
    rw [OnlyRaised, hlast.channel, hchannel, ((s.offerFrame k i).releaseOwn_touches k n).channel, hoffer.channel]
    rfl

end Sys2Proof.Machine

/-! PRIORITY, SPIKE and UNSPIKE (R31 to R35). -/

namespace Sys2Proof.Machine

/-! ### PRIORITY (R31, R32) -/

section Reclass
variable {s t u v : State} {n : Nat} {p : Priority} {skip : Option Nat}

theorem Reclassed.to (h : Reclassed skip n p s t) (hend : EndOf skip t v) : Reclassed skip n p s v := by
  obtain ⟨hstory, hothers, htouch, hbasket, helse⟩ := h
  have hdesk (d : Nat) : v.desk d = t.desk d := hend.touch.desk d
  refine ⟨(hend.touch.story n).trans hstory, fun m hm => (hend.touch.story m).trans (hothers m hm),
    htouch.trans hend.touch (by decide), fun hstage => ?_, fun hstage => ?_⟩
  · obtain ⟨hjoined, hurgent, hspikes, hdesks, htold⟩ := hbasket hstage
    rw [hend.rank, hdesk]
    exact ⟨hjoined, hurgent, hspikes, fun d hd => (hdesk d).trans (hdesks d hd), hend.told htold⟩
  · obtain ⟨hdesks, hlines⟩ := helse hstage
    exact ⟨hend.touch.desks.trans hdesks, fun k hk => (hend.lines k hk).trans (hlines k hk)⟩

theorem Reclassed.congr (h : Reclassed skip n p u t) (hstory : ∀ m, u.story m = s.story m)
    (hlines : ∀ k, skip ≠ some k → u.line k = s.line k) (htouch : OnlyTouches [.lines, .channel] s u) :
    Reclassed skip n p s t := by
  obtain ⟨hself, hothers, htouches, hbasket, helse⟩ := h
  have hdesk (d : Nat) : u.desk d = s.desk d := htouch.desk d
  rw [hstory] at hself hbasket helse
  rw [Reclassed]
  refine ⟨hself, fun m hm => (hothers m hm).trans (hstory m), (htouch.mono (by decide)).trans htouches (by decide),
    fun hstage => ?_, fun hstage => ?_⟩
  · obtain ⟨hjoined, hurgent, hspikes, hdesks, htold⟩ := hbasket hstage
    rw [hdesk] at hjoined hurgent hspikes
    exact ⟨hjoined, hurgent, hspikes, fun d hd => (hdesks d hd).trans (hdesk d), htold.congr hlines⟩
  · obtain ⟨hdesks, hsame⟩ := helse hstage
    exact ⟨hdesks.trans htouch.desks, fun k hk => (hsame k hk).trans (hlines k hk)⟩

theorem Reclassed.but (h : Reclassed none n p s t) (skip : Option Nat) : Reclassed skip n p s t := by
  obtain ⟨hstory, hothers, htouch, hbasket, helse⟩ := h
  refine ⟨hstory, hothers, htouch, fun hstage => ?_, fun hstage => ?_⟩
  · obtain ⟨hjoined, hurgent, hspikes, hdesks, htold⟩ := hbasket hstage
    exact ⟨hjoined, hurgent, hspikes, hdesks, htold.skip skip⟩
  · obtain ⟨hdesks, hlines⟩ := helse hstage
    exact ⟨hdesks, fun k _ => hlines k (by simp)⟩

/-- A line told of a reclassing keeps its session (R31). -/
theorem Reclassed.sameSession (h : Reclassed none n p s t) {k : Nat} (hk : k < 32) : (s.line k).sameSession (t.line k) := by
  obtain ⟨-, -, -, hbasket, helse⟩ := h
  by_cases hstage : (s.story n).stage = .basket
  · obtain ⟨-, -, -, -, htold⟩ := hbasket hstage
    rw [htold k hk (by simp)]
    exact deskTold_sameSession _ _ _ _ _
  · rw [(helse hstage).2 k (by simp)]
    rfl

/-- A reclassing in the basket: an arrival and no departure (R31). -/
theorem State.reclass_basket (hn : 1 ≤ n ∧ n ≤ 512) (hstage : (s.story n).stage = .basket) (hown : (s.story n).desk < 16) :
    Reclassed none n p s (s.reclass n p) ∧ (s.reclass n p).channel = s.channel.raise (.arrival (s.story n).desk n) := by
  have hreclass : s.reclass n p = ((s.leaveBasket n).updStory n fun r => { r with priority := p }).arrive n := if_pos hstage
  have hleave := s.leaveBasket_touches n
  have hleft : (s.leaveBasket n).desk (s.story n).desk = { s.desk (s.story n).desk with
      basket := (s.desk (s.story n).desk).basket.erase n
      urgent := countOut (s.story n).priority (s.desk (s.story n).desk).urgent } := by
    rw [State.leaveBasket_desk, if_pos ⟨rfl, hown⟩]
  have hleftDesks (d : Nat) (hd : d ≠ (s.story n).desk) : (s.leaveBasket n).desk d = s.desk d := by
    rw [State.leaveBasket_desk, if_neg fun h => hd h.1]
  have hstory : ((s.leaveBasket n).updStory n fun r => { r with priority := p }).story n = { s.story n with priority := p } := by
    rw [State.story_updStory_self _ hn, hleave.story]
  have hothers (m : Nat) (hm : m ≠ n) :
      ((s.leaveBasket n).updStory n fun r => { r with priority := p }).story m = s.story m := by
    rw [State.story_updStory_ne _ hm, hleave.story]
  have hupd := (s.leaveBasket n).updStory_touches n fun r => { r with priority := p }
  generalize (s.leaveBasket n).updStory n (fun r => { r with priority := p }) = a at *
  have harrive := a.arrive_touches n
  obtain ⟨hjoined, hurgent, hspikes, hdesks, htold, hchannel⟩ :=
    State.arrive_spec a (n := n) (desk := (s.story n).desk) (p := p) (by rw [hstory]) (by rw [hstory]) hown
  rw [hupd.desk, hleft] at hjoined hurgent hspikes
  rw [← hreclass] at hjoined hurgent hspikes hdesks htold hchannel harrive
  refine ⟨⟨?_, fun m hm => ?_, ((hleave.mono (by decide)).trans hupd (by decide)).trans harrive (by decide), fun _ => ?_,
    fun h => absurd hstage h⟩, ?_⟩
  · rw [harrive.story, hstory]
  · rw [harrive.story, hothers m hm]
  · refine ⟨hjoined, hurgent, hspikes, fun d hd => ?_, htold.congr fun k _ => ?_⟩
    · rw [hdesks d hd, hupd.desk, hleftDesks d hd]
    · rw [hupd.line, hleave.line]
  · rw [hchannel, hupd.channel, hleave.channel]

theorem State.reclass_spec (hn : 1 ≤ n ∧ n ≤ 512) (hown : (s.story n).desk < 16) :
    Reclassed none n p s (s.reclass n p) ∧ (s.reclass n p).channel =
      (if (s.story n).stage = .basket then [Notice.arrival (s.story n).desk n] else []).foldl Channel.raise s.channel := by
  by_cases hstage : (s.story n).stage = .basket
  · rw [if_pos hstage]
    exact State.reclass_basket hn hstage hown
  · have hreclass : s.reclass n p = s.updStory n fun r => { r with priority := p } := if_neg hstage
    rw [hreclass, if_neg hstage]
    exact ⟨⟨State.story_updStory_self _ hn _, fun m hm => State.story_updStory_ne _ hm _,
      (s.updStory_touches n _).mono (by decide), fun h => absurd h hstage, fun _ => ⟨rfl, fun _ _ => rfl⟩⟩, rfl⟩

end Reclass

/-- Settles O25: PRIORITY. -/
theorem priorityReclasses : Obligations.PriorityReclasses := by
  refine ⟨?_, ?_⟩
  · intro s tag n priority p i r htakes hp hlow hhigh hfree hdesk
    obtain ⟨hreclassed, hchannel⟩ := State.reclass_spec (s := s.offer i) (n := n) (p := p) ⟨hlow, hhigh⟩ (by simpa using hdesk)
    have hstage : (s.story n).stage ≠ .free := hfree
    have hact : (s.offer i).hostPriority n priority = (.done, [], (s.offer i).reclass n p) := by
      simp [State.hostPriority, hp, (storyOk_iff n).2 ⟨hlow, hhigh⟩, hstage]
    rw [State.story_offer] at hchannel
    obtain ⟨t, c, hstep, hreply, hraised, htouch, rfl⟩ := host_effect (act := fun s => s.hostPriority n priority)
      (ps := [.stories, .desks, .lines, .channel]) htakes hact hchannel (State.reclass_touches _ n p) (by decide)
    exact ⟨_, hstep, hreply, hraised, (hreclassed.congr (fun m => State.story_offer _ _ m)
      (fun m _ => State.line_offer _ _ m) ((s.offer_touches i).mono (by decide))).to (.withChannel none _ c)⟩
  · intro s k n priority p i r htakes hp hheld hlow hhigh hdesk
    have hoffer := s.offerFrame_touches k i
    have hfound := (State.offerFrame_asFound htakes).1
    obtain ⟨hreclassed, hchannel⟩ := State.reclass_spec (s := s.offerFrame k i) (n := n) (p := p) ⟨hlow, hhigh⟩
      (by rw [hoffer.story]; exact hdesk)
    have hact : (s.offerFrame k i).linePriority k priority = (.done, [], (s.offerFrame k i).reclass n p) := by
      simp [State.linePriority, hp, hfound.held, hheld]
    have hsession := hreclassed.sameSession k.isLt
    have hkept : ((s.offerFrame k i).reclass n p |>.line k).held = (s.line k).held ∧
        ((s.offerFrame k i).reclass n p |>.line k).window = (s.line k).window := by
      rw [hsession]
      exact ⟨hfound.held, hfound.window⟩
    obtain ⟨t, hstep, htouches, hserved, hlast, hsame, hline⟩ := line_effect (act := fun s => s.linePriority k priority)
      (ps := [.stories, .desks, .lines, .channel]) htakes hact hsession.sameSetup (by rw [hsession])
      (State.reclass_touches _ n p) (by decide)
    refine ⟨t, hstep, hserved, ?_, ((hreclassed.but (some k.val)).congr (fun m => hoffer.story m) (fun m hm => ?_)
      (hoffer.mono (by decide))).to (.line hsame hlast), ?_, ?_⟩
    · rw [OnlyRaised, hlast.channel, hchannel, hoffer.channel, hoffer.story]
    · exact State.offerFrame_sameLines htakes m fun e => hm (by rw [e])
    · rw [hline]
      exact hkept.1.trans hheld
    · rw [hline]
      exact hkept.2

/-! ### The entry to SPIKED (R25, R123) -/

section EnterSpiked
variable {s t u v : State} {n : Nat} {skip : Option Nat}

/-- The state in which a story enters SPIKED, its slots left empty. -/
def State.offSlots (s : State) (n : Nat) : State :=
  match (s.story n).run with
  | some run => (s.stopFit n).emptySlots run.page n
  | none => s.stopFit n

theorem State.enterSpiked_eq (s : State) (n : Nat) : s.enterSpiked n =
    ((s.offSlots n).updStory n fun r => { r with stage := .spiked, run := none, fit := .none, changed := false }).updDesk
      (s.story n).desk fun d => { d with spikes := d.spikes ++ [n] } := rfl

theorem State.offSlots_touches (s : State) (n : Nat) : OnlyTouches [.fit, .pages] s (s.offSlots n) := by
  unfold State.offSlots
  split
  · exact ((s.stopFit_touches n).mono (by decide)).trans (State.emptySlots_touches _ _ n) (by decide)
  · exact (s.stopFit_touches n).mono (by decide)

theorem State.enterSpiked_story (hn : 1 ≤ n ∧ n ≤ 512) : (s.enterSpiked n).story n =
    { s.story n with stage := .spiked, run := none, fit := .none, changed := false } := by
  rw [State.enterSpiked_eq, State.updDesk_story, State.story_updStory_self _ hn, (s.offSlots_touches n).story]

theorem State.enterSpiked_sameStories (s : State) (n : Nat) : SameStoriesBut n s (s.enterSpiked n) := fun m hm => by
  rw [State.enterSpiked_eq, State.updDesk_story, State.story_updStory_ne _ hm, (s.offSlots_touches n).story]

theorem State.enterSpiked_desk (hrange : (s.story n).desk < 16) : (s.enterSpiked n).desk (s.story n).desk =
    { s.desk (s.story n).desk with spikes := (s.desk (s.story n).desk).spikes ++ [n] } := by
  rw [State.enterSpiked_eq, State.desk_updDesk_self _ hrange, (State.updStory_touches _ _ _).desk, (s.offSlots_touches n).desk]

theorem State.enterSpiked_sameDesks (s : State) (n : Nat) : SameDesksBut (s.story n).desk s (s.enterSpiked n) := fun d hd => by
  rw [State.enterSpiked_eq, State.desk_updDesk_ne _ hd, (State.updStory_touches _ _ _).desk, (s.offSlots_touches n).desk]

theorem State.enterSpiked_fit (s : State) (n : Nat) : (s.enterSpiked n).fit = { s.fit with
    queue := s.fit.queue.erase n
    inFlight := s.fit.inFlight.map fun c =>
      if (s.story n).fit = .computing ∧ c.story = n then { c with discard := true } else c } := by
  have hfit : (s.offSlots n).fit = (s.stopFit n).fit := by
    unfold State.offSlots
    split <;> rfl
  have hspiked : (s.enterSpiked n).fit = (s.offSlots n).fit := rfl
  rw [hspiked, hfit, State.stopFit]
  by_cases h : (s.story n).fit = .computing
  · simp only [h, true_and, if_true]
  · simp only [h, false_and, if_false, Option.map_id']

theorem State.enterSpiked_pages_of_unplaced (h : (s.story n).run = none) : (s.enterSpiked n).pages = s.pages := by
  have hspiked : (s.enterSpiked n).pages = (s.offSlots n).pages := rfl
  rw [hspiked, State.offSlots, h]
  rfl

end EnterSpiked

/-! ### SPIKE (R33, R34) -/

section Departed
variable {s t : State} {k : Nat} {l : Line}

/-- A departure told to a line reads of a desk its basket and its urgent count. -/
theorem deskTold_of_departure {ds : List Nat} (hbasket : ∀ d ∈ ds, (t.desk d).basket = (s.desk d).basket)
    (hurgent : ∀ d ∈ ds, (t.desk d).urgent = (s.desk d).urgent) (hflashes : t.flashes = s.flashes) (hclock : t.clock = s.clock) :
    deskTold t ds none k l = deskTold s ds none k l := by
  cases huser : l.user with
  | none => rw [deskTold_of_no_user huser, deskTold_of_no_user huser]
  | some v =>
    by_cases hd : v.desk ∈ ds
    · have hstatus (w : Option Nat) : t.statusLine k v w = s.statusLine k v w := by
        simp only [State.statusLine, hbasket _ hd, hurgent _ hd, State.newestUnseen_congr hflashes, hclock]
      have hlit (h : l.lampSource = .basket ∨ l.lampSource = .urgent) : t.lampLit k l = s.lampLit k l := by
        rcases h with h | h <;> simp only [State.lampLit, h, huser, hbasket _ hd, hurgent _ hd]
      have hasleep : ¬(l.state = .dim ∧ none = some v.desk ∧ l.wakeUrgent = true) := by simp
      simp only [deskTold, huser, if_pos hd, hstatus, if_neg hasleep]
      by_cases hsource : l.lampSource = .basket ∨ l.lampSource = .urgent
      · simp only [if_pos hsource, hlit hsource]
      · simp only [if_neg hsource]
    · rw [deskTold_of_other huser hd, deskTold_of_other huser hd]

end Departed

section Spike
variable {s t u v : State} {n : Nat} {skip : Option Nat}

theorem Spiked.told (h : Spiked skip n s t) : DesksTold skip [(s.story n).desk] none s t := by
  obtain ⟨-, -, -, -, -, -, htold⟩ := h
  exact htold

theorem Spiked.congr (h : Spiked skip n u t) (hlet : HolderLet skip n s u) : Spiked skip n s t := by
  obtain ⟨hstory, hothers, hown, hdesks, hfit, htouch, htold⟩ := h
  have hdesk (d : Nat) : u.desk d = s.desk d := hlet.touch.desk d
  rw [Spiked]
  simp only [hlet.story, hdesk, hlet.touch.fit] at hstory hown hdesks hfit htold
  exact ⟨hstory, fun m hm => (hothers m hm).trans (hlet.stories m hm), hown, fun d hd => (hdesks d hd).trans (hdesk d), hfit,
    (hlet.touch.mono (by decide)).trans htouch (by decide), htold.congr hlet.lines⟩

theorem Spiked.to (h : Spiked skip n s t) (hend : EndOf skip t v) : Spiked skip n s v := by
  obtain ⟨hstory, hothers, hown, hdesks, hfit, htouch, htold⟩ := h
  exact ⟨(hend.touch.story n).trans hstory, fun m hm => (hend.touch.story m).trans (hothers m hm),
    (hend.touch.desk _).trans hown, fun d hd => (hend.touch.desk d).trans (hdesks d hd), hend.touch.fit.trans hfit,
    htouch.trans hend.touch (by decide), hend.told htold⟩

theorem Spiked.but (h : Spiked none n s t) (skip : Option Nat) : Spiked skip n s t := by
  obtain ⟨hstory, hothers, hown, hdesks, hfit, htouch, htold⟩ := h
  exact ⟨hstory, hothers, hown, hdesks, hfit, htouch, htold.skip skip⟩

/-- A departure and the entry to SPIKED leave the pages of a story that is on none. -/
theorem State.spike_touches_of_unplaced (h : (s.story n).run = none) :
    OnlyTouches [.stories, .desks, .fit, .lines] s (s.spike n) := by
  intro p hp
  by_cases hpages : p = .pages
  · subst hpages
    have hdepart := s.depart_touches n
    exact (State.enterSpiked_pages_of_unplaced (by rw [hdepart.story, h])).trans hdepart.pages
  · exact s.spike_touches n p (by simp_all)

theorem State.spike_spec (hn : 1 ≤ n ∧ n ≤ 512) (hown : (s.story n).desk < 16) (hholder : (s.story n).holder = .absent)
    (hrun : (s.story n).run = none) : Spiked none n s (s.spike n) := by
  have hdepart := s.depart_touches n
  have htouches := State.spike_touches_of_unplaced hrun
  have hstory := hdepart.story n
  obtain ⟨hleft, hdesks, htold⟩ := State.depart_spec s (n := n) rfl hown
  have hspike := (s.depart n).enterSpiked_touches n
  have hdesk := State.enterSpiked_desk (s := s.depart n) (n := n) (by rwa [hstory])
  have hothers := (s.depart n).enterSpiked_sameDesks n
  rw [hstory] at hdesk hothers
  refine ⟨?_, fun m hm => ?_, ?_, fun d hd => ?_, ?_, htouches.mono (by decide), ?_⟩
  · rw [State.spike, State.enterSpiked_story hn, hstory, ← hholder]
  · rw [State.spike, State.enterSpiked_sameStories _ n m hm, hdepart.story]
  · rw [State.spike, hdesk, hleft]
  · rw [State.spike, hothers d hd, hdesks d hd]
  · rw [State.spike, State.enterSpiked_fit, hdepart.fit, hstory]
  · intro k hk hskip
    have hline : (s.spike n).line k = (s.depart n).line k := hspike.line k
    rw [hline, htold k hk hskip]
    refine (deskTold_of_departure (fun d hd => ?_) (fun d hd => ?_) hspike.flashes hspike.clock).symm <;>
      rw [List.mem_singleton.1 hd, hdesk]

end Spike

theorem hostSpikes {s : State} {tag : Byte} {n : Nat} (htakes : s.takes (.hostSpike tag n) = true) (hn : 1 ≤ n ∧ n ≤ 512)
    (hdesk : (s.story n).desk < 16) (hstage : (s.story n).stage = .basket) (hrun : (s.story n).run = none)
    (hholder : (s.story n).holder = .absent ∨ (s.story n).holder = .channel) :
    ∃ t, exec (.hostSpike tag n) s = .next t ∧ Replied (.hostSpike tag n) .done [] s t ∧ Raised [] s t ∧ Spiked none n s t := by
  have hlet := HolderLet.host (i := .hostSpike tag n) hn hholder
  have hrelease := (s.offer (.hostSpike tag n)).releaseChannel_touches n
  have hspiked := State.spike_spec (s := (s.offer (.hostSpike tag n)).releaseChannel n) (n := n) hn
    (by rw [hlet.story]; exact hdesk) (by rw [hlet.story]) (by rw [hlet.story]; exact hrun)
  have hact : (s.offer (.hostSpike tag n)).hostSpike n =
      (.done, [], ((s.offer (.hostSpike tag n)).releaseChannel n).spike n) := by
    simp [State.hostSpike, (storyOk_iff n).2 hn, hstage, Holder.atLine_eq_false hholder]
  have htouch := State.spike_touches_of_unplaced (s := (s.offer (.hostSpike tag n)).releaseChannel n) (n := n)
    (by rw [hlet.story]; exact hrun)
  obtain ⟨t, c, hstep, hreply, hraised, -, rfl⟩ := host_effect (act := fun s => s.hostSpike n) (ns := [])
    (ps := [.stories, .desks, .fit, .lines, .channel]) htakes hact (htouch.channel.trans hrelease.channel)
    ((hrelease.mono (by decide)).trans htouch (by decide)) (by decide)
  exact ⟨_, hstep, hreply, hraised, (hspiked.congr hlet).to (.withChannel none _ c)⟩

theorem lineSpikes {s : State} {k : Fin 32} {n : Nat} (htakes : s.takesFrame k (.terminalSpike k n) = true)
    (hn : 1 ≤ n ∧ n ≤ 512) (hdesk : (s.story n).desk < 16) (hstage : (s.story n).stage = .basket)
    (hrun : (s.story n).run = none) (hrole : (s.line k).hasRole .reporter = false)
    (hholder : (s.story n).holder = .absent ∨ (s.story n).holder = .line k) :
    ∃ t, exec (.terminalSpike k n) s = .next t ∧ Served (.terminalSpike k n) k .done [] s t ∧ OnlyRaised [] s t ∧
      Spiked (some k.val) n s t ∧ HoldAfterMove k ((s.story n).holder = .line k) s t := by
  have hlet := HolderLet.line htakes hn hholder
  have hoffer := s.offerFrame_touches k (.terminalSpike k n)
  have hrelease := (s.offerFrame k (.terminalSpike k n)).releaseOwn_touches k n
  have hspiked := State.spike_spec (s := (s.offerFrame k (.terminalSpike k n)).releaseOwn k n) (n := n) hn
    (by rw [hlet.story]; exact hdesk) (by rw [hlet.story]) (by rw [hlet.story]; exact hrun)
  have hact : (s.offerFrame k (.terminalSpike k n)).lineSpike k n =
      (.done, [], ((s.offerFrame k (.terminalSpike k n)).releaseOwn k n).spike n) := by
    have hrole' : ((s.offerFrame k (.terminalSpike k n)).line k).hasRole .reporter = false := by
      rw [Line.hasRole, (State.offerFrame_asFound htakes).1]
      exact hrole
    simp [State.lineSpike, hoffer.story, (storyOk_iff n).2 hn, hstage, hrole', Holder.bars_eq_false hholder]
  have htouch := State.spike_touches_of_unplaced (s := (s.offerFrame k (.terminalSpike k n)).releaseOwn k n) (n := n)
    (by rw [hlet.story]; exact hrun)
  have hsettled := hspiked.told.holdLeft (State.releaseOwn_holdLeft (.terminalSpike k n) hn hholder)
  obtain ⟨t, hstep, -, hserved, hlast, hsame, hline⟩ := line_effect (act := fun s => s.lineSpike k n)
    (ps := [.stories, .desks, .fit, .lines]) htakes hact hsettled.sameSetup hsettled.service
    ((hrelease.mono (by decide)).trans htouch (by decide)) (by decide)
  refine ⟨t, hstep, hserved, ?_, ((hspiked.but _).congr hlet).to (.line hsame hlast), hsettled.afterMove htakes hline⟩
  rw [OnlyRaised, hlast.channel, htouch.channel, hrelease.channel, hoffer.channel]
  rfl

/-! ### UNSPIKE (R35) -/

section Unspike
variable {s : State} {n : Nat}

theorem State.judgeStory_of_unplaced (h : (s.story n).stage ≠ .placed) : s.judgeStory n = s := if_neg h

theorem State.lampHolder_of_unheld (h : (s.story n).holder = .absent) : s.lampHolder n = s := by
  simp only [State.lampHolder, h]

/-- A story that no page and no line has goes out of date: the story and the fit queue alone change. -/
theorem State.makeStale_unheld (hstage : (s.story n).stage ≠ .placed) (hholder : (s.story n).holder = .absent)
    (hfit : (s.story n).fit = .none) : s.makeStale n = s.queueStale n := by
  obtain ⟨hplace, -, hhold⟩ := s.queueStale_place n
  have hjudge : (s.queueStale n).judgeStory n = s.queueStale n := State.judgeStory_of_unplaced (by rwa [hplace])
  rw [State.makeStale_fresh (.inl hfit), State.handOff, hjudge, State.lampHolder_of_unheld (hhold.trans hholder)]

/-- What UNSPIKE leaves (R35). -/
theorem State.returnSpiked_spec (hn : 1 ≤ n ∧ n ≤ 512) (hown : (s.story n).desk < 16) (hfit : (s.story n).fit = .none)
    (hholder : (s.story n).holder = .absent) :
    let t := s.returnSpiked n
    OnlyTouches [.stories, .desks, .fit, .lines, .channel] s t ∧
      t.story n = { s.story n with stage := .basket, fit := .stale } ∧ SameStoriesBut n s t ∧
      t.fit = { s.fit with queue := s.fit.queue ++ [n] } ∧
      Joined t.rankOf n (s.desk (s.story n).desk).basket (t.desk (s.story n).desk).basket ∧
      (t.desk (s.story n).desk).spikes = (s.desk (s.story n).desk).spikes.erase n ∧
      (t.desk (s.story n).desk).urgent = countIn (s.story n).priority (s.desk (s.story n).desk).urgent ∧
      SameDesksBut (s.story n).desk s t ∧
      DesksTold none [(s.story n).desk] (wokenBy (s.story n).priority (s.story n).desk) s t ∧
      t.channel = s.channel.raise (.arrival (s.story n).desk n) := by
  intro t
  have hleave := s.leaveSpikes_touches n
  have hdesk : (s.leaveSpikes n).desk (s.story n).desk = { s.desk (s.story n).desk with
      spikes := (s.desk (s.story n).desk).spikes.erase n } := s.desk_updDesk_self hown _
  have hdesks (d : Nat) (hd : d ≠ (s.story n).desk) : (s.leaveSpikes n).desk d = s.desk d := s.desk_updDesk_ne hd _
  have hbstory : ((s.leaveSpikes n).updStory n fun r => { r with stage := .basket }).story n =
      { s.story n with stage := .basket } := by
    rw [State.story_updStory_self _ hn, hleave.story]
  have hbothers (m : Nat) (hm : m ≠ n) :
      ((s.leaveSpikes n).updStory n fun r => { r with stage := .basket }).story m = s.story m := by
    rw [State.story_updStory_ne _ hm, hleave.story]
  have hbtouch : OnlyTouches [.stories, .desks] s ((s.leaveSpikes n).updStory n fun r => { r with stage := .basket }) :=
    (hleave.mono (by decide)).trans (State.updStory_touches _ n _) (by decide)
  have hbdesk (d : Nat) : ((s.leaveSpikes n).updStory n fun r => { r with stage := .basket }).desk d =
      (s.leaveSpikes n).desk d := (State.updStory_touches _ n _).desk d
  have ht : t = (((s.leaveSpikes n).updStory n fun r => { r with stage := .basket }).makeStale n).arrive n := rfl
  generalize (s.leaveSpikes n).updStory n (fun r => { r with stage := .basket }) = b at *
  rw [State.makeStale_unheld (by rw [hbstory]; simp) (by rw [hbstory]; exact hholder) (by rw [hbstory]; exact hfit)] at ht
  have hastory : (b.queueStale n).story n = { s.story n with stage := .basket, fit := .stale } := by
    rw [State.queueStale_story hn, hbstory]
  have haothers (m : Nat) (hm : m ≠ n) : (b.queueStale n).story m = s.story m := by
    rw [State.story_queueStale, if_neg fun h => hm h.1, hbothers m hm]
  have hafit : (b.queueStale n).fit = { s.fit with queue := s.fit.queue ++ [n] } := by
    rw [← hbtouch.fit]
    rfl
  have hatouch : OnlyTouches [.stories, .fit] b (b.queueStale n) :=
    ((b.updStory_touches n _).mono (by decide)).trans (State.setFitQueue_touches _ _) (by decide)
  generalize b.queueStale n = a at *
  have hdeskA (d : Nat) : a.desk d = (s.leaveSpikes n).desk d := (hatouch.desk d).trans (hbdesk d)
  obtain ⟨hjoined, hurgent, hspikes, hother, htold, hchannel⟩ := State.arrive_spec a (n := n) (desk := (s.story n).desk)
    (p := (s.story n).priority) (by rw [hastory]) (by rw [hastory]) hown
  have harrive := a.arrive_touches n
  rw [← ht] at hjoined hurgent hspikes hother htold hchannel harrive
  rw [hdeskA, hdesk] at hjoined hurgent hspikes
  refine ⟨((hbtouch.mono (by decide)).trans hatouch (by decide)).trans harrive (by decide), ?_, fun m hm => ?_, ?_, hjoined,
    hspikes, hurgent, fun d hd => ?_, htold.congr fun k _ => ?_, ?_⟩
  · rw [harrive.story, hastory]
  · rw [harrive.story, haothers m hm]
  · rw [harrive.fit, hafit]
  · rw [hother d hd, hdeskA, hdesks d hd]
  · rw [hatouch.line, hbtouch.line]
  · rw [hchannel, hatouch.channel, hbtouch.channel]

end Unspike

theorem hostUnspikes {s : State} {tag : Byte} {n : Nat} (htakes : s.takes (.unspike tag n) = true) (hn : 1 ≤ n ∧ n ≤ 512)
    (hdesk : (s.story n).desk < 16) (hstage : (s.story n).stage = .spiked) (hfit : (s.story n).fit = .none)
    (hholder : (s.story n).holder = .absent) :
    ∃ t, exec (.unspike tag n) s = .next t ∧ Replied (.unspike tag n) .done [] s t ∧
      Raised [.arrival (s.story n).desk n] s t ∧ OnlyTouches [.stories, .desks, .fit, .lines, .channel] s t ∧
      t.story n = { s.story n with stage := .basket, fit := .stale } ∧ SameStoriesBut n s t ∧
      t.fit = { s.fit with queue := s.fit.queue ++ [n] } ∧
      Joined t.rankOf n (s.desk (s.story n).desk).basket (t.desk (s.story n).desk).basket ∧
      (t.desk (s.story n).desk).spikes = (s.desk (s.story n).desk).spikes.erase n ∧
      (t.desk (s.story n).desk).urgent = countIn (s.story n).priority (s.desk (s.story n).desk).urgent ∧
      SameDesksBut (s.story n).desk s t ∧
      DesksTold none [(s.story n).desk] (wokenBy (s.story n).priority (s.story n).desk) s t := by
  obtain ⟨htouch, hstory, hothers, hqueue, hjoined, hspikes, hurgent, hdesks, htold, hchannel⟩ :=
    State.returnSpiked_spec (s := s.offer (.unspike tag n)) (n := n) hn (by simpa using hdesk) (by simpa using hfit)
      (by simpa using hholder)
  have hact : (s.offer (.unspike tag n)).unspike n = (.done, [], (s.offer (.unspike tag n)).returnSpiked n) := by
    simp [State.unspike, (storyOk_iff n).2 hn, hstage]
  simp only [State.story_offer, State.desk_offer, State.fit_offer] at hstory hothers hqueue hjoined hspikes hurgent hdesks htold
  obtain ⟨t, c, hstep, hreply, hraised, htouches, rfl⟩ := host_effect (act := fun s => s.unspike n)
    (ns := [.arrival (s.story n).desk n]) (ps := [.stories, .desks, .fit, .lines, .channel]) htakes hact
    (by rw [hchannel, State.story_offer]; rfl) htouch (by decide)
  have hend := EndOf.withChannel none ((s.offer (.unspike tag n)).returnSpiked n) c
  exact ⟨_, hstep, hreply, hraised, htouches, hstory, fun m hm => (hothers m hm).trans (State.story_offer _ _ m), hqueue, hjoined,
    hspikes, hurgent, fun d hd => (hdesks d hd).trans (State.desk_offer _ _ d),
    hend.told (htold.congr fun m _ => State.line_offer _ _ m)⟩

/-- Settles O26: SPIKE by the host, SPIKE by a line, UNSPIKE. -/
theorem spikeAndUnspike : Obligations.SpikeAndUnspike :=
  ⟨fun _ _ _ htakes hlow hhigh hdesk hstage hrun hholder => hostSpikes htakes ⟨hlow, hhigh⟩ hdesk hstage hrun hholder,
    fun _ _ _ htakes hlow hhigh hdesk hstage hrun hrole hholder =>
      lineSpikes htakes ⟨hlow, hhigh⟩ hdesk hstage hrun hrole hholder,
    fun _ _ _ htakes hlow hhigh hdesk hstage hfit hholder =>
      hostUnspikes htakes ⟨hlow, hhigh⟩ hdesk hstage hfit hholder⟩

end Sys2Proof.Machine

/-! PLACE and UNPLACE (R131 to R134). -/

namespace Sys2Proof.Machine

/-! ### Slots (R128) -/

section Slots
variable {s : State} {n g : Nat}

/-- A slot that story `n` leaves (R128). -/
def Slot.without (n : Nat) (sl : Slot) : Slot := if sl.occupant.map Prod.fst = some n then { sl with occupant := none } else sl

theorem Slot.without_of_other {sl : Slot} (h : sl.occupant.map Prod.fst ≠ some n) : sl.without n = sl := if_neg h

theorem Page.slot_mapSlots (p : Page) (f : Slot → Slot) (k : Nat) :
    ({ p with slots := p.slots.map fun v => v.map f } : Page).slot k = (p.slot k).map f := by
  cases k with
  | zero => rfl
  | succ k =>
    simp only [Page.slot, Vector.getElem?_map]
    cases p.slots[k]? <;> rfl

/-- The slots of page `g` without story `n`. -/
def Page.cleared (n : Nat) (p : Page) : Page := { p with slots := p.slots.map fun v => v.map (Slot.without n) }

theorem Page.slot_cleared (p : Page) (n k : Nat) : (p.cleared n).slot k = (p.slot k).map (Slot.without n) := p.slot_mapSlots _ k

theorem State.emptySlots_eq (s : State) (g n : Nat) : s.emptySlots g n = s.updPage g (Page.cleared n) := by
  have hslot : (fun sl : Slot => match sl.occupant with
      | some (m, _) => if m = n then { sl with occupant := none } else sl
      | none => sl) = Slot.without n := by
    funext sl
    unfold Slot.without
    split
    next m _ h => simp [h]
    next h => simp [h]
  exact congrArg (fun f => s.updPage g fun p => { p with slots := p.slots.map fun v => v.map f }) hslot

theorem State.emptySlots_page (hg : 1 ≤ g ∧ g ≤ 48) : (s.emptySlots g n).page g = (s.page g).cleared n := by
  rw [State.emptySlots_eq, State.page_updPage_self _ hg]

theorem State.emptySlots_samePages (s : State) (g n : Nat) : SamePagesBut g s (s.emptySlots g n) := fun h hh => by
  rw [State.emptySlots_eq, State.page_updPage_ne _ hh]

/-- A run's slots given to a story in order (R131). -/
theorem Page.slot_occupy {ks : List Nat} (hnodup : ks.Nodup) (hrange : ∀ k ∈ ks, 1 ≤ k ∧ k ≤ 16) (n i : Nat) (p : Page) (k : Nat) :
    (Page.occupy n i ks p).slot k =
      (p.slot k).map fun sl => if k ∈ ks then { sl with occupant := some (n, i + ks.idxOf k) } else sl := by
  induction ks generalizing i p with
  | nil => simp [Page.occupy]
  | cons j ks ih =>
    obtain ⟨hj, hnodup⟩ := List.nodup_cons.1 hnodup
    rw [Page.occupy, ih hnodup (fun m hm => hrange m (List.mem_cons_of_mem j hm)), Page.slot_setSlot]
    by_cases hk : k = j
    · subst hk
      rw [if_pos ⟨rfl, hrange k List.mem_cons_self⟩, Option.map_map]
      simp [Function.comp_def, hj]
    · rw [if_neg fun h => hk h.1]
      simp only [List.mem_cons, hk, false_or, List.idxOf_cons_ne ks fun h => hk h.symm]
      congr 1
      funext sl
      split
      · rw [Nat.succ_add_eq_add_succ]
      · rfl

end Slots

/-! ### A story made out of date, its page judged, its holder told (R120, R131, R132) -/

section Refit
variable {s b : State} {n g : Nat}

/-- Story `n` made out of date, page `g` judged, and the OVERSET lamp of the story's holder set anew. -/
def State.refit (b : State) (n g : Nat) : State := ((b.makeStale n).judge g).lampHolder n

theorem State.refit_touches (b : State) (n g : Nat) : OnlyTouches [.stories, .fit, .pages, .lines] b (b.refit n g) :=
  ((b.makeStale_touches n).trans (State.judge_touches _ g) (by decide)).trans (State.lampHolder_touches _ n) (by decide)

theorem State.refit_ends (b : State) (n g : Nat) : OnlyTouches [.pages, .lines] (b.makeStale n) (b.refit n g) :=
  ((State.judge_touches _ g).mono (by decide)).trans (State.lampHolder_touches _ n) (by decide)

theorem State.refit_story (hn : 1 ≤ n ∧ n ≤ 512) : (b.refit n g).story n = (b.story n).outdated :=
  ((b.refit_ends n g).story n).trans (State.makeStale_story hn)

theorem State.refit_sameStories (b : State) (n g : Nat) : SameStoriesBut n b (b.refit n g) := fun m hm =>
  ((b.refit_ends n g).story m).trans (b.makeStale_sameStories n m hm)

theorem State.refit_fit (b : State) (n g : Nat) :
    (b.refit n g).fit = { b.fit with queue := queuedStale b.fit.queue n (b.story n) } :=
  (b.refit_ends n g).fit.trans (b.makeStale_fit n)

/-- The page is judged over the stories as they then stand. -/
theorem State.refit_page (b : State) (n g : Nat) :
    (b.refit n g).page g = { b.page g with fit := (b.refit n g).judgement ((b.refit n g).page g) } := by
  have hstale := b.makeStale_page_fit n g
  have hpage : (b.refit n g).page g = { b.page g with
      fit := (b.makeStale n).judgement ((b.makeStale n).page g) } := by
    rw [State.refit, (State.lampHolder_touches _ n).page, State.judge_page, if_pos rfl, hstale]
  have hjudge : (b.refit n g).judgement ((b.refit n g).page g) = (b.makeStale n).judgement ((b.makeStale n).page g) := by
    rw [State.judgement_congr (b.refit_ends n g).stories]
    exact State.judgement_page (by rw [hpage, hstale]) (by rw [hpage, hstale])
  rw [hjudge]
  exact hpage

/-- No page but `g` changes, where the story lies on `g` or on none. -/
theorem State.refit_samePages (h : (b.story n).stage = .placed → (b.story n).run.map (fun r => r.page) = some g) :
    SamePagesBut g b (b.refit n g) := by
  intro m hm
  rw [State.refit, (State.lampHolder_touches _ n).page, State.judge_page, if_neg hm]
  by_cases hfresh : (b.story n).fit = .none ∨ (b.story n).fit = .current
  · rw [b.makeStale_pages n hfresh m, if_neg]
    rintro ⟨hstage, hrun⟩
    exact hm (Option.some.inj (hrun.symm.trans (h hstage)))
  · rw [State.page_congr (State.makeStale_settled hfresh).1]

theorem State.lampLit_refit (b : State) (n g k : Nat) (l : Line) :
    (b.refit n g).lampLit k l = (b.makeStale n).lampLit k l :=
  State.lampLit_congr (b.refit_ends n g).stories (b.refit_ends n g).desks (b.refit_ends n g).flashes (b.refit_ends n g).clock k l

theorem State.lampLit_lamp (s : State) (k : Nat) (l : Line) (lamp : Bool) : s.lampLit k { l with lamp := lamp } = s.lampLit k l := rfl

theorem State.refit_line (b : State) (n g k : Nat) : (b.refit n g).line k =
    if (b.story n).holder = .line k ∧ (b.line k).lampSource = .overset then
      { b.line k with lamp := (b.refit n g).lampLit k (b.line k) } else b.line k := by
  have hjudge := State.judge_touches (b.makeStale n) g
  have hlit (l : Line) : ((b.makeStale n).judge g).lampLit k l = (b.refit n g).lampLit k l := by
    rw [State.lampLit_refit]
    exact State.lampLit_congr hjudge.stories hjudge.desks hjudge.flashes hjudge.clock k l
  rw [State.refit, State.line_lampHolder, hlit, hjudge.story, hjudge.line, b.makeStale_holder n n, ← State.refit]
  by_cases hfresh : (b.story n).fit = .none ∨ (b.story n).fit = .current
  · rw [b.makeStale_told n hfresh k (by simp)]
    by_cases htold : (b.story n).holder = .line k ∧ (b.line k).lampSource = .overset
    · simp only [if_pos htold, State.lampLit_lamp]
    · simp only [if_neg htold]
  · rw [State.line_of_lines (State.makeStale_settled hfresh).2]

end Refit

/-! ### What lines are told of a move (R23, R24, R99) -/

section MoveTold
variable {s t b : State} {n g k : Nat}

theorem deskTold_nil (t : State) (woken : Option Nat) (k : Nat) (l : Line) : deskTold t [] woken k l = l := by
  cases huser : l.user with
  | none => exact deskTold_of_no_user huser _ _
  | some v => exact deskTold_of_other huser (by simp) _

/-- A line told of its desk, and of the move of the story it holds. -/
theorem MoveTold.of_refit {ds : List Nat} {woken : Option Nat} (htold : DesksTold none ds woken s b)
    (hholder : (b.story n).holder = (s.story n).holder)
    (hshown : ∀ d ∈ ds, woken = some d → ∀ w, (b.refit n g).homeScreen d 0 w = b.homeScreen d 0 w) :
    MoveTold n ds woken s (b.refit n g) := by
  intro k hk
  have htouch := b.refit_touches n g
  have hline : b.line k = deskTold (b.refit n g) ds woken k (s.line k) := by
    rw [htold k hk (by simp)]
    exact (deskTold_of_home (fun d _ => htouch.desk d) htouch.flashes htouch.clock hshown).symm
  have hsource : (b.line k).lampSource = (s.line k).lampSource := by
    have hsame := deskTold_sameSession (b.refit n g) ds woken k (s.line k)
    rw [hline, hsame]
  rw [State.refit_line, hholder, hsource, hline]

/-- A story made out of date is shown on home screens as before (R91). -/
theorem State.homeScreen_of_fit {d : Nat} (hdesk : t.desk d = s.desk d)
    (hstory : ∀ m, (t.story m).slug = (s.story m).slug ∧ (t.story m).priority = (s.story m).priority ∧
      (t.story m).holder = (s.story m).holder) (p w : Nat) : t.homeScreen d p w = s.homeScreen d p w := by
  have hentries (q : Nat) (ns : List Nat) : t.homeEntries q ns = s.homeEntries q ns := by
    induction ns generalizing q with
    | nil => rfl
    | cons n ns ih =>
      obtain ⟨hslug, hpriority, hholder⟩ := hstory n
      simp only [State.homeEntries, hslug, hpriority, hholder, ih]
  simp only [State.homeScreen, hdesk, hentries]

theorem State.refit_shown (hn : 1 ≤ n ∧ n ≤ 512) (d w : Nat) : (b.refit n g).homeScreen d 0 w = b.homeScreen d 0 w := by
  refine State.homeScreen_of_fit ((b.refit_touches n g).desk d) (fun m => ?_) 0 w
  by_cases hm : m = n
  · subst hm
    rw [State.refit_story hn, Story.outdated_eq]
    exact ⟨rfl, rfl, rfl⟩
  · rw [b.refit_sameStories n g m hm]
    exact ⟨rfl, rfl, rfl⟩

end MoveTold

/-! ### PLACE (R131) -/

section Place
variable {s : State} {n g : Nat} {run : List Nat}

/-- The story gone from where it lay (R131). -/
def State.offOld (s : State) (n g : Nat) : State :=
  if (s.story n).stage = .basket then s.depart n else s.emptySlots g n

/-- The story on its run, before its fit and its page are looked to (R131). -/
def State.onRun (s : State) (n g : Nat) (run : List Nat) : State :=
  ((s.offOld n g).updStory n fun r => { r with stage := .placed, run := some { page := g, slots := run } }).updPage g
    (Page.occupy n 1 run)

theorem State.place_eq (s : State) (n g : Nat) (run : List Nat) :
    s.place n g run = State.noticeFit s g ((s.onRun n g run).refit n g) := rfl

theorem State.offOld_touches (s : State) (n g : Nat) : OnlyTouches [.desks, .pages, .lines] s (s.offOld n g) := by
  unfold State.offOld
  split
  · exact (s.depart_touches n).mono (by decide)
  · exact (s.emptySlots_touches g n).mono (by decide)

theorem State.onRun_touches (s : State) (n g : Nat) (run : List Nat) :
    OnlyTouches [.stories, .desks, .pages, .lines] s (s.onRun n g run) :=
  (((s.offOld_touches n g).mono (by decide)).trans (State.updStory_touches _ n _) (by decide)).trans
    (State.updPage_touches _ g _) (by decide)

theorem State.onRun_ends (s : State) (n g : Nat) (run : List Nat) :
    OnlyTouches [.stories, .pages] (s.offOld n g) (s.onRun n g run) :=
  ((State.updStory_touches _ n _).mono (by decide)).trans (State.updPage_touches _ g _) (by decide)

theorem State.onRun_story (hn : 1 ≤ n ∧ n ≤ 512) : (s.onRun n g run).story n =
    { s.story n with stage := .placed, run := some { page := g, slots := run } } := by
  rw [State.onRun, (State.updPage_touches _ g _).story, State.story_updStory_self _ hn, (s.offOld_touches n g).story]

theorem State.onRun_sameStories (s : State) (n g : Nat) (run : List Nat) : SameStoriesBut n s (s.onRun n g run) := fun m hm => by
  rw [State.onRun, (State.updPage_touches _ g _).story, State.story_updStory_ne _ hm, (s.offOld_touches n g).story]

/-- The page without the story, if the story lay on it. -/
theorem State.offOld_page (hg : 1 ≤ g ∧ g ≤ 48)
    (hfree : (s.story n).stage = .basket → ∀ k, ∀ sl ∈ (s.page g).slot k, sl.occupant.map Prod.fst ≠ some n) (k : Nat) :
    ((s.offOld n g).page g).slot k = ((s.page g).slot k).map (Slot.without n) ∧
      (s.offOld n g).page g = { s.page g with slots := ((s.offOld n g).page g).slots } := by
  by_cases hstage : (s.story n).stage = .basket
  · rw [State.offOld, if_pos hstage, (s.depart_touches n).page]
    refine ⟨?_, rfl⟩
    cases hslot : (s.page g).slot k with
    | none => rfl
    | some sl => rw [Option.map_some, Slot.without_of_other (hfree hstage k sl hslot)]
  · rw [State.offOld, if_neg hstage, State.emptySlots_page hg]
    exact ⟨Page.slot_cleared _ n k, rfl⟩

theorem State.onRun_page (hg : 1 ≤ g ∧ g ≤ 48) (hnodup : run.Nodup) (hrange : ∀ k ∈ run, 1 ≤ k ∧ k ≤ 16)
    (hfree : (s.story n).stage = .basket → ∀ k, ∀ sl ∈ (s.page g).slot k, sl.occupant.map Prod.fst ≠ some n) :
    (∀ k, ((s.onRun n g run).page g).slot k = ((s.page g).slot k).map fun sl =>
      if k ∈ run then { sl with occupant := some (n, run.idxOf k + 1) } else sl.without n) ∧
      (s.onRun n g run).page g = { s.page g with slots := ((s.onRun n g run).page g).slots } := by
  have hpage : (s.onRun n g run).page g = Page.occupy n 1 run ((s.offOld n g).page g) := by
    rw [State.onRun, State.page_updPage_self _ hg, (State.updStory_touches _ n _).page]
  rw [hpage]
  refine ⟨fun k => ?_, ?_⟩
  · rw [Page.slot_occupy hnodup hrange, (State.offOld_page hg hfree k).1, Option.map_map]
    congr 1
    funext sl
    by_cases hk : k ∈ run
    · simp only [Function.comp_apply, if_pos hk, Nat.add_comm 1]
      unfold Slot.without
      split <;> rfl
    · simp only [Function.comp_apply, if_neg hk]
  · rw [Page.occupy_eq, (State.offOld_page hg hfree 0).2]

theorem State.onRun_samePages (s : State) (n g : Nat) (run : List Nat) : SamePagesBut g s (s.onRun n g run) := fun h hh => by
  rw [State.onRun, State.page_updPage_ne _ hh, (State.updStory_touches _ n _).page, State.offOld]
  split
  · rw [(s.depart_touches n).page]
  · exact s.emptySlots_samePages g n h hh

/-- The lines told of the departure, if there is one (R24). -/
theorem State.onRun_told (hown : (s.story n).desk < 16) :
    DesksTold none (if (s.story n).stage = .basket then [(s.story n).desk] else []) none s (s.onRun n g run) := by
  have hends := s.onRun_ends n g run
  by_cases hstage : (s.story n).stage = .basket
  · have hoff : s.offOld n g = s.depart n := if_pos hstage
    rw [hoff] at hends
    rw [if_pos hstage]
    exact (State.depart_spec s (n := n) rfl hown).2.2.to (fun m _ => hends.line m) (fun d => hends.desk d) hends.flashes
      hends.clock (.inr rfl)
  · have hoff : s.offOld n g = s.emptySlots g n := if_neg hstage
    rw [hoff] at hends
    rw [if_neg hstage]
    intro k _ _
    rw [deskTold_nil, hends.line, (s.emptySlots_touches g n).line]

/-- The desks once the story has left its basket, if it lay there (R24). -/
theorem State.onRun_desks (hown : (s.story n).desk < 16) :
    ((s.story n).stage = .basket → SameDesksBut (s.story n).desk s (s.onRun n g run) ∧
      (s.onRun n g run).desk (s.story n).desk = { s.desk (s.story n).desk with
        basket := (s.desk (s.story n).desk).basket.erase n
        urgent := countOut (s.story n).priority (s.desk (s.story n).desk).urgent }) ∧
    ((s.story n).stage ≠ .basket → (s.onRun n g run).desks = s.desks) := by
  have hends := s.onRun_ends n g run
  refine ⟨fun hstage => ?_, fun hstage => ?_⟩
  · have hoff : s.offOld n g = s.depart n := if_pos hstage
    rw [hoff] at hends
    obtain ⟨hleft, hdesks, -⟩ := State.depart_spec s (n := n) rfl hown
    exact ⟨fun d hd => (hends.desk d).trans (hdesks d hd), (hends.desk _).trans hleft⟩
  · have hoff : s.offOld n g = s.emptySlots g n := if_neg hstage
    rw [hoff] at hends
    exact hends.desks.trans (s.emptySlots_touches g n).desks

theorem runOk_iff : runOk run = true ↔ (1 ≤ run.length ∧ run.length ≤ 4) ∧ (∀ k ∈ run, 1 ≤ k ∧ k ≤ 16) ∧ run.Nodup := by
  simp [runOk, within, and_assoc]

theorem Page.admits_iff {p : Page} : p.admits n run = true ↔
    ∀ k ∈ run, ∃ sl, p.slot k = some sl ∧ (sl.occupant = none ∨ sl.occupant.map Prod.fst = some n) := by
  rw [Page.admits, List.all_eq_true]
  refine forall₂_congr fun k _ => ?_
  cases p.slot k with
  | none => simp
  | some sl =>
    obtain ⟨depth, measure, occ⟩ := sl
    cases occ with
    | none => simp
    | some o =>
      obtain ⟨m, i⟩ := o
      simp

theorem State.placeStory_done (hn : 1 ≤ n ∧ n ≤ 512) (hg : 1 ≤ g ∧ g ≤ 48) (hrun : runOk run = true)
    (hplace : (s.story n).stage = .basket ∨ (s.story n).stage = .placed ∧ ∃ old, (s.story n).run = some old ∧ old.page = g)
    (hstate : (s.page g).state = .makeup) (hadmits : (s.page g).admits n run = true) :
    s.placeStory n g run = (.done, u16 n ++ runBytes (some { page := g, slots := run }), s.place n g run) := by
  have hfree : (s.story n).stage ≠ .free := by
    rcases hplace with h | ⟨h, -⟩ <;> rw [h] <;> decide
  have hplaceable : (s.story n).placeable g = true := by
    rcases hplace with h | ⟨h, old, hold, hpage⟩
    · simp [Story.placeable, h]
    · simp [Story.placeable, h, hold, hpage]
  simp [State.placeStory, (storyOk_iff n).2 hn, (pageOk_iff g).2 hg, hrun, hfree, hplaceable, hstate, hadmits, PageState.barred]

end Place

/-- A host request that ends with a story made out of date, a page judged and its FIT notice: the channel apart, the state is as
the rule leaves it. -/
theorem host_refit {s b : State} {i : Instr} {act : State → Verdict} {d : List Byte} {n g : Nat} {ns : List Notice}
    (htakes : s.takes i = true) (hact : act (s.offer i) = (.done, d, State.noticeFit (s.offer i) g (b.refit n g)))
    (hchannel : b.channel = ns.foldl Channel.raise (s.offer i).channel)
    (htouch : OnlyTouches [.stories, .desks, .fit, .pages, .lines, .channel] (s.offer i) b) :
    ∃ c, hostStep i act s = .next ((b.refit n g).withChannel c) ∧ Replied i .done d s ((b.refit n g).withChannel c) ∧
      Raised (ns ++ fitNotice g s ((b.refit n g).withChannel c)) s ((b.refit n g).withChannel c) ∧
      OnlyTouches [.stories, .desks, .fit, .pages, .lines, .channel] s ((b.refit n g).withChannel c) := by
  have hends := b.refit_touches n g
  have hnotice := State.noticeFit_channel (s.offer i) g (b.refit n g)
  rw [hends.channel, hchannel, ← List.foldl_append] at hnotice
  rw [State.noticeFit_eq] at hact
  obtain ⟨t, c, hstep, hreply, hraised, htouches, rfl⟩ := host_effect
    (ps := [.stories, .desks, .fit, .pages, .lines, .channel]) htakes hact hnotice
    ((htouch.trans hends (by decide)).trans (State.withChannel_touches _ _) (by decide)) (by decide)
  rw [State.withChannel_withChannel] at *
  rw [fitNotice_congr (s := s) (u := b.refit n g) (by rw [State.page_offer]) rfl] at hraised
  exact ⟨c, hstep, hreply, hraised, htouches⟩

theorem MoveTold.withChannel {s t : State} {n : Nat} {ds : List Nat} {woken : Option Nat} (h : MoveTold n ds woken s t)
    (c : Channel) : MoveTold n ds woken s (t.withChannel c) := by
  intro k hk
  have htold : deskTold (t.withChannel c) ds woken k (s.line k) = deskTold t ds woken k (s.line k) :=
    deskTold_congr (fun _ _ => rfl) rfl rfl (.inl rfl)
  have hlit (l : Line) : (t.withChannel c).lampLit k l = t.lampLit k l := State.lampLit_congr rfl rfl rfl rfl k l
  rw [htold]
  dsimp only
  rw [hlit]
  exact h k hk

/-- A move told reads of the state before the lines and the holder. -/
theorem MoveTold.congr {s t u : State} {n : Nat} {ds : List Nat} {woken : Option Nat} (h : MoveTold n ds woken u t)
    (hholder : (u.story n).holder = (s.story n).holder) (hline : ∀ k, u.line k = s.line k) : MoveTold n ds woken s t := by
  intro k hk
  have hk := h k hk
  rw [hholder, hline] at hk
  exact hk

theorem exec_place {s : State} {tag : Byte} {n g : Nat} {run : List Nat} (htakes : s.takes (.place tag n g run) = true)
    (hn : 1 ≤ n ∧ n ≤ 512) (hg : 1 ≤ g ∧ g ≤ 48) (hrun : runOk run = true)
    (hplace : (s.story n).stage = .basket ∧ (∀ k, ∀ sl ∈ (s.page g).slot k, sl.occupant.map Prod.fst ≠ some n) ∨
      (s.story n).stage = .placed ∧ ∃ old, (s.story n).run = some old ∧ old.page = g)
    (hstate : (s.page g).state = .makeup) (hadmits : (s.page g).admits n run = true) :
    ∃ t, exec (.place tag n g run) s = .next t ∧
      Replied (.place tag n g run) .done (u16 n ++ u8 g ++ u8 run.length ++ run.flatMap u8) s t ∧
      Raised (fitNotice g s t) s t ∧ OnlyTouches [.stories, .desks, .fit, .pages, .lines, .channel] s t ∧
      ∃ c, t = (((s.offer (.place tag n g run)).onRun n g run).refit n g).withChannel c := by
  have hact := State.placeStory_done (s := s.offer (.place tag n g run)) hn hg hrun
    (by simpa using hplace.imp_left And.left) (by simpa using hstate) (by simpa using hadmits)
  rw [State.place_eq] at hact
  obtain ⟨c, hstep, hreply, hraised, htouch⟩ := host_refit (act := fun s => s.placeStory n g run) (ns := []) htakes hact
    ((State.onRun_touches _ n g run).channel) ((State.onRun_touches _ n g run).mono (by decide))
  exact ⟨_, hstep, by simpa [runBytes] using hreply, hraised, htouch, c, rfl⟩

/-- Settles the first half of O47: PLACE. -/
theorem placeGivesRun {s : State} {tag : Byte} {n g : Nat} {run : List Nat} (htakes : s.takes (.place tag n g run) = true)
    (hn : 1 ≤ n ∧ n ≤ 512) (hg : 1 ≤ g ∧ g ≤ 48) (hown : (s.story n).desk < 16)
    (hrun : runOk run = true)
    (hplace : (s.story n).stage = .basket ∧ (∀ k, ∀ sl ∈ (s.page g).slot k, sl.occupant.map Prod.fst ≠ some n) ∨
      (s.story n).stage = .placed ∧ ∃ old, (s.story n).run = some old ∧ old.page = g)
    (hstate : (s.page g).state = .makeup) (hadmits : (s.page g).admits n run = true) :
    let r := s.story n
    ∃ t, exec (.place tag n g run) s = .next t ∧
      Replied (.place tag n g run) .done (u16 n ++ u8 g ++ u8 run.length ++ run.flatMap u8) s t ∧
      Raised (fitNotice g s t) s t ∧ OnlyTouches [.stories, .desks, .fit, .pages, .lines, .channel] s t ∧
      t.story n = Story.outdated { r with stage := .placed, run := some { page := g, slots := run } } ∧
      SameStoriesBut n s t ∧
      t.fit = { s.fit with queue := queuedStale s.fit.queue n r } ∧
      (r.stage = .basket → SameDesksBut r.desk s t ∧ t.desk r.desk = { s.desk r.desk with
        basket := (s.desk r.desk).basket.erase n, urgent := countOut r.priority (s.desk r.desk).urgent }) ∧
      (r.stage = .placed → t.desks = s.desks) ∧
      SamePagesBut g s t ∧ (∀ k, (t.page g).slot k = ((s.page g).slot k).map fun sl =>
        if k ∈ run then { sl with occupant := some (n, run.idxOf k + 1) }
        else if sl.occupant.map Prod.fst = some n then { sl with occupant := none } else sl) ∧
      (∃ slots, t.page g = { s.page g with slots := slots, fit := t.judgement (t.page g) }) ∧
      MoveTold n (if r.stage = .basket then [r.desk] else []) none s t := by
  intro r
  obtain ⟨-, hrange, hnodup⟩ := runOk_iff.1 hrun
  obtain ⟨t, hstep, hreply, hraised, htouch, c, rfl⟩ := exec_place htakes hn hg hrun hplace hstate hadmits
  have hfree (h : (s.story n).stage = .basket) (k : Nat) : ∀ sl ∈ (s.page g).slot k, sl.occupant.map Prod.fst ≠ some n := by
    rcases hplace with ⟨-, hfree⟩ | ⟨hplaced, -⟩
    · exact hfree k
    · rw [h] at hplaced
      exact absurd hplaced (by decide)
  have hoffer := s.offer_touches (.place tag n g run)
  generalize s.offer (.place tag n g run) = o at *
  have hstory : o.story n = r := hoffer.story n
  have hopage (h : Nat) : o.page h = s.page h := hoffer.page h
  have htold := State.onRun_told (s := o) (n := n) (g := g) (run := run) (by rwa [hstory])
  obtain ⟨hleft, hstay⟩ := State.onRun_desks (s := o) (n := n) (g := g) (run := run) (by rwa [hstory])
  obtain ⟨hslots, hpage⟩ := State.onRun_page (s := o) (n := n) (run := run) hg hnodup hrange
    (by rw [hstory, hopage]; exact hfree)
  have honstory := State.onRun_story (s := o) (g := g) (run := run) hn
  have hother := o.onRun_sameStories n g run
  have honpages := o.onRun_samePages n g run
  have honfit : (o.onRun n g run).fit = o.fit := (o.onRun_touches n g run).fit
  rw [hstory] at htold hleft hstay honstory
  rw [hopage] at hslots hpage
  generalize o.onRun n g run = b at *
  have hrefit := b.refit_touches n g
  have hslotsEq := State.refit_page b n g
  refine ⟨_, hstep, hreply, hraised, htouch, ?_, fun m hm => ?_, ?_, fun hstage => ?_, fun hstage => ?_, fun h hh => ?_,
    fun k => ?_, ⟨(b.page g).slots, ?_⟩, ?_⟩
  · rw [State.withChannel_story, State.refit_story hn, honstory]
  · rw [State.withChannel_story, b.refit_sameStories n g m hm, hother m hm, hoffer.story]
  · rw [State.withChannel_fit, State.refit_fit, honfit, honstory, hoffer.fit]
    rfl
  · obtain ⟨hdesks, hdesk⟩ := hleft hstage
    refine ⟨fun d hd => ?_, ?_⟩
    · rw [State.withChannel_desk, hrefit.desk, hdesks d hd, hoffer.desk]
    · rw [State.withChannel_desk, hrefit.desk, hdesk, hoffer.desk]
  · exact hrefit.desks.trans ((hstay (by rw [hstage]; decide)).trans hoffer.desks)
  · rw [State.withChannel_page, State.refit_samePages (fun _ => by rw [honstory]; rfl) h hh, honpages h hh, hopage]
  · rw [State.withChannel_page]
    exact (Page.slot_of_slots (by rw [hslotsEq]) k).trans (hslots k)
  · rw [State.withChannel_page, State.withChannel_judgement]
    exact hslotsEq.trans (congrArg (fun p => { p with fit := (b.refit n g).judgement ((b.refit n g).page g) }) hpage)
  · refine ((MoveTold.of_refit htold (by rw [honstory, hstory]) (by simp)).withChannel c).congr (by rw [hstory]) fun k => ?_
    rw [hoffer.line]

/-! ### UNPLACE (R132) -/

section Unplace
variable {s : State} {n g : Nat}

/-- The story back in its basket, its slots empty, before its fit and its page are looked to (R132). -/
def State.offPage (s : State) (n g : Nat) : State :=
  (s.emptySlots g n).updStory n fun r => { r with stage := .basket, run := none }

theorem State.unplace_eq (s : State) (n g : Nat) :
    s.unplace n g = State.noticeFit s g (((s.offPage n g).arrive n).refit n g) := rfl

theorem State.offPage_touches (s : State) (n g : Nat) : OnlyTouches [.stories, .pages] s (s.offPage n g) :=
  ((s.emptySlots_touches g n).mono (by decide)).trans (State.updStory_touches _ n _) (by decide)

theorem State.offPage_story (hn : 1 ≤ n ∧ n ≤ 512) :
    (s.offPage n g).story n = { s.story n with stage := .basket, run := none } := by
  rw [State.offPage, State.story_updStory_self _ hn, (s.emptySlots_touches g n).story]

theorem State.offPage_sameStories (s : State) (n g : Nat) : SameStoriesBut n s (s.offPage n g) := fun m hm => by
  rw [State.offPage, State.story_updStory_ne _ hm, (s.emptySlots_touches g n).story]

theorem State.offPage_page (hg : 1 ≤ g ∧ g ≤ 48) : (s.offPage n g).page g = (s.page g).cleared n := by
  rw [State.offPage, (State.updStory_touches _ n _).page, State.emptySlots_page hg]

theorem State.offPage_samePages (s : State) (n g : Nat) : SamePagesBut g s (s.offPage n g) := fun h hh => by
  rw [State.offPage, (State.updStory_touches _ n _).page, s.emptySlots_samePages g n h hh]

theorem State.unplaceStory_done {run : Run} (hn : 1 ≤ n ∧ n ≤ 512) (hstage : (s.story n).stage = .placed)
    (hrun : (s.story n).run = some run) (hstate : (s.page run.page).state = .makeup) :
    s.unplaceStory n = (.done, u16 n ++ u8 (s.story n).desk, s.unplace n run.page) := by
  simp [State.unplaceStory, (storyOk_iff n).2 hn, hstage, hrun, hstate, PageState.frozen]

end Unplace

/-- Settles the second half of O47: UNPLACE. -/
theorem unplaceReturnsStory {s : State} {tag : Byte} {n : Nat} {run : Run} (htakes : s.takes (.unplace tag n) = true)
    (hn : 1 ≤ n ∧ n ≤ 512) (hown : (s.story n).desk < 16) (hstage : (s.story n).stage = .placed)
    (hrun : (s.story n).run = some run) (hg : 1 ≤ run.page ∧ run.page ≤ 48) (hstate : (s.page run.page).state = .makeup) :
    let r := s.story n
    ∃ t, exec (.unplace tag n) s = .next t ∧ Replied (.unplace tag n) .done (u16 n ++ u8 r.desk) s t ∧
      Raised (.arrival r.desk n :: fitNotice run.page s t) s t ∧
      OnlyTouches [.stories, .desks, .fit, .pages, .lines, .channel] s t ∧
      t.story n = Story.outdated { r with stage := .basket, run := none } ∧ SameStoriesBut n s t ∧
      t.fit = { s.fit with queue := queuedStale s.fit.queue n r } ∧
      Joined t.rankOf n (s.desk r.desk).basket (t.desk r.desk).basket ∧
      (t.desk r.desk).urgent = countIn r.priority (s.desk r.desk).urgent ∧
      (t.desk r.desk).spikes = (s.desk r.desk).spikes ∧ SameDesksBut r.desk s t ∧
      SamePagesBut run.page s t ∧
      (∀ k, (t.page run.page).slot k = ((s.page run.page).slot k).map fun sl =>
        if sl.occupant.map Prod.fst = some n then { sl with occupant := none } else sl) ∧
      (∃ slots, t.page run.page = { s.page run.page with slots := slots, fit := t.judgement (t.page run.page) }) ∧
      MoveTold n [r.desk] (wokenBy r.priority r.desk) s t := by
  intro r
  have hact := State.unplaceStory_done (s := s.offer (.unplace tag n)) hn (by simpa using hstage) (by simpa using hrun)
    (by simpa using hstate)
  rw [State.unplace_eq] at hact
  have hoffer := s.offer_touches (.unplace tag n)
  have hofferStory := hoffer.story n
  have hoff := (s.offer (.unplace tag n)).offPage_touches n run.page
  have hoffstory := State.offPage_story (s := s.offer (.unplace tag n)) (g := run.page) hn
  rw [hofferStory] at hact hoffstory
  have hofferPage (h : Nat) : (s.offer (.unplace tag n)).page h = s.page h := hoffer.page h
  have hoffothers := (s.offer (.unplace tag n)).offPage_sameStories n run.page
  have hoffpage := State.offPage_page (s := s.offer (.unplace tag n)) (n := n) hg
  have hoffpages := (s.offer (.unplace tag n)).offPage_samePages n run.page
  rw [hofferPage] at hoffpage
  generalize (s.offer (.unplace tag n)).offPage n run.page = a at *
  obtain ⟨hjoined, hurgent, hspikes, hdesks, htold, hchannel⟩ := State.arrive_spec a (n := n) (desk := r.desk)
    (p := r.priority) (by rw [hoffstory]) (by rw [hoffstory]) hown
  have harrive := a.arrive_touches n
  generalize a.arrive n = b at *
  have hrefit := b.refit_touches n run.page
  obtain ⟨c, hstep, hreply, hraised, htouch⟩ := host_refit (act := fun s => s.unplaceStory n) (ns := [.arrival r.desk n]) htakes
    hact (by rw [hchannel, hoff.channel]; rfl) ((hoff.mono (by decide)).trans harrive (by decide))
  have hbstory : b.story n = { r with stage := .basket, run := none } := (harrive.story n).trans hoffstory
  have hbdesk (d : Nat) : a.desk d = s.desk d := (hoff.desk d).trans (hoffer.desk d)
  have hrank : (b.refit n run.page).rankOf = b.rankOf := State.rankOf_congr fun m => by
    by_cases hm : m = n
    · rw [hm, State.refit_story hn, Story.outdated_eq]
    · rw [b.refit_sameStories n run.page m hm]
  rw [hbdesk] at hjoined hurgent hspikes
  refine ⟨_, hstep, hreply, hraised, htouch, ?_, fun m hm => ?_, ?_, ?_, ?_, ?_, fun d hd => ?_, fun h hh => ?_, fun k => ?_,
    ⟨((s.page run.page).cleared n).slots, ?_⟩, ?_⟩
  · rw [State.withChannel_story, State.refit_story hn, hbstory]
  · rw [State.withChannel_story, b.refit_sameStories n _ m hm, harrive.story, hoffothers m hm, hoffer.story]
  · rw [State.withChannel_fit, State.refit_fit, harrive.fit, hbstory, hoff.fit, hoffer.fit]
    rfl
  · rw [State.withChannel_desk, hrefit.desk]
    exact hrank ▸ hjoined
  · rw [State.withChannel_desk, hrefit.desk, hurgent]
  · rw [State.withChannel_desk, hrefit.desk, hspikes]
  · rw [State.withChannel_desk, hrefit.desk, hdesks d hd, hbdesk]
  · rw [State.withChannel_page, State.refit_samePages (fun h => by rw [hbstory] at h; exact absurd h (by simp)) h hh,
      harrive.page, hoffpages h hh, hofferPage]
  · rw [State.withChannel_page]
    refine (Page.slot_of_slots (q := (s.page run.page).cleared n) ?_ k).trans (Page.slot_cleared _ n k)
    rw [State.refit_page, harrive.page, hoffpage]
  · rw [State.withChannel_page, State.withChannel_judgement]
    refine (State.refit_page b n run.page).trans ?_
    rw [harrive.page, hoffpage]
    rfl
  · refine ((MoveTold.of_refit (htold.congr fun k _ => ?_) (by rw [hbstory]) fun d _ _ w => State.refit_shown hn d w).withChannel c)
    rw [hoff.line, hoffer.line]

/-- Settles O47: PLACE and UNPLACE. -/
theorem placeAndUnplace : Obligations.PlaceAndUnplace :=
  ⟨fun _ _ _ _ _ htakes hlow hhigh hglow hghigh hown hshort hlong hnodup hrange hplace hstate hadmits =>
      placeGivesRun htakes ⟨hlow, hhigh⟩ ⟨hglow, hghigh⟩ hown (runOk_iff.2 ⟨⟨hshort, hlong⟩, hrange, hnodup⟩) hplace hstate
        (Page.admits_iff.2 hadmits),
    fun _ _ _ _ htakes hlow hhigh hown hstage hrun hglow hghigh hstate =>
      unplaceReturnsStory htakes ⟨hlow, hhigh⟩ hown hstage hrun ⟨hglow, hghigh⟩ hstate⟩

end Sys2Proof.Machine

/-! Text changes (R3 to R8): the blocks moved, the store-low latch, the fit out of date; TEXT and RETURN; and PURGE (R17). -/

namespace Sys2Proof.Machine

/-! ### Chains and pool (R5) -/

section Chains
variable {st : Store} {chain : List Nat} {need : Nat}

/-- A chain brought to `need` blocks has them, and the pool has given or taken the rest. -/
theorem Store.rechain_free (hroom : need ≤ chain.length + st.free) :
    (st.rechain chain need).1.length = need ∧ (st.rechain chain need).2.free + need = st.free + chain.length := by
  unfold Store.free at hroom ⊢
  unfold Store.rechain
  split
  · refine ⟨?_, ?_⟩
    · rw [List.length_append, Store.take_length]
      omega
    · simp only [Store.take, List.length_drop]
      omega
  · simp only [Store.giveBack, List.length_take, List.length_append, List.length_drop]
    omega

/-- A chain is extended at its end or cut at its end (R5). -/
theorem Store.rechain_chain (st : Store) (chain : List Nat) (need : Nat) :
    ((st.rechain chain need).1.length ≤ chain.length →
      (st.rechain chain need).1 = chain.take (st.rechain chain need).1.length) ∧
    (chain.length ≤ (st.rechain chain need).1.length → chain <+: (st.rechain chain need).1) := by
  unfold Store.rechain
  split
  · refine ⟨fun h => ?_, fun _ => List.prefix_append _ _⟩
    dsimp only at h ⊢
    have hnil : (st.take (need - chain.length)).1 = [] := by
      rw [List.length_append] at h
      exact List.eq_nil_of_length_eq_zero (by omega)
    rw [hnil]
    simp
  next hshort =>
    dsimp only
    rw [List.length_take]
    refine ⟨fun _ => by rw [min_eq_left (by omega)], fun h => by omega⟩

theorem Store.rechain_low (st : Store) (chain : List Nat) (need : Nat) : (st.rechain chain need).2.low = st.low := by
  unfold Store.rechain
  split <;> rfl

end Chains

/-! ### The store-low latch (R7) -/

section Latch
variable {s : State}

theorem State.storeLatch_free (s : State) : s.storeLatch.store.free = s.store.free := by
  unfold State.storeLatch
  split
  · rfl
  · split <;> rfl

theorem State.storeLatch_low (s : State) : s.storeLatch.store.low =
    if s.store.free < Config.storeLow then true else if Config.storeOk ≤ s.store.free then false else s.store.low := by
  unfold State.storeLatch
  by_cases hshort : s.store.free < Config.storeLow
  · have hok : ¬Config.storeOk ≤ s.store.free := by
      simp only [Config.storeLow, Config.storeOk] at hshort ⊢
      omega
    rw [if_pos hshort]
    cases hlow : s.store.low with
    | false => rw [if_pos ⟨hshort, rfl⟩]; rfl
    | true => rw [if_neg (by simp), if_neg hok, hlow]
  · rw [if_neg fun h => hshort h.1, if_neg hshort]
    split <;> rfl

theorem State.storeLatch_channel (s : State) : s.storeLatch.channel =
    (if s.store.low = false ∧ s.store.free < Config.storeLow then [Notice.store s.store.free] else []).foldl Channel.raise
      s.channel := by
  unfold State.storeLatch
  by_cases hraise : s.store.free < Config.storeLow ∧ s.store.low = false
  · rw [if_pos hraise, if_pos hraise.symm]
    rfl
  · have hquiet : ¬(s.store.low = false ∧ s.store.free < Config.storeLow) := fun h => hraise h.symm
    rw [if_neg hraise, if_neg hquiet]
    split <;> rfl

end Latch

/-! ### A page with a story out of date (R133) -/

theorem State.judgement_of_stale {s : State} {p : Page} {n : Nat} (hn : n ∈ p.stories) (hfit : (s.story n).fit = .stale) :
    s.judgement p = .pending := by
  have hany : (p.stories.map s.story).any (fun r => r.fit == .stale || r.fit == .computing) = true := by
    rw [List.any_eq_true]
    exact ⟨s.story n, List.mem_map_of_mem hn, by rw [hfit]; rfl⟩
  rw [State.judgement]
  exact if_pos hany

/-! ### A text change (R3, R5 to R8) -/

section Text
variable {s t o : State} {n : Nat} {text : List CopyLine} {style : Option Nat}

/-- The state a text change leaves before its FIT notice. -/
def State.retext (s : State) (n : Nat) (text : List CopyLine) (style : Option Nat) : State :=
  ((s.writeText n text style).storeLatch.makeStale n).lampHolder n

theorem State.changeText_eq (s : State) (n : Nat) (text : List CopyLine) (style : Option Nat) :
    s.changeText n text style = State.noticeFitOf s n (s.retext n text style) := rfl

/-- The text written and the latch set, before the fit is looked to. -/
def State.latched (s : State) (n : Nat) (text : List CopyLine) (style : Option Nat) : State :=
  (s.writeText n text style).storeLatch

theorem State.latched_touches (s : State) (n : Nat) (text : List CopyLine) (style : Option Nat) :
    OnlyTouches [.stories, .store, .channel] s (s.latched n text style) :=
  ((s.writeText_touches n text style).mono (by decide)).trans (State.storeLatch_touches _) (by decide)

theorem State.latched_story (hn : 1 ≤ n ∧ n ≤ 512) : (s.latched n text style).story n = { s.story n with
    text := text, chain := (s.rechained n text).1, style := style.getD (s.story n).style
    editCount := ((s.story n).editCount + 1) % 65536 } := by
  rw [State.latched, (State.storeLatch_touches _).story, State.writeText_story hn]

theorem State.latched_sameStories (s : State) (n : Nat) (text : List CopyLine) (style : Option Nat) :
    SameStoriesBut n s (s.latched n text style) := fun m hm => by
  rw [State.latched, (State.storeLatch_touches _).story, State.writeText_sameStories m hm]

theorem State.retext_ends (s : State) (n : Nat) (text : List CopyLine) (style : Option Nat) :
    OnlyTouches [.stories, .fit, .pages, .lines] (s.latched n text style) (s.retext n text style) :=
  (State.makeStale_touches _ n).trans (State.lampHolder_touches _ n) (by decide)

theorem State.retext_stale (s : State) (n : Nat) (text : List CopyLine) (style : Option Nat) :
    OnlyTouches [.lines] ((s.latched n text style).makeStale n) (s.retext n text style) := State.lampHolder_touches _ n

theorem State.retext_story (hn : 1 ≤ n ∧ n ≤ 512) : (s.retext n text style).story n = Story.outdated { s.story n with
    text := text, chain := (s.rechained n text).1, style := style.getD (s.story n).style
    editCount := ((s.story n).editCount + 1) % 65536 } := by
  rw [(s.retext_stale n text style).story, State.makeStale_story hn, State.latched_story hn]

theorem State.retext_sameStories (s : State) (n : Nat) (text : List CopyLine) (style : Option Nat) :
    SameStoriesBut n s (s.retext n text style) := fun m hm => by
  rw [(s.retext_stale n text style).story, State.makeStale_sameStories _ n m hm, s.latched_sameStories n text style m hm]

theorem State.retext_fit (hn : 1 ≤ n ∧ n ≤ 512) :
    (s.retext n text style).fit = { s.fit with queue := queuedStale s.fit.queue n (s.story n) } := by
  rw [(s.retext_stale n text style).fit, State.makeStale_fit, (s.latched_touches n text style).fit, State.latched_story hn]
  rfl

theorem State.retext_page (s : State) (n : Nat) (text : List CopyLine) (style : Option Nat) (g : Nat) :
    (s.retext n text style).page g = { s.page g with fit := ((s.retext n text style).page g).fit } := by
  have hstale := State.makeStale_page_fit (s.latched n text style) n g
  rw [(s.latched_touches n text style).page] at hstale
  rw [(s.retext_stale n text style).page]
  exact hstale

/-- The page of a placed story whose fit goes out of date is PENDING (R120, R133). -/
theorem State.retext_pending (hn : 1 ≤ n ∧ n ≤ 512) {run : Run} (hrun : (s.story n).run = some run)
    (hstage : (s.story n).stage = .placed) (hfresh : (s.story n).fit = .none ∨ (s.story n).fit = .current)
    (hmem : n ∈ (s.page run.page).stories) : ((s.retext n text style).page run.page).fit = .pending := by
  have hstory := State.latched_story (s := s) (text := text) (style := style) hn
  have hlatched := s.latched_touches n text style
  have hstaleStory := State.makeStale_story (s := s.latched n text style) hn
  rw [(s.retext_stale n text style).page]
  rw [(s.latched n text style).makeStale_pages n (by rw [hstory]; exact hfresh) run.page, hstory, if_pos ⟨hstage, by rw [hrun]; rfl⟩,
    hlatched.page]
  refine State.judgement_of_stale hmem ?_
  rw [hstaleStory, Story.outdated_fresh (by rw [hstory]; exact hfresh)]

/-- The line that holds the story is told of the change (R99, R120). -/
theorem State.retext_told (hn : 1 ≤ n ∧ n ≤ 512) :
    HolderTold none n (s.retext n text style) s (s.retext n text style) := by
  intro k _
  have hlatched := s.latched_touches n text style
  have hholder : ((s.latched n text style).story n).holder = (s.story n).holder := by rw [State.latched_story hn]
  have hlit (l : Line) : ((s.latched n text style).makeStale n).lampLit k l = (s.retext n text style).lampLit k l :=
    (State.lampLit_congr (s.retext_stale n text style).stories (s.retext_stale n text style).desks
      (s.retext_stale n text style).flashes (s.retext_stale n text style).clock k l).symm
  have hline : (s.retext n text style).line k = (((s.latched n text style).makeStale n).lampHolder n).line k := rfl
  rw [hline, State.line_lampHolder, hlit, State.makeStale_holder, hholder]
  by_cases hfresh : ((s.latched n text style).story n).fit = .none ∨ ((s.latched n text style).story n).fit = .current
  · rw [(s.latched n text style).makeStale_told n hfresh k (by simp), hholder, hlatched.line]
    by_cases htold : (s.story n).holder = .line k ∧ (s.line k).lampSource = .overset
    · simp only [if_pos htold, State.lampLit_lamp]
    · simp only [if_neg htold]
  · rw [State.line_of_lines (State.makeStale_settled hfresh).2, hlatched.line]

theorem State.retext_channel (s : State) (n : Nat) (text : List CopyLine) (style : Option Nat) :
    (s.retext n text style).channel = (if s.store.low = false ∧ (s.retext n text style).store.free < 256 then
      [Notice.store (s.retext n text style).store.free] else []).foldl Channel.raise s.channel := by
  have hends := s.retext_ends n text style
  have hfree : (s.retext n text style).store.free = (s.writeText n text style).store.free := by
    rw [hends.store]
    exact State.storeLatch_free _
  have hlow : (s.writeText n text style).store.low = s.store.low := Store.rechain_low _ _ _
  have hchannel : (s.writeText n text style).channel = s.channel := (s.writeText_touches n text style).channel
  rw [hends.channel, State.latched, State.storeLatch_channel, hlow, hchannel, hfree]
  rfl

/-- A text change told of a state that differs in its lines and its channel alone. -/
theorem TextChanged.of_retext (hoffer : OnlyTouches [.lines, .channel] s o)
    (hend : OnlyTouches [.lines, .channel] (o.retext n text style) t) (hn : 1 ≤ n ∧ n ≤ 512)
    (hroom : blocksFor (storedLength text) ≤ (s.story n).chain.length + s.store.free)
    (hraised : Raised ((if s.store.low = false ∧ t.store.free < 256 then [.store t.store.free] else []) ++
      runNotice (s.story n).run s t) s t) : TextChanged n text style s t := by
  have hstory : t.story n = _ := (hend.story n).trans (State.retext_story hn)
  have hends := o.retext_ends n text style
  have hstore : t.store = (o.latched n text style).store := hend.store.trans hends.store
  have hfree : t.store.free = (o.rechained n text).2.free := by
    rw [hstore]
    exact State.storeLatch_free _
  have hlow := State.storeLatch_low (o.writeText n text style)
  obtain ⟨hlength, hcount⟩ := Store.rechain_free (st := o.store) (chain := (o.story n).chain)
    (need := blocksFor (storedLength text)) (by rw [hoffer.story, hoffer.store]; exact hroom)
  obtain ⟨hcut, hextended⟩ := o.store.rechain_chain (o.story n).chain (blocksFor (storedLength text))
  have hchain : (t.story n).chain = (o.rechained n text).1 := by rw [hstory, Story.outdated_eq]
  rw [hoffer.story] at hstory
  refine ⟨?_, fun m hm => ?_, ?_, ?_, ?_, ?_, ?_, ?_, fun g => ?_, fun run hrun hstage hfresh hmem => ?_, hraised⟩
  · rw [hchain]
    exact hstory
  · rw [hend.story, o.retext_sameStories n text style m hm, hoffer.story]
  · rw [hchain]
    exact hlength
  · rw [hchain, ← hoffer.story]
    exact hcut
  · rw [hchain, ← hoffer.story]
    exact hextended
  · rw [hchain, hfree, ← hoffer.story, ← hoffer.store]
    exact hlength ▸ hcount
  · have hwrote : (o.writeText n text style).store.low = s.store.low :=
      (Store.rechain_low _ _ _).trans (congrArg Store.low hoffer.store)
    rw [hwrote] at hlow
    rw [hfree, hstore]
    exact hlow
  · rw [hend.fit, State.retext_fit hn, hoffer.fit, hoffer.story]
  · rw [hend.page, ← hoffer.page]
    exact o.retext_page n text style g
  · rw [hend.page]
    exact State.retext_pending hn (by rw [hoffer.story]; exact hrun) (by rwa [hoffer.story]) (by rwa [hoffer.story])
      (by rwa [hoffer.page])

end Text

end Sys2Proof.Machine

/-! TEXT, READ, WINDOW, RETURN and PURGE (R12 to R17, R86 to R89). -/

namespace Sys2Proof.Machine

/-! ### TEXT (R12 to R14) -/

section Text
variable {s : State} {n : Nat} {text new : List CopyLine} {style : Option Nat}

theorem State.textCheck_passed (hn : 1 ≤ n ∧ n ≤ 512) (hstyle : optWithin 0 31 style = true)
    (hlines : ∀ l ∈ new, lineOk l = true) (hstage : (s.story n).stage = .basket ∨ (s.story n).stage = .placed)
    (hholder : (s.story n).holder.atLine = false) (hpage : ∀ run ∈ (s.story n).run, (s.page run.page).state = .makeup) :
    s.textCheck n style new = none := by
  have hok : (storyOk n && optWithin 0 31 style && new.all lineOk) = true := by
    simp only [Bool.and_eq_true, List.all_eq_true]
    exact ⟨⟨(storyOk_iff n).2 hn, hstyle⟩, hlines⟩
  have hthawed : s.onFrozenPage n = false := by
    unfold State.onFrozenPage
    split
    next run hrun => rw [hpage run hrun]; rfl
    next => rfl
  rcases hstage with h | h <;> simp [State.textCheck, hok, h, hholder, hthawed]

theorem State.textRefusal_passed (hlines : text.length ≤ 999) (hstored : storedLength text ≤ 32768)
    (hroom : blocksFor (storedLength text) ≤ (s.story n).chain.length + s.store.free) : s.textRefusal n text = none := by
  rw [State.textRefusal, if_neg, if_neg (by omega)]
  simp only [Config.maxLines, Config.maxStored]
  omega

/-- The records after a text change whose FIT notice has been raised. -/
theorem State.changeText_retext (s : State) (n : Nat) (text : List CopyLine) (style : Option Nat) :
    s.changeText n text style = (s.retext n text style).withChannel (s.changeText n text style).channel := by
  rw [State.changeText_eq, State.noticeFitOf]
  split
  · exact State.noticeFit_eq _ _ _
  · rfl

theorem State.changeText_channel (hn : 1 ≤ n ∧ n ≤ 512) : (s.changeText n text style).channel =
    ((if s.store.low = false ∧ (s.retext n text style).store.free < 256 then
      [Notice.store (s.retext n text style).store.free] else []) ++
      runNotice (s.story n).run s (s.retext n text style)).foldl Channel.raise s.channel := by
  have hrun : ((s.retext n text style).story n).run = (s.story n).run := by
    rw [State.retext_story hn, Story.outdated_eq]
  rw [State.changeText_eq, State.noticeFitOf_channel, hrun, State.retext_channel, List.foldl_append]

theorem State.retext_text (hn : 1 ≤ n ∧ n ≤ 512) : ((s.retext n text style).story n).text = text := by
  rw [State.retext_story hn, Story.outdated_eq]

/-- A text change that no line is told of. -/
theorem State.retext_lines (hn : 1 ≤ n ∧ n ≤ 512) (h : (s.story n).holder.atLine = false) :
    (s.retext n text style).lines = s.lines := by
  refine State.lines_ext fun k => ?_
  rw [State.retext_told hn k (by simp), if_neg]
  rintro ⟨hholder, -⟩
  rw [hholder] at h
  exact absurd h (by simp [Holder.atLine])

theorem State.changeText_untold (hn : 1 ≤ n ∧ n ≤ 512) (h : (s.story n).holder.atLine = false) :
    OnlyTouches [.stories, .store, .fit, .pages, .channel] s (s.changeText n text style) := by
  intro p hp
  by_cases hlines : p = .lines
  · subst hlines
    have heq := congrArg State.lines (State.changeText_retext s n text style)
    exact heq.trans (State.retext_lines hn h)
  · exact s.changeText_touches n text style p (by revert hp; cases p <;> simp_all)

end Text

/-- A TEXT that passes its checks, whichever of the three (R12 to R14). -/
theorem hostWrites {s : State} {i : Instr} {act : State → Verdict} {n : Nat} {style : Option Nat} {text : List CopyLine}
    (htakes : s.takes i = true) (hact : act (s.offer i) = (s.offer i).textWrite n style text) (hn : 1 ≤ n ∧ n ≤ 512)
    (hholder : (s.story n).holder.atLine = false) (hlines : text.length ≤ 999) (hstored : storedLength text ≤ 32768)
    (hroom : blocksFor (storedLength text) ≤ (s.story n).chain.length + s.store.free) :
    ∃ t, hostStep i act s = .next t ∧
      Replied i .done (u16 (t.story n).editCount ++ u16 text.length ++ u8 (t.story n).chain.length) s t ∧
      OnlyTouches [.stories, .store, .fit, .pages, .channel] s t ∧ TextChanged n text style s t := by
  have hoffer := s.offer_touches i
  have hpassed : (s.offer i).textRefusal n text = none :=
    State.textRefusal_passed hlines hstored (by rw [hoffer.story, hoffer.store]; exact hroom)
  have hchannel := State.changeText_channel (s := s.offer i) (text := text) (style := style) hn
  have hretext := State.changeText_retext (s.offer i) n text style
  have hheld : ((s.offer i).story n).holder.atLine = false := by rw [hoffer.story]; exact hholder
  have huntold := State.changeText_untold (s := s.offer i) (text := text) (style := style) hn hheld
  rw [State.textWrite, hpassed] at hact
  obtain ⟨t, c, hstep, hreply, hraised, htouch, rfl⟩ := host_effect (ps := [.stories, .store, .fit, .pages, .channel]) htakes hact
    hchannel huntold (by decide)
  rw [hretext, State.withChannel_withChannel] at *
  refine ⟨_, hstep, ?_, htouch, TextChanged.of_retext (o := s.offer i) (hoffer.mono (by decide))
    ((State.withChannel_touches _ c).mono (by decide)) hn hroom ?_⟩
  · rw [State.withChannel_story] at hreply ⊢
    rwa [State.retext_text hn] at hreply
  · rwa [State.store_offer, State.story_offer,
      runNotice_congr (s := s) (u := (s.offer i).retext n text style) _ hoffer.page fun _ => rfl] at hraised

/-- Settles O21: TEXT APPEND, REPLACE and REPLACE RANGE. -/
theorem textChangesStory : Obligations.TextChangesStory := by
  intro s i n style new text htakes hlow hhigh hstyle hnew hform hstage hholder hpage hlines hstored hroom
  have hcheck : (s.offer i).textCheck n style new = none :=
    State.textCheck_passed ⟨hlow, hhigh⟩ hstyle hnew (by simpa using hstage) (by simpa using hholder) (by simpa using hpage)
  rcases hform with ⟨tag, rfl, htext⟩ | ⟨tag, rfl, htext⟩ | ⟨tag, f, k, rfl, hrange, htext⟩
  · exact hostWrites (act := fun s => s.textAppend n style new) htakes
      (by rw [State.textAppend, hcheck, htext, State.story_offer]) ⟨hlow, hhigh⟩ hholder hlines hstored hroom
  · exact hostWrites (act := fun s => s.textReplace n style new) htakes
      (by rw [State.textReplace, hcheck, htext]) ⟨hlow, hhigh⟩ hholder hlines hstored hroom
  · exact hostWrites (act := fun s => s.textReplaceRange n style f k new) htakes
      (by rw [State.textReplaceRange, hcheck, htext, State.story_offer]; exact if_neg (by omega)) ⟨hlow, hhigh⟩ hholder hlines
      hstored hroom

/-! ### READ (R15) -/

section Read
variable {s : State} {n f : Nat}

theorem storedLength_cons (l : CopyLine) (ls : List CopyLine) : storedLength (l :: ls) = l.length + 1 + storedLength ls := by
  rw [storedLength, linesBytes, List.map_cons, List.sum_cons]
  rfl

/-- The longest run of whole lines within a room: the next line would pass it (R15). -/
theorem linesWithin_spec (room : Nat) (ls : List CopyLine) :
    ∃ rest, ls = linesWithin room ls ++ rest ∧ storedLength (linesWithin room ls) ≤ room ∧
      ∀ l ∈ rest.head?, room < storedLength (linesWithin room ls) + (l.length + 1) := by
  induction ls generalizing room with
  | nil => exact ⟨[], rfl, Nat.zero_le _, by simp⟩
  | cons l ls ih =>
    by_cases hfits : l.length + 1 ≤ room
    · obtain ⟨rest, hls, hstored, hnext⟩ := ih (room - (l.length + 1))
      rw [linesWithin, if_pos hfits, storedLength_cons]
      refine ⟨rest, by rw [List.cons_append, ← hls], by omega, fun m hm => ?_⟩
      have := hnext m hm
      omega
    · rw [linesWithin, if_neg hfits]
      refine ⟨l :: ls, rfl, Nat.zero_le _, fun m hm => ?_⟩
      cases hm
      omega

theorem linesField_length (ls : List CopyLine) : (linesField ls).length = storedLength ls := by
  induction ls with
  | nil => rfl
  | cons l ls ih =>
    rw [storedLength_cons, linesField, List.flatMap_cons, List.length_append, ← linesField, ih]
    rfl

/-- A READ of a story returns a line wherever there is one (R15). -/
theorem linesWithin_ne_nil {text : List CopyLine} (hshort : ∀ l ∈ text, l.length ≤ 80) (hf : f < text.length) :
    linesWithin Config.readChars (text.drop f) ≠ [] := by
  rw [List.drop_eq_getElem_cons hf, linesWithin, if_pos]
  · simp
  · have := hshort _ (List.getElem_mem hf)
    simp only [Config.readChars]
    omega

/-- What READ is answered: a refusal, or the run of lines (R15). -/
theorem State.readLines_verdict (s : State) (n f : Nat) : s.readLines n f =
    if n < 1 ∨ 512 < n then refuse s .badField
    else if (s.story n).stage = .free then refuse s .noSuch
    else if (s.story n).text.length < f then refuse s .badField
    else
      let out := linesWithin Config.readChars ((s.story n).text.drop f)
      (.done, u16 n ++ u16 (s.story n).editCount ++ u16 (s.story n).text.length ++ u16 f ++ u16 out.length ++ linesField out, s) := by
  by_cases hn : 1 ≤ n ∧ n ≤ 512
  · rw [if_neg (by omega)]
    simp [State.readLines, (storyOk_iff n).2 hn]
  · have hbad : storyOk n = false := by rw [← Bool.not_eq_true, storyOk_iff]; exact hn
    rw [if_pos (by omega)]
    simp [State.readLines, hbad]

theorem u16_length (n : Nat) : (u16 n).length = 2 := rfl

end Read

/-- Settles O22: READ. -/
theorem readReturnsLines : Obligations.ReadReturnsLines := by
  intro s tag n f i r htakes
  have hverdict := (s.offer i).readLines_verdict n f
  rw [State.story_offer] at hverdict
  by_cases hn : n < 1 ∨ 512 < n
  · rw [if_pos hn] at hverdict
    obtain ⟨t, hstep, hreply, hraised, htouch⟩ := host_read (act := fun s => s.readLines n f) htakes hverdict
    exact ⟨t, hstep, htouch, hraised, by rwa [if_pos hn]⟩
  rw [if_neg hn] at hverdict
  by_cases hfree : r.stage = .free
  · rw [if_pos hfree] at hverdict
    obtain ⟨t, hstep, hreply, hraised, htouch⟩ := host_read (act := fun s => s.readLines n f) htakes hverdict
    exact ⟨t, hstep, htouch, hraised, by rwa [if_neg hn, if_pos hfree]⟩
  rw [if_neg hfree] at hverdict
  by_cases hpast : r.text.length < f
  · rw [if_pos hpast] at hverdict
    obtain ⟨t, hstep, hreply, hraised, htouch⟩ := host_read (act := fun s => s.readLines n f) htakes hverdict
    exact ⟨t, hstep, htouch, hraised, by rwa [if_neg hn, if_neg hfree, if_pos hpast]⟩
  rw [if_neg hpast] at hverdict
  obtain ⟨t, hstep, hreply, hraised, htouch⟩ := host_read (act := fun s => s.readLines n f) htakes hverdict
  obtain ⟨rest, htext, hstored, hnext⟩ := linesWithin_spec Config.readChars (r.text.drop f)
  refine ⟨t, hstep, htouch, hraised, ?_⟩
  rw [if_neg hn, if_neg hfree, if_neg hpast]
  refine ⟨_, rest, htext, hstored, hnext, linesWithin_ne_nil, ?_, hreply⟩
  have hlength := linesField_length (linesWithin Config.readChars (r.text.drop f))
  rw [linesField] at hlength
  simp only [List.length_append, u16_length, hlength]
  simp only [Config.readChars] at hstored ⊢
  omega

/-! ### WINDOW and RETURN (R86 to R89) -/

section Window
variable {s v : State} {k : Fin 32} {n f : Nat}

theorem State.windowFrom_done {first : Option Nat} (hheld : (s.line k).held = some n)
    (hfirst : first = some f ∧ f ≤ 999 ∧ f ≤ (s.story n).text.length ∨
      first = none ∧ f = ((s.line k).window.map fun w => w.first).getD 0) :
    s.windowFrom k first = (.done, u16 f ++ u8 (min (s.line k).windowSize ((s.story n).text.length - f)), s.putWindow k n f) := by
  rcases hfirst with ⟨rfl, hhigh, hlines⟩ | ⟨rfl, rfl⟩
  · have hnot : ¬(s.story n).text.length < f := by omega
    simp [State.windowFrom, hheld, optWithin, within, hhigh, hnot, State.windowScreen]
  · simp [State.windowFrom, hheld, optWithin, State.windowScreen]

/-- A window sent to a line at the end of its request, on the records of `v` (R86). -/
theorem windowShown_of_put {t : State} (hlast : OnlyTouches [.lines] (v.putWindow k n f) t)
    (hline : t.line k = { (v.putWindow k n f).line k with
      answer := (t.line k).answer, service := (t.line k).service, override := (t.line k).override }) :
    WindowShown k n f t := by
  have hput := v.putWindow_touches k n f
  refine windowShown_of (v := v) (by rw [hlast.story, hput.story]) ?_ ?_ <;> rw [hline, State.putWindow_line] <;> rfl

theorem lineWindows {first : Option Nat} (htakes : s.takesFrame k (.window k first) = true) (hheld : (s.line k).held = some n)
    (hfirst : first = some f ∧ f ≤ 999 ∧ f ≤ (s.story n).text.length ∨
      first = none ∧ f = ((s.line k).window.map fun w => w.first).getD 0) :
    ∃ t, exec (.window k first) s = .next t ∧
      Served (.window k first) k .done (u16 f ++ u8 (min (s.line k).windowSize ((s.story n).text.length - f))) s t ∧
      OnlyTouches [.lines] s t ∧ SameLinesBut k s t ∧ (t.line k).held = some n ∧ WindowShown k n f t := by
  have hfound := (State.offerFrame_asFound htakes).1
  have hoffer := s.offerFrame_touches k (.window k first)
  have hwidth : ((s.offerFrame k (.window k first)).line k).windowSize = (s.line k).windowSize := by
    rw [Line.windowSize, hfound]
    rfl
  have hact := State.windowFrom_done (s := s.offerFrame k (.window k first)) (first := first) (hfound.held.trans hheld)
    (by rw [hoffer.story, hfound.window]; exact hfirst)
  rw [hoffer.story, hwidth] at hact
  have hput := (s.offerFrame k (.window k first)).putWindow_line k n f
  obtain ⟨t, hstep, htouch, hserved, hlast, hsame, hline⟩ := line_effect (act := fun s => s.windowFrom k first) (ps := [.lines])
    htakes hact (.of_eq (by rw [hput])) (by rw [hput]) (State.putWindow_touches _ k n f) (by decide)
  refine ⟨t, hstep, hserved, htouch, fun m hm => ?_, ?_, windowShown_of_put hlast hline⟩
  · rw [hsame m hm, State.putWindow_sameLines _ _ _ _ m hm, State.offerFrame_sameLines htakes m hm]
  · rw [hline, hput]
    exact hfound.held.trans hheld

end Window

theorem OnlyRaised.raised {s t : State} {ns : List Notice} (h : OnlyRaised ns s t) : Raised ns s t :=
  ⟨congrArg Channel.notices h, congrArg Channel.noticesLost h⟩

section Return
variable {s : State} {k : Fin 32} {n f c : Nat} {range : Option (Nat × Nat)} {new text : List CopyLine}

theorem State.returnLines_done (hheld : (s.line k).held = some n)
    (hrange : range = some (f, c) ∨ range = none ∧ (s.line k).window = some { first := f, shown := c })
    (hfirst : f ≤ 999) (hcount : c ≤ (s.line k).windowSize) (hshort : new.length ≤ 40) (hnew : ∀ l ∈ new, lineOk l = true)
    (hin : f + c ≤ (s.story n).text.length)
    (hstage : (s.story n).stage = .basket ∨
      (s.story n).stage = .placed ∧ ∃ run, (s.story n).run = some run ∧ (s.page run.page).state = .makeup)
    (htext : text = (s.story n).text.take f ++ new ++ (s.story n).text.drop (f + c))
    (hpassed : s.textRefusal n text = none) :
    s.returnLines k range new = (.done, u16 ((s.changeText n text none).story n).editCount ++ u16 text.length,
      (s.changeText n text none).putWindow k n f) := by
  have hnamed : (s.line k).returnRange range = some (f, c) := by
    rcases hrange with rfl | ⟨rfl, hwindow⟩
    · rfl
    · rw [Line.returnRange, hwindow]
      rfl
  have hfields : (s.line k).returnFields range new = true := by
    simp [Line.returnFields, hnamed, hcount, hfirst, hshort]
    simpa using hnew
  have heditable : s.editable n = true := by
    rcases hstage with h | ⟨h, run, hrun, hstate⟩
    · simp [State.editable, h]
    · simp [State.editable, h, hrun, hstate]
  have hnot : ¬(s.story n).text.length < f + c := by omega
  have hlines : replaceRange (s.story n).text f c new = text := htext.symm
  simp [State.returnLines, hfields, hheld, hnamed, hnot, heditable, hlines, hpassed]

/-- What a RETURN leaves of the line before the answer (R86, R89). -/
theorem State.rewindow_line (s : State) (k : Fin 32) (f : Nat) (hn : 1 ≤ n ∧ n ≤ 512) :
    ((s.changeText n text none).putWindow k n f).line k = { s.line k with
      display := (((s.changeText n text none).putWindow k n f).line k).display
      window := (((s.changeText n text none).putWindow k n f).line k).window
      lamp := if (s.story n).holder = .line k ∧ (s.line k).lampSource = .overset then
        (s.changeText n text none).lampLit k (s.line k) else (s.line k).lamp } := by
  have hretext := State.changeText_retext s n text none
  have hbase : (s.changeText n text none).line k = (s.retext n text none).line k := by
    rw [hretext]
    rfl
  have hlit : (s.changeText n text none).lampLit k (s.line k) = (s.retext n text none).lampLit k (s.line k) := by
    rw [hretext]
    exact State.lampLit_congr rfl rfl rfl rfl k _
  rw [State.putWindow_line, hbase, hlit, State.retext_told hn k (by simp)]
  by_cases htold : (s.story n).holder = .line k ∧ (s.line k).lampSource = .overset
  · simp only [if_pos htold]
  · simp only [if_neg htold]

/-- What a RETURN leaves of the records, and of the other lines (R89). -/
theorem State.rewindow_ends (s : State) (k : Fin 32) (f : Nat) :
    OnlyTouches [.lines, .channel] (s.retext n text none) ((s.changeText n text none).putWindow k n f) ∧
      SameLinesBut k (s.retext n text none) ((s.changeText n text none).putWindow k n f) := by
  have hretext := State.changeText_retext s n text none
  rw [hretext]
  exact ⟨((State.withChannel_touches _ _).mono (by decide)).trans (State.putWindow_touches _ k n f) (by decide),
    fun m hm => State.putWindow_sameLines _ _ _ _ m hm⟩

theorem lineReturns (htakes : s.takesFrame k (.ret k range new) = true) (hheld : (s.line k).held = some n)
    (hn : 1 ≤ n ∧ n ≤ 512)
    (hrange : range = some (f, c) ∨ range = none ∧ (s.line k).window = some { first := f, shown := c })
    (hfirst : f ≤ 999) (hcount : c ≤ (s.line k).windowSize) (hshort : new.length ≤ 40) (hnew : ∀ l ∈ new, lineOk l = true)
    (hin : f + c ≤ (s.story n).text.length)
    (hstage : (s.story n).stage = .basket ∨
      (s.story n).stage = .placed ∧ ∃ run, (s.story n).run = some run ∧ (s.page run.page).state = .makeup)
    (htext : text = (s.story n).text.take f ++ new ++ (s.story n).text.drop (f + c))
    (hlines : text.length ≤ 999) (hstored : storedLength text ≤ 32768)
    (hroom : blocksFor (storedLength text) ≤ (s.story n).chain.length + s.store.free) :
    ∃ t, exec (.ret k range new) s = .next t ∧
      Served (.ret k range new) k .done (u16 (t.story n).editCount ++ u16 text.length) s t ∧
      OnlyTouches [.stories, .store, .fit, .pages, .lines, .channel] s t ∧
      TextChanged n text none s t ∧ HolderTold (some k.val) n t s t ∧
      ((t.line k).lamp = if (s.story n).holder = .line k ∧ (s.line k).lampSource = .overset then t.lampLit k (t.line k)
        else (s.line k).lamp) ∧ (t.line k).held = some n ∧ WindowShown k n f t := by
  have hfound := (State.offerFrame_asFound htakes).1
  have hoffer := s.offerFrame_touches k (.ret k range new)
  have hwidth : ((s.offerFrame k (.ret k range new)).line k).windowSize = (s.line k).windowSize := by
    rw [Line.windowSize, hfound]
    rfl
  have hact := State.returnLines_done (s := s.offerFrame k (.ret k range new)) (text := text) (hfound.held.trans hheld)
    (by rw [hfound.window]; exact hrange) hfirst (by rw [hwidth]; exact hcount) hshort hnew (by rw [hoffer.story]; exact hin)
    (by simp only [hoffer.story, hoffer.page]; exact hstage) (by rw [hoffer.story]; exact htext)
    (State.textRefusal_passed hlines hstored (by rw [hoffer.story, hoffer.store]; exact hroom))
  have hchannel := State.changeText_channel (s := s.offerFrame k (.ret k range new)) (text := text) (style := none) hn
  have htouches := (s.offerFrame k (.ret k range new)).changeText_touches n text none
  have htold := State.retext_told (s := s.offerFrame k (.ret k range new)) (text := text) (style := none) hn
  have hput := (s.offerFrame k (.ret k range new)).rewindow_line (text := text) k f hn
  obtain ⟨hends, hendLines⟩ := (s.offerFrame k (.ret k range new)).rewindow_ends (n := n) (text := text) k f
  have hputTouch := ((s.offerFrame k (.ret k range new)).changeText n text none).putWindow_touches k n f
  obtain ⟨t, hstep, htouch, hserved, hlast, hsame, hline⟩ := line_effect (act := fun s => s.returnLines k range new)
    (ps := [.stories, .store, .fit, .pages, .lines, .channel]) htakes hact (.of_eq (by rw [hput])) (by rw [hput])
    ((htouches.mono (by decide)).trans hputTouch (by decide)) (by decide)
  have hshown : WindowShown k n f t := windowShown_of_put hlast hline
  have htextEnd := hends.trans (hlast.mono (by decide)) (List.Subset.refl _)
  have hlit (m : Nat) (l : Line) : t.lampLit m l = ((s.offerFrame k (.ret k range new)).retext n text none).lampLit m l :=
    State.lampLit_congr htextEnd.stories htextEnd.desks htextEnd.flashes htextEnd.clock m l
  have hlitEnd (l : Line) : t.lampLit k l = ((s.offerFrame k (.ret k range new)).changeText n text none).lampLit k l :=
    State.lampLit_congr (hlast.stories.trans hputTouch.stories) (hlast.desks.trans hputTouch.desks)
      (hlast.flashes.trans hputTouch.flashes) (hlast.clock.trans hputTouch.clock) k l
  refine ⟨t, hstep, ?_, htouch, TextChanged.of_retext (hoffer.mono (by decide)) htextEnd hn hroom ?_, fun m hm => ?_, ?_, ?_,
    hshown⟩
  · rwa [hlast.story, hputTouch.story]
  · refine OnlyRaised.raised ?_
    rw [OnlyRaised, hlast.channel, hputTouch.channel, hchannel, htextEnd.store, hoffer.channel, hoffer.store, hoffer.story,
      runNotice_congr (s := s) (u := t) _ hoffer.page fun g => (htextEnd.page g).symm]
  · have hm : m ≠ k.val := fun e => hm (by rw [e])
    rw [hsame m hm, hendLines m hm, htold m (by simp), hoffer.story, State.offerFrame_sameLines htakes m hm, hlit]
  · have hlamp : (t.line k).lamp = (((s.offerFrame k (.ret k range new)).changeText n text none).putWindow k n f |>.line k).lamp := by
      rw [hline]
    have hlitLine : t.lampLit k (t.line k) = t.lampLit k ((s.offerFrame k (.ret k range new)).line k) := by
      rw [hline, hput]
      rfl
    rw [hlamp, hlitLine, hlitEnd, hput, hoffer.story, hfound]
  · rw [hline, hput]
    exact hfound.held.trans hheld

end Return

/-- Settles O38: WINDOW and RETURN. -/
theorem windowAndReturn : Obligations.WindowAndReturn :=
  ⟨fun _ _ _ _ _ htakes hheld hfirst => lineWindows htakes hheld hfirst,
    fun _ _ _ _ _ _ _ _ htakes hheld hlow hhigh hrange hfirst hcount hshort hnew hin hstage htext hlines hstored hroom =>
      lineReturns htakes hheld ⟨hlow, hhigh⟩ hrange hfirst hcount hshort hnew hin hstage htext hlines hstored hroom⟩

/-! ### PURGE (R17) -/

section Purge
variable {s : State} {n : Nat} {run : Run}

theorem Page.cleared_shut (n : Nat) : Page.shut.cleared n = Page.shut := by
  simp [Page.cleared, Page.shut]

theorem State.emptySlots_self (s : State) (g n : Nat) : (s.emptySlots g n).page g = (s.page g).cleared n := by
  by_cases hg : 1 ≤ g ∧ g ≤ 48
  · exact State.emptySlots_page hg
  · rw [State.page_eq_shut hg, State.page_eq_shut hg, Page.cleared_shut]

/-- The story gone from its spike list or its page, its chain returned and its record freed (R17), before its page is judged. -/
def State.gone (s : State) (n : Nat) : State :=
  let t := match (s.story n).run with
    | some run => s.emptySlots run.page n
    | none => s.leaveSpikes n
  (State.setStory { t with store := t.store.giveBack (s.story n).chain } n Story.freed).storeRelief

theorem State.freeStory_unplaced (h : (s.story n).run = none) : s.freeStory n = s.gone n := by
  simp only [State.freeStory, State.gone, h]

theorem State.freeStory_placed (h : (s.story n).run = some run) :
    s.freeStory n = State.noticeFit s run.page ((s.gone n).judge run.page) := by
  simp only [State.freeStory, State.gone, h]

theorem State.storeRelief_store (s : State) : s.storeRelief.store = { s.store with
    low := if Config.storeOk ≤ s.store.free then false else s.store.low } := by
  unfold State.storeRelief
  split <;> rfl

/-- What is gone with a story (R17). -/
theorem State.gone_spec (hn : 1 ≤ n ∧ n ≤ 512) :
    (s.gone n).story n = Story.freed ∧ SameStoriesBut n s (s.gone n) ∧
      (s.gone n).store.free = s.store.free + (s.story n).chain.length ∧
      ((s.gone n).store.low = if 512 ≤ (s.gone n).store.free then false else s.store.low) := by
  have hoff : ∃ t : State, t.stories = s.stories ∧ t.store = s.store ∧ s.gone n =
      (State.setStory { t with store := t.store.giveBack (s.story n).chain } n Story.freed).storeRelief := by
    cases hrun : (s.story n).run with
    | none => exact ⟨s.leaveSpikes n, rfl, rfl, by simp only [State.gone, hrun]⟩
    | some run => exact ⟨s.emptySlots run.page n, rfl, rfl, by simp only [State.gone, hrun]⟩
  obtain ⟨t, hstories, hstore, hgone⟩ := hoff
  have hfree : (s.gone n).store.free = s.store.free + (s.story n).chain.length := by
    rw [hgone, State.storeRelief_store]
    simp only [Store.free, State.setStory_store, Store.giveBack, hstore, List.length_append]
    omega
  refine ⟨?_, fun m hm => ?_, hfree, ?_⟩
  · rw [hgone, (State.storeRelief_touches _).story, State.story_setStory_self _ hn]
  · rw [hgone, (State.storeRelief_touches _).story, State.story_setStory_ne _ hm]
    exact State.story_congr hstories m
  · rw [hgone, State.storeRelief_store, ← hstore]
    rfl

theorem State.gone_desks_of_spiked (h : (s.story n).run = none) :
    OnlyTouches [.stories, .desks, .store] s (s.gone n) ∧ (s.gone n).desks = (s.leaveSpikes n).desks := by
  have hgone : s.gone n = (State.setStory
      { s.leaveSpikes n with store := (s.leaveSpikes n).store.giveBack (s.story n).chain } n Story.freed).storeRelief := by
    simp only [State.gone, h]
  have hrelief := State.storeRelief_touches (s := State.setStory
    { s.leaveSpikes n with store := (s.leaveSpikes n).store.giveBack (s.story n).chain } n Story.freed)
  rw [hgone]
  refine ⟨OnlyTouches.trans (t := State.setStory
    { s.leaveSpikes n with store := (s.leaveSpikes n).store.giveBack (s.story n).chain } n Story.freed) ?_ hrelief (by decide),
    hrelief.desks⟩
  intro p hp
  cases p <;> first | rfl | exact absurd (by decide) hp

theorem State.gone_pages_of_placed (h : (s.story n).run = some run) :
    OnlyTouches [.stories, .store, .pages] s (s.gone n) ∧ ∀ g, (s.gone n).page g = (s.emptySlots run.page n).page g := by
  have hgone : s.gone n = (State.setStory
      { s.emptySlots run.page n with store := (s.emptySlots run.page n).store.giveBack (s.story n).chain } n
      Story.freed).storeRelief := by
    simp only [State.gone, h]
  have hrelief := State.storeRelief_touches (s := State.setStory
    { s.emptySlots run.page n with store := (s.emptySlots run.page n).store.giveBack (s.story n).chain } n Story.freed)
  rw [hgone]
  refine ⟨OnlyTouches.trans (t := State.setStory
    { s.emptySlots run.page n with store := (s.emptySlots run.page n).store.giveBack (s.story n).chain } n Story.freed) ?_
    hrelief (by decide), fun g => hrelief.page g⟩
  intro p hp
  cases p <;> first | rfl | exact absurd (by decide) hp

theorem State.purge_done (hn : 1 ≤ n ∧ n ≤ 512) (hstage : (s.story n).stage = .spiked ∨ (s.story n).stage = .set) :
    s.purge n = (.done, u8 (s.story n).chain.length, s.freeStory n) := by
  rcases hstage with h | h <;> simp [State.purge, (storyOk_iff n).2 hn, h]

end Purge

/-- PURGE of a SPIKED story (R17). -/
theorem purgesSpiked {s : State} {tag : Byte} {n : Nat} (htakes : s.takes (.purge tag n) = true) (hn : 1 ≤ n ∧ n ≤ 512)
    (hstage : (s.story n).stage = .spiked) (hrun : (s.story n).run = none) :
    ∃ c, exec (.purge tag n) s = .next (((s.offer (.purge tag n)).gone n).withChannel c) ∧
      Replied (.purge tag n) .done (u8 (s.story n).chain.length) s (((s.offer (.purge tag n)).gone n).withChannel c) ∧
      Raised [] s (((s.offer (.purge tag n)).gone n).withChannel c) ∧
      OnlyTouches [.stories, .desks, .store, .channel] s (((s.offer (.purge tag n)).gone n).withChannel c) := by
  have hact := State.purge_done (s := s.offer (.purge tag n)) hn (.inl (by simpa using hstage))
  have hrun' : ((s.offer (.purge tag n)).story n).run = none := by simpa using hrun
  rw [State.freeStory_unplaced hrun', State.story_offer] at hact
  have htouch := (State.gone_desks_of_spiked hrun').1
  obtain ⟨t, c, hstep, hreply, hraised, htouches, rfl⟩ := host_effect (act := fun s => s.purge n) (ns := [])
    (ps := [.stories, .desks, .store, .channel]) htakes hact htouch.channel (htouch.mono (by decide)) (by decide)
  exact ⟨c, hstep, hreply, hraised, htouches⟩

/-- PURGE of a SET story (R17). -/
theorem purgesSet {s : State} {tag : Byte} {n : Nat} {run : Run} (htakes : s.takes (.purge tag n) = true) (hn : 1 ≤ n ∧ n ≤ 512)
    (hstage : (s.story n).stage = .set) (hrun : (s.story n).run = some run) :
    ∃ c, exec (.purge tag n) s = .next ((((s.offer (.purge tag n)).gone n).judge run.page).withChannel c) ∧
      Replied (.purge tag n) .done (u8 (s.story n).chain.length) s
        ((((s.offer (.purge tag n)).gone n).judge run.page).withChannel c) ∧
      Raised (fitNotice run.page s ((((s.offer (.purge tag n)).gone n).judge run.page).withChannel c)) s
        ((((s.offer (.purge tag n)).gone n).judge run.page).withChannel c) ∧
      OnlyTouches [.stories, .store, .pages, .channel] s
        ((((s.offer (.purge tag n)).gone n).judge run.page).withChannel c) := by
  have hact := State.purge_done (s := s.offer (.purge tag n)) hn (.inr (by simpa using hstage))
  have hrun' : ((s.offer (.purge tag n)).story n).run = some run := by simpa using hrun
  rw [State.freeStory_placed hrun', State.noticeFit_eq, State.story_offer] at hact
  have htouch := (State.gone_pages_of_placed hrun').1
  have hjudge := State.judge_touches ((s.offer (.purge tag n)).gone n) run.page
  have hnotice := State.noticeFit_channel (s.offer (.purge tag n)) run.page (((s.offer (.purge tag n)).gone n).judge run.page)
  rw [hjudge.channel, htouch.channel] at hnotice
  obtain ⟨t, c, hstep, hreply, hraised, htouches, rfl⟩ := host_effect (act := fun s => s.purge n)
    (ps := [.stories, .store, .pages, .channel]) htakes hact hnotice
    (((htouch.mono (by decide)).trans hjudge (by decide)).trans (State.withChannel_touches _ _) (by decide)) (by decide)
  rw [State.withChannel_withChannel] at *
  rw [fitNotice_congr (s := s) (u := ((s.offer (.purge tag n)).gone n).judge run.page) (by rw [State.page_offer]) rfl] at hraised
  exact ⟨c, hstep, hreply, hraised, htouches⟩

/-- Settles O23: PURGE of a SPIKED story, and of a SET one. -/
theorem purgeFreesStory : Obligations.PurgeFreesStory := by
  intro s tag n i r htakes hlow hhigh hstage
  have hoffer := s.offer_touches i
  obtain ⟨hstory, hothers, hfree, hlow'⟩ := State.gone_spec (s := s.offer i) (n := n) ⟨hlow, hhigh⟩
  rw [hoffer.story, hoffer.store] at hfree
  rw [hoffer.store] at hlow'
  rcases hstage with ⟨hstage, hrun⟩ | ⟨hstage, hrun⟩
  · obtain ⟨c, hstep, hreply, hraised, htouch⟩ := purgesSpiked htakes ⟨hlow, hhigh⟩ hstage hrun
    have hdesks := (State.gone_desks_of_spiked (s := s.offer i) (n := n) (by rw [hoffer.story]; exact hrun)).2
    have hnone : r.run = none := hrun
    refine ⟨_, hstep, hreply, htouch.mono (by decide), hstory, fun m hm => ?_, hfree, hlow', fun _ => ⟨?_, htouch.pages, hraised⟩, ?_⟩
    · rw [State.withChannel_story, hothers m hm, hoffer.story]
    · have hleave : (s.offer i).leaveSpikes n = (s.offer i).updDesk r.desk fun d => { d with spikes := d.spikes.erase n } := by
        rw [State.leaveSpikes, hoffer.story]
      refine hdesks.trans ?_
      rw [hleave, State.updDesk, State.updDesk, hoffer.desk, hoffer.desks]
    · rw [hnone]
      exact fun _ h => absurd h (by simp)
  · obtain ⟨run, hrun⟩ := Option.isSome_iff_exists.1 hrun
    obtain ⟨c, hstep, hreply, hraised, htouch⟩ := purgesSet htakes ⟨hlow, hhigh⟩ hstage hrun
    obtain ⟨hgone, hpages⟩ := State.gone_pages_of_placed (s := s.offer i) (n := n) (run := run) (by rw [hoffer.story]; exact hrun)
    have hcleared : ((s.offer i).gone n).page run.page = (s.page run.page).cleared n := by
      rw [hpages, State.emptySlots_self, hoffer.page]
    have hjudge := State.judge_touches ((s.offer i).gone n) run.page
    have hpage : (((s.offer i).gone n).judge run.page).page run.page = { (s.page run.page).cleared n with
        fit := ((s.offer i).gone n).judgement ((s.page run.page).cleared n) } := by
      rw [State.judge_page, if_pos rfl, hcleared]
    refine ⟨_, hstep, hreply, htouch.mono (by decide), ?_, fun m hm => ?_, ?_, ?_, fun h => ?_, ?_⟩
    · rw [State.withChannel_story, hjudge.story, hstory]
    · rw [State.withChannel_story, hjudge.story, hothers m hm, hoffer.story]
    · exact (congrArg Store.free hjudge.store).trans hfree
    · have hstore : ((((s.offer i).gone n).judge run.page).withChannel c).store = ((s.offer i).gone n).store := hjudge.store
      rw [hstore]
      exact hlow'
    · rw [hstage] at h
      exact absurd h (by decide)
    · intro run' hrun'
      obtain rfl : run = run' := Option.some.inj (hrun.symm.trans hrun')
      refine ⟨htouch.desks, fun h hh => ?_, hraised, ((s.page run.page).cleared n).slots, ?_, fun k => ?_⟩
      · rw [State.withChannel_page, State.judge_page, if_neg hh, hpages, State.emptySlots_samePages _ _ n h hh, hoffer.page]
      · rw [State.withChannel_page, State.withChannel_judgement, hpage]
        have hsame : (((s.offer i).gone n).judge run.page).judgement { (s.page run.page).cleared n with
            fit := ((s.offer i).gone n).judgement ((s.page run.page).cleared n) } =
            ((s.offer i).gone n).judgement ((s.page run.page).cleared n) := by
          rw [State.judgement_congr hjudge.stories]
          exact State.judgement_page rfl rfl
        rw [hsame]
        rfl
      · rw [State.withChannel_page]
        exact (Page.slot_of_slots (q := (s.page run.page).cleared n) (by rw [hpage]) k).trans (Page.slot_cleared _ n k)

end Sys2Proof.Machine

/-! KILL (R36 to R38). -/

namespace Sys2Proof.Machine

/-! ### The page returned to MAKEUP (R36) -/

section Return
variable {s t u v w : State} {g n : Nat}

/-- Page `g` as the first part of a KILL leaves it, from `u` to `w` (R36). -/
structure BackForKill (g : Nat) (u w : State) : Prop where
  story : ∀ m, w.story m = if m ∈ (u.page g).stories then backInMakeup (u.page g).state (u.story m) else u.story m
  fit : w.fit = { u.fit with queue :=
    if (u.page g).state = .set then
      u.fit.queue ++ (u.page g).stories.filter fun m => (u.story m).fit == .none || (u.story m).fit == .current
    else u.fit.queue }
  page : w.page g = { u.page g with
    state := .makeup, fit := (w.page g).fit
    trim := if (u.page g).state = .makeup then (u.page g).trim else false
    job := if (u.page g).state = .queued ∨ (u.page g).state = .setting then
      (u.page g).job.map fun j => { j with outcome := .cancelled } else (u.page g).job }
  output : OutputLeft g u w
  touch : OnlyTouches [.stories, .fit, .pages, .output] u w

theorem OutputLeft.of_same (houtput : w.output = u.output) (hpages : SamePagesBut g u w)
    (hstate : (u.page g).state ≠ .queued ∧ (u.page g).state ≠ .setting) : OutputLeft g u w := by
  unfold OutputLeft
  split
  next h => exact absurd h hstate.1
  next h => exact absurd h hstate.2
  next => exact ⟨houtput, hpages⟩

theorem Story.backInMakeup_of_placed {r : Story} {st : PageState} (h : st = .makeup ∨ st = .releasing) : backInMakeup st r = r := by
  rcases h with rfl | rfl <;> rfl

theorem State.killReturn_makeup (hstate : (u.page g).state = .makeup) : BackForKill g u (u.killReturn g) := by
  have hkill : u.killReturn g = u := by simp only [State.killReturn, hstate]
  rw [hkill]
  refine ⟨fun m => ?_, ?_, ?_, .of_same rfl (fun _ _ => rfl) (by rw [hstate]; decide), .refl _ u⟩
  · rw [Story.backInMakeup_of_placed (.inl hstate), ite_self]
  · rw [if_neg (by rw [hstate]; decide)]
  · rw [if_pos hstate, if_neg (by rw [hstate]; decide), ← hstate]

theorem State.killReturn_releasing (hg : 1 ≤ g ∧ g ≤ 48) (hagrees : PageAgrees g u) (hstate : (u.page g).state = .releasing) :
    BackForKill g u (u.killReturn g) := by
  have hkill : u.killReturn g = u.returnPage g := by simp only [State.killReturn, hstate]
  have htouch := u.returnPage_touches g
  obtain ⟨hmoved, -⟩ := u.returnPage_returned hg
  rw [hkill]
  refine ⟨fun m => ?_, ?_, ?_, .of_same htouch.output (u.returnPage_samePages g) (by rw [hstate]; decide), htouch.mono (by decide)⟩
  · rw [Story.backInMakeup_of_placed (.inr hstate), ite_self, hmoved m, if_neg]
    rintro ⟨hm, hsetting⟩
    obtain ⟨-, -, -, -, hplaced⟩ := hagrees.2 m hm
    rw [hstate] at hplaced
    exact absurd (hsetting.symm.trans hplaced) (by decide)
  · rw [if_neg (by rw [hstate]; decide), htouch.fit]
  · rw [if_neg (by rw [hstate]; decide), if_neg (by rw [hstate]; decide), u.returnPage_page hg]

/-- The stories of a page in QUEUED or SETTING are PLACED again. -/
theorem StoriesMoved.backForKill (hmoved : StoriesMoved g .setting .placed u w) (hagrees : PageAgrees g u)
    (hstate : (u.page g).state = .queued ∨ (u.page g).state = .setting) (m : Nat) :
    w.story m = if m ∈ (u.page g).stories then backInMakeup (u.page g).state (u.story m) else u.story m := by
  rw [hmoved m]
  by_cases hm : m ∈ (u.page g).stories
  · obtain ⟨-, -, -, -, hstage⟩ := hagrees.2 m hm
    rcases hstate with h | h <;> rw [h] at hstage ⊢ <;> rw [if_pos hm, if_pos ⟨hm, hstage⟩] <;> rfl
  · rw [if_neg hm, if_neg fun h => hm h.1]

theorem State.killReturn_queued (hg : 1 ≤ g ∧ g ≤ 48) (hagrees : PageAgrees g u) (hstate : (u.page g).state = .queued) :
    BackForKill g u (u.killReturn g) := by
  have hkill : u.killReturn g = u.cancelQueued g := by simp only [State.killReturn, hstate]
  have htouch := u.cancelQueued_touches g
  obtain ⟨hmoved, hpage⟩ := u.cancelQueued_returned hg
  rw [hkill]
  refine ⟨hmoved.backForKill hagrees (.inl hstate), ?_, ?_, ?_, htouch.mono (by decide)⟩
  · rw [if_neg (by rw [hstate]; decide), htouch.fit]
  · rw [if_neg (by rw [hstate]; decide), if_pos (.inl hstate), hpage]
  · rw [OutputLeft, hstate]
    refine ⟨(State.returnPage_touches _ g).output.trans (State.endRecord_touches _ g _).output, fun h hh => ?_⟩
    rw [State.cancelQueued, State.returnPage_samePages _ g h hh, State.endRecord, State.page_updPage_ne _ hh]
    rfl

theorem State.killReturn_setting (hg : 1 ≤ g ∧ g ≤ 48) (hagrees : PageAgrees g u) (hstate : (u.page g).state = .setting)
    {p : Port} (hjob : JobAt g p u) : BackForKill g u (u.killReturn g) := by
  obtain ⟨hport, hqueue, hwaits⟩ := hjob
  have hkill : u.killReturn g = (u.cancelAtPort p g .ready).arbitrate := by
    simp only [State.killReturn, hstate, State.cancelSetting, hport]
  have htouch := (u.cancelAtPort_touches p g .ready).trans (State.arbitrate_touches _) (by decide)
  obtain ⟨⟨hmoved, hpage⟩, -, hfreed⟩ := State.cancelAtPort_freed hg hwaits hqueue
  rw [hkill]
  refine ⟨hmoved.backForKill hagrees (.inr hstate), ?_, ?_, ?_, htouch.mono (by decide)⟩
  · rw [if_neg (by rw [hstate]; decide), htouch.fit]
  · rw [if_neg (by rw [hstate]; decide), if_pos (.inr hstate), hpage]
  · rw [OutputLeft, hstate]
    intro q hq
    obtain rfl : p = q := Option.some.inj (hport.symm.trans hq)
    exact hfreed

theorem PageAgrees.setPage (hagrees : PageAgrees g u) (hstate : (u.page g).state = .set) : SetPage g u := by
  refine ⟨hagrees.1, fun m hm => ?_⟩
  obtain ⟨hlow, hhigh, hrun, -, hstage⟩ := hagrees.2 m hm
  rw [hstate] at hstage
  exact ⟨⟨hlow, hhigh⟩, hstage, hrun⟩

theorem State.killReturn_set (hg : 1 ≤ g ∧ g ≤ 48) (hagrees : PageAgrees g u) (hstate : (u.page g).state = .set) :
    BackForKill g u (u.killReturn g) := by
  have hkill : u.killReturn g = u.reopenPage g := by simp only [State.killReturn, hstate]
  have htouch := u.reopenPage_touches g
  have hset := hagrees.setPage hstate
  have hlines := State.reopenPage_lines (s := u) (g := g) fun m hm => by
    obtain ⟨-, -, -, habsent, -⟩ := hagrees.2 m hm
    exact habsent (by rw [hstate]; decide)
  rw [hkill]
  refine ⟨fun m => ?_, ?_, ?_, .of_same htouch.output (State.reopenPage_samePages hset) (by rw [hstate]; decide), fun p hp => ?_⟩
  · rw [State.reopenPage_story hset, hstate]
    rfl
  · rw [if_pos hstate, State.reopenPage_fit hset]
    rfl
  · rw [if_neg (by rw [hstate]; decide), if_neg (by rw [hstate]; decide), State.reopenPage_page hset hg]
  · by_cases hp' : p = .lines
    · rw [hp']
      exact hlines
    · exact htouch p (by revert hp hp'; cases p <;> simp)

/-- The first part of a KILL (R36). -/
theorem State.killReturn_back (hg : 1 ≤ g ∧ g ≤ 48) (hagrees : PageAgrees g u) (hopen : (u.page g).state ≠ .closed)
    (hjob : (u.page g).state = .setting → ∃ p, JobAt g p u) : BackForKill g u (u.killReturn g) := by
  cases hstate : (u.page g).state with
  | closed => exact absurd hstate hopen
  | makeup => exact State.killReturn_makeup hstate
  | releasing => exact State.killReturn_releasing hg hagrees hstate
  | queued => exact State.killReturn_queued hg hagrees hstate
  | setting =>
    obtain ⟨p, hat⟩ := hjob hstate
    exact State.killReturn_setting hg hagrees hstate hat
  | set => exact State.killReturn_set hg hagrees hstate

end Return

/-! ### The story spiked off its page (R25, R36) -/

section Killed
variable {s t u v w : State} {g n : Nat} {run : Run}

/-- The page judged once the story is spiked off it (R36). -/
def State.spikedOff (w : State) (n g : Nat) : State := (w.enterSpiked n).judge g

theorem State.kill_eq (before u : State) (hrun : (u.story n).run = some run) :
    State.kill before u n = State.noticeFit before run.page ((u.killReturn run.page).spikedOff n run.page) := by
  simp only [State.kill, hrun]
  rfl

theorem State.spikedOff_touches (w : State) (n g : Nat) :
    OnlyTouches [.fit, .pages, .stories, .desks] w (w.spikedOff n g) :=
  (w.enterSpiked_touches n).trans (State.judge_touches _ g) (by decide)

theorem State.enterSpiked_page (hrun : (w.story n).run = some run) (h : Nat) :
    (w.enterSpiked n).page h = (w.emptySlots run.page n).page h := by
  have hspiked : (w.enterSpiked n).page h = (w.offSlots n).page h := rfl
  rw [hspiked, State.offSlots, hrun]
  rfl

theorem State.spikedOff_page (hrun : (w.story n).run = some run) : (w.spikedOff n run.page).page run.page =
    { (w.page run.page).cleared n with
      fit := (w.spikedOff n run.page).judgement ((w.spikedOff n run.page).page run.page) } := by
  have hpage : (w.spikedOff n run.page).page run.page =
      { (w.page run.page).cleared n with fit := (w.enterSpiked n).judgement ((w.page run.page).cleared n) } := by
    rw [State.spikedOff, State.judge_page, if_pos rfl, State.enterSpiked_page hrun, State.emptySlots_self]
  have hfit : (w.spikedOff n run.page).judgement ((w.spikedOff n run.page).page run.page) =
      (w.enterSpiked n).judgement ((w.page run.page).cleared n) := by
    have hstories : (w.spikedOff n run.page).stories = (w.enterSpiked n).stories :=
      (State.judge_touches (w.enterSpiked n) run.page).stories
    rw [State.judgement_congr hstories]
    exact State.judgement_page (by rw [hpage]) (by rw [hpage])
  rw [hfit]
  exact hpage

theorem State.spikedOff_samePages (hrun : (w.story n).run = some run) :
    SamePagesBut run.page w (w.spikedOff n run.page) := fun h hh => by
  rw [State.spikedOff, State.judge_page, if_neg hh, State.enterSpiked_page hrun, w.emptySlots_samePages _ n h hh]

/-- Past the page's own records, the output path stands from the page's return to the KILL's end. -/
theorem PortFreed.on {p : Port} {v : SetterPort} (h : PortFreed p v (some g) u w) (hjobs : ∀ j ∈ u.output.queue, j.page ≠ g)
    (houtput : t.output = w.output) (hpages : SamePagesBut g w t) : PortFreed p v (some g) u t := by
  obtain ⟨hxlate, hother, hidle, hbegun⟩ := h
  have hport (q : Port) : t.port q = w.port q := State.port_of_output houtput q
  refine ⟨by rw [houtput, hxlate], by rw [hport, hother], fun hnone => ?_, fun before j after hqueue hbefore hj hlow hhigh => ?_⟩
  · obtain ⟨h1, h2, h3⟩ := hidle hnone
    refine ⟨by rw [hport, h1], by rw [houtput, h2], fun m hm => ?_⟩
    rw [hpages m fun e => hm (by rw [e]), h3 m hm]
  · obtain ⟨h1, ⟨h2, h3⟩, h4⟩ := hbegun before j after hqueue hbefore hj hlow hhigh
    have hne : j.page ≠ g := hjobs j (by rw [hqueue]; simp)
    refine ⟨by rw [houtput, h1], ⟨by rw [hport]; exact h2, by rw [hpages _ hne, h3]⟩, fun m hm hm' => ?_⟩
    rw [hpages m fun e => hm' (by rw [e]), h4 m hm hm']

theorem OutputLeft.on (h : OutputLeft g u w) (hjob : (u.page g).state = .setting → ∃ p, JobAt g p u)
    (houtput : t.output = w.output) (hpages : SamePagesBut g w t) : OutputLeft g u t := by
  unfold OutputLeft at h ⊢
  split at h
  · exact ⟨houtput.trans h.1, fun m hm => (hpages m hm).trans (h.2 m hm)⟩
  next hstate =>
    intro p hp
    obtain ⟨q, hport, hqueue, -⟩ := hjob hstate
    exact (h p hp).on hqueue houtput hpages
  · exact ⟨houtput.trans h.1, fun m hm => (hpages m hm).trans (h.2 m hm)⟩

theorem Story.backInMakeup_eq (st : PageState) (r : Story) : ∃ stage fit changed,
    backInMakeup st r = { r with stage := stage, fit := fit, changed := changed } ∧
      (fit = .computing ↔ r.fit = .computing) := by
  cases st
  case set =>
    refine ⟨_, _, _, Story.outdated_eq _, ?_⟩
    simp only [Story.outdated]
    cases h : r.fit <;> simp
  all_goals exact ⟨_, _, _, rfl, Iff.rfl⟩

/-- What a KILL leaves, from the state its hold has been let go in (R36). -/
theorem BackForKill.killed (hback : BackForKill run.page u w) (hn : 1 ≤ n ∧ n ≤ 512) (hdesk : (u.story n).desk < 16)
    (hholder : (u.story n).holder = .absent) (hrun : (u.story n).run = some run)
    (hjob : (u.page run.page).state = .setting → ∃ p, JobAt run.page p u) : Killed n run.page u (w.spikedOff n run.page) := by
  obtain ⟨stage, fit, changed, hwn, hcomputing⟩ : ∃ stage fit changed,
      w.story n = { u.story n with stage := stage, fit := fit, changed := changed } ∧
        (fit = .computing ↔ (u.story n).fit = .computing) := by
    rw [hback.story]
    split
    · exact Story.backInMakeup_eq _ _
    · exact ⟨_, _, _, rfl, Iff.rfl⟩
  have hwrun : (w.story n).run = some run := by rw [hwn]; exact hrun
  have hwdesk : (w.story n).desk = (u.story n).desk := by rw [hwn]
  have hjudge := State.judge_touches (w.enterSpiked n) run.page
  have hdeskSelf := State.enterSpiked_desk (s := w) (n := n) (by rw [hwdesk]; exact hdesk)
  have hdeskOther := w.enterSpiked_sameDesks n
  rw [hwdesk, hback.touch.desk] at hdeskSelf
  rw [hwdesk] at hdeskOther
  have hslots : ((w.page run.page).cleared n).slots = ((u.page run.page).cleared n).slots := by
    rw [Page.cleared, Page.cleared, hback.page]
  have hpage := State.spikedOff_page hwrun
  refine ⟨?_, fun m hm => ?_, ?_, fun d hd => ?_, ?_, fun k => ?_, ?_, ?_⟩
  · rw [State.spikedOff, hjudge.story, State.enterSpiked_story hn, hwn, ← hholder]
  · rw [State.spikedOff, hjudge.story, w.enterSpiked_sameStories n m hm, hback.story m]
  · rw [State.spikedOff, hjudge.desk, hdeskSelf]
  · rw [State.spikedOff, hjudge.desk, hdeskOther d hd, hback.touch.desk]
  · rw [State.spikedOff, hjudge.fit, State.enterSpiked_fit, hback.fit, hwn]
    simp only [hcomputing]
  · refine (Page.slot_of_slots (q := (u.page run.page).cleared n) ?_ k).trans (Page.slot_cleared _ n k)
    rw [hpage]
    exact hslots
  · refine hpage.trans ?_
    have hgone : (w.page run.page).cleared n = { u.page run.page with
        state := .makeup, slots := ((w.spikedOff n run.page).page run.page).slots, fit := ((w.page run.page).cleared n).fit
        trim := if (u.page run.page).state = .makeup then (u.page run.page).trim else false
        job := if (u.page run.page).state = .queued ∨ (u.page run.page).state = .setting then
          (u.page run.page).job.map fun j => { j with outcome := .cancelled } else (u.page run.page).job } := by
      have hkept : ((w.spikedOff n run.page).page run.page).slots = ((w.page run.page).cleared n).slots := by rw [hpage]
      rw [hkept]
      exact congrArg (fun p : Page => { p with
        slots := ((w.page run.page).cleared n).slots, fit := ((w.page run.page).cleared n).fit }) hback.page
    exact congrArg (fun p : Page => { p with
      fit := (w.spikedOff n run.page).judgement ((w.spikedOff n run.page).page run.page) }) hgone
  · exact hback.output.on hjob (w.spikedOff_touches n run.page).output (State.spikedOff_samePages hwrun)

theorem Killed.congr (h : Killed n g u t) {skip : Option Nat} (hlet : HolderLet skip n s u) (hkeeps : ∀ a ∈ JobAspects, s.keeps u a) :
    Killed n g s t := by
  obtain ⟨hstory, hothers, hdesk, hdesks, hfit, hslots, hpage, houtput⟩ := h
  have hsame (m : Nat) : u.page m = s.page m := hlet.touch.page m
  have hport (p : Port) : u.port p = s.port p := hlet.touch.port p
  have hfits (m : Nat) : (u.story m).fit = (s.story m).fit := by
    by_cases hm : m = n
    · rw [hm, hlet.story]
    · rw [hlet.stories m hm]
  have hof : u.portOf g = s.portOf g := by simp only [State.portOf, hport]
  rw [Killed]
  simp only [hlet.story, hlet.touch.fit, hsame, hlet.touch.desk, hfits] at hstory hdesk hdesks hfit hslots hpage
  refine ⟨hstory, fun m hm => ?_, hdesk, fun d hd => ?_, hfit, hslots, hpage, ?_⟩
  · rw [hothers m hm, hlet.stories m hm, hsame]
  · rw [hdesks d hd, hlet.touch.desk]
  · unfold OutputLeft at houtput ⊢
    rw [hsame] at houtput
    split at houtput
    · exact ⟨by rw [houtput.1, hlet.touch.output], fun m hm => (houtput.2 m hm).trans (hsame m)⟩
    · intro p hp
      rw [← hport p]
      exact (houtput p (hof.trans hp)).congr (by rw [hlet.touch.output]) (by rw [hlet.touch.output]) (hport _) hsame hkeeps
    · exact ⟨by rw [houtput.1, hlet.touch.output], fun m hm => (houtput.2 m hm).trans (hsame m)⟩

/-- A KILL reads, past the lines and the channel, of the state after. -/
theorem Killed.to (h : Killed n g s t) (hend : OnlyTouches [.lines, .channel] t v) : Killed n g s v := by
  obtain ⟨hstory, hothers, hdesk, hdesks, hfit, hslots, hpage, houtput⟩ := h
  have hjudge (p : Page) : v.judgement p = t.judgement p := State.judgement_congr hend.stories p
  rw [Killed]
  simp only [hend.page, hjudge]
  refine ⟨(hend.story n).trans hstory, fun m hm => (hend.story m).trans (hothers m hm), (hend.desk _).trans hdesk,
    fun d hd => (hend.desk d).trans (hdesks d hd), hend.fit.trans hfit, hslots, hpage, ?_⟩
  have hport (p : Port) : v.port p = t.port p := State.port_of_output hend.output p
  simpa only [OutputLeft, SamePagesBut, PortFreed, JobBegun, hend.output, hend.page, hport] using houtput

end Killed

/-- The KILL carried out, once the hold on the story is let go: the pages, the FIT notice. -/
theorem killed_of {before u : State} {n : Nat} {run : Run} (hn : 1 ≤ n ∧ n ≤ 512) (hdesk : (u.story n).desk < 16)
    (hholder : (u.story n).holder = .absent) (hrun : (u.story n).run = some run) (hg : 1 ≤ run.page ∧ run.page ≤ 48)
    (hopen : (u.page run.page).state ≠ .closed) (hagrees : PageAgrees run.page u)
    (hjob : (u.page run.page).state = .setting → ∃ p, JobAt run.page p u) :
    ∃ t, State.kill before u n = State.noticeFit before run.page t ∧ Killed n run.page u t ∧
      OnlyTouches [.stories, .desks, .fit, .pages, .output] u t := by
  have hback := State.killReturn_back hg hagrees hopen hjob
  exact ⟨_, State.kill_eq before u hrun, hback.killed hn hdesk hholder hrun hjob,
    (hback.touch.mono (by decide)).trans (State.spikedOff_touches _ n run.page) (by decide)⟩

theorem PageAgrees.holderLet {s u : State} {skip : Option Nat} {n g : Nat} (h : PageAgrees g s) (hlet : HolderLet skip n s u) :
    PageAgrees g u := by
  rw [PageAgrees, hlet.touch.page]
  refine ⟨h.1, fun m hm => ?_⟩
  obtain ⟨hlow, hhigh, hrun, hheld, hstage⟩ := h.2 m hm
  by_cases hmn : m = n
  · subst hmn
    rw [hlet.story]
    exact ⟨hlow, hhigh, hrun, fun _ => rfl, hstage⟩
  · rw [hlet.stories m hmn]
    exact ⟨hlow, hhigh, hrun, hheld, hstage⟩

theorem JobAt.holderLet {s u : State} {skip : Option Nat} {n g : Nat} {p : Port} (h : JobAt g p s) (hlet : HolderLet skip n s u) :
    JobAt g p u := by
  have hport (q : Port) : u.port q = s.port q := hlet.touch.port q
  have hof : u.portOf g = s.portOf g := by simp only [State.portOf, hport]
  obtain ⟨h1, h2, h3⟩ := h
  refine ⟨hof.trans h1, by rw [hlet.touch.output]; exact h2, ?_⟩
  rw [PortWaits, hport, hlet.touch.output]
  exact h3

theorem hostKills {s : State} {tag : Byte} {n : Nat} {run : Run} (htakes : s.takes (.hostKill tag n) = true)
    (hn : 1 ≤ n ∧ n ≤ 512) (hdesk : (s.story n).desk < 16) (hstage : (s.story n).stage.onPage = true)
    (hrun : (s.story n).run = some run) (hholder : (s.story n).holder = .absent ∨ (s.story n).holder = .channel)
    (hg : 1 ≤ run.page ∧ run.page ≤ 48) (hopen : (s.page run.page).state ≠ .closed) (hagrees : PageAgrees run.page s)
    (hjob : (s.page run.page).state = .setting → ∃ p, JobAt run.page p s) :
    ∃ t, exec (.hostKill tag n) s = .next t ∧ Replied (.hostKill tag n) .done [] s t ∧ Raised (fitNotice run.page s t) s t ∧
      OnlyTouches [.stories, .desks, .fit, .pages, .output, .channel] s t ∧ Killed n run.page s t := by
  have hlet := HolderLet.host (i := .hostKill tag n) hn hholder
  have hrelease := (s.offer (.hostKill tag n)).releaseChannel_touches n
  have hfree : (s.story n).stage ≠ .free := fun h => by rw [h] at hstage; exact absurd hstage (by decide)
  have hpage (m : Nat) : ((s.offer (.hostKill tag n)).releaseChannel n).page m = s.page m := hlet.touch.page m
  obtain ⟨t, hkill, hkilled, htouch⟩ := killed_of (before := s.offer (.hostKill tag n)) (run := run) hn
    (by rw [hlet.story]; exact hdesk) (by rw [hlet.story]) (by rw [hlet.story]; exact hrun) hg (by rw [hpage]; exact hopen)
    (hagrees.holderLet hlet) (by rw [hpage]; exact fun h => (hjob h).imp fun _ hp => hp.holderLet hlet)
  have hact : (s.offer (.hostKill tag n)).hostKill n = (.done, [], State.noticeFit (s.offer (.hostKill tag n)) run.page t) := by
    rw [← hkill]
    simp [State.hostKill, (storyOk_iff n).2 hn, hfree, hstage, Holder.atLine_eq_false hholder]
  have hlines : ((s.offer (.hostKill tag n)).releaseChannel n).lines = (s.offer (.hostKill tag n)).lines :=
    (State.releaseChannel_spec (s.offer (.hostKill tag n)) hn (by simpa using hholder)).2.2
  have hreleased : OnlyTouches [.stories] (s.offer (.hostKill tag n)) ((s.offer (.hostKill tag n)).releaseChannel n) := fun p hp => by
    by_cases hp' : p = .lines
    · rw [hp']
      exact hlines
    · exact hrelease p (by revert hp hp'; cases p <;> simp)
  have hnotice := State.noticeFit_channel (s.offer (.hostKill tag n)) run.page t
  rw [htouch.channel, hrelease.channel] at hnotice
  rw [State.noticeFit_eq] at hact
  obtain ⟨v, c, hstep, hreply, hraised, htouches, rfl⟩ := host_effect (act := fun s => s.hostKill n)
    (ps := [.stories, .desks, .fit, .pages, .output, .channel]) htakes hact hnotice
    (((hreleased.mono (by decide)).trans htouch (by decide)).trans (State.withChannel_touches _ _) (by decide)) (by decide)
  rw [State.withChannel_withChannel] at *
  rw [fitNotice_congr (s := s) (u := t) (by rw [State.page_offer]) rfl] at hraised
  refine ⟨_, hstep, hreply, hraised, htouches, (hkilled.congr hlet fun a ha => ?_).to ((State.withChannel_touches _ c).mono (by decide))⟩
  have hoffered := (s.offer_touches (.hostKill tag n)).moves_channel (by decide) a (by revert ha; cases a <;> decide)
  exact hoffered.trans (State.releaseChannel_moves _ n a (by revert ha; cases a <;> decide))

theorem lineKills {s : State} {k : Fin 32} {n : Nat} {run : Run} (htakes : s.takesFrame k (.terminalKill k n) = true)
    (hn : 1 ≤ n ∧ n ≤ 512) (hdesk : (s.story n).desk < 16) (hstage : (s.story n).stage.onPage = true)
    (hrun : (s.story n).run = some run) (hrole : (s.line k).hasRole .reporter = false)
    (hholder : (s.story n).holder = .absent ∨ (s.story n).holder = .line k)
    (hg : 1 ≤ run.page ∧ run.page ≤ 48) (hopen : (s.page run.page).state ≠ .closed) (hagrees : PageAgrees run.page s)
    (harmed : (s.page run.page).state ≠ .makeup → (s.line k).hasRole .slot = true ∧ (s.line k).override = true)
    (hjob : (s.page run.page).state = .setting → ∃ p, JobAt run.page p s) :
    ∃ t, exec (.terminalKill k n) s = .next t ∧ Served (.terminalKill k n) k .done [] s t ∧
      OnlyRaised (fitNotice run.page s t) s t ∧
      OnlyTouches [.stories, .desks, .fit, .pages, .output, .lines, .channel] s t ∧ Killed n run.page s t ∧
      SameLinesBut k s t ∧ HoldAfterMove k ((s.story n).holder = .line k) s t := by
  have hlet := HolderLet.line htakes hn hholder
  have hoffer := s.offerFrame_touches k (.terminalKill k n)
  have hfound := (State.offerFrame_asFound htakes).1
  have hrelease := (s.offerFrame k (.terminalKill k n)).releaseOwn_touches k n
  have hsettled := State.releaseOwn_holdLeft (k := k) (.terminalKill k n) hn hholder
  have hsame := (State.releaseOwn_spec (s.offerFrame k (.terminalKill k n)) k hn (by rwa [hoffer.story])).2.2.1
  have hpage (m : Nat) : ((s.offerFrame k (.terminalKill k n)).releaseOwn k n).page m = s.page m := hlet.touch.page m
  obtain ⟨t, hkill, hkilled, htouch⟩ := killed_of (before := s.offerFrame k (.terminalKill k n)) (run := run) hn
    (by rw [hlet.story]; exact hdesk) (by rw [hlet.story]) (by rw [hlet.story]; exact hrun) hg (by rw [hpage]; exact hopen)
    (hagrees.holderLet hlet) (by rw [hpage]; exact fun h => (hjob h).imp fun _ hp => hp.holderLet hlet)
  have hact : (s.offerFrame k (.terminalKill k n)).lineKill k n =
      (.done, [], State.noticeFit (s.offerFrame k (.terminalKill k n)) run.page t) := by
    rw [← hkill]
    have hfree : (s.story n).stage ≠ .free := fun h => by rw [h] at hstage; exact absurd hstage (by decide)
    have hroles (r : Role) : ((s.offerFrame k (.terminalKill k n)).line k).hasRole r = (s.line k).hasRole r := by
      rw [Line.hasRole, hfound]
      rfl
    have hoverride : ((s.offerFrame k (.terminalKill k n)).line k).override = (s.line k).override := by rw [hfound]
    have hallowed : ((s.offerFrame k (.terminalKill k n)).onFrozenPage n &&
        !((s.line k).hasRole .slot && (s.line k).override)) = false := by
      rw [State.onFrozenPage, hoffer.story, hrun]
      dsimp only
      rw [hoffer.page]
      by_cases hmakeup : (s.page run.page).state = .makeup
      · rw [hmakeup]
        rfl
      · obtain ⟨h1, h2⟩ := harmed hmakeup
        rw [h1, h2]
        simp
    rw [State.lineKill]
    simp only [hoffer.story, (storyOk_iff n).2 hn, hfree, hroles, hrole, hstage, Holder.bars_eq_false hholder, hoverride, hallowed]
    rfl
  have hnotice := State.noticeFit_channel (s.offerFrame k (.terminalKill k n)) run.page t
  rw [htouch.channel, hrelease.channel, hoffer.channel] at hnotice
  rw [State.noticeFit_eq] at hact
  generalize (State.noticeFit (s.offerFrame k (.terminalKill k n)) run.page t).channel = c at hact hnotice
  have hline (m : Nat) : (t.withChannel c).line m = ((s.offerFrame k (.terminalKill k n)).releaseOwn k n).line m := htouch.line m
  obtain ⟨v, hstep, htouches, hserved, hlast, hsame', hlineEnd⟩ := line_effect (act := fun s => s.lineKill k n)
    (ps := [.stories, .desks, .fit, .pages, .output, .lines, .channel]) htakes hact (by rw [hline]; exact hsettled.sameSetup)
    (by rw [hline]; exact hsettled.service)
    (((hrelease.mono (by decide)).trans htouch (by decide)).trans (State.withChannel_touches _ _) (by decide)) (by decide)
  refine ⟨v, hstep, hserved, ?_, htouches, (hkilled.congr hlet fun a ha => ?_).to
    (((State.withChannel_touches _ c).mono (by decide)).trans hlast (by decide)), fun m hm => ?_, ?_⟩
  · rw [OnlyRaised, hlast.channel, fitNotice_congr (s := s.offerFrame k (.terminalKill k n)) (u := t) (by rw [hoffer.page])
      (by rw [hlast.page]; rfl)]
    exact hnotice
  · have hoffered := s.offerFrame_moves k (.terminalKill k n) a (by revert ha; cases a <;> decide)
    exact hoffered.trans (State.releaseOwn_moves _ k n a (by revert ha; cases a <;> decide))
  · rw [hsame' m hm, hline, hsame m hm, State.offerFrame_sameLines htakes m hm]
  · exact Line.holdLeft.afterMove htakes (v := t.withChannel c) (by rw [hline]; exact hsettled) hlineEnd

/-- Settles O27: KILL by the host and by a line. -/
theorem killSpikesPlacedStory : Obligations.KillSpikesPlacedStory :=
  ⟨fun _ _ _ _ htakes hlow hhigh hdesk hstage hrun hholder hglow hghigh hopen hagrees hjob =>
      hostKills htakes ⟨hlow, hhigh⟩ hdesk hstage hrun hholder ⟨hglow, hghigh⟩ hopen hagrees hjob,
    fun _ _ _ _ htakes hlow hhigh hdesk hstage hrun hrole hholder hglow hghigh hopen hagrees harmed hjob =>
      lineKills htakes ⟨hlow, hhigh⟩ hdesk hstage hrun hrole hholder ⟨hglow, hghigh⟩ hopen hagrees harmed hjob⟩

end Sys2Proof.Machine

/-! OPEN, CLOSE, FREE and the expiry of an orphan (R44 to R47, R51, R54). -/

namespace Sys2Proof.Machine

/-! ### OPEN (R45, R46) -/

section Open
variable {s : State} {n : Nat} {k : Fin 32}

theorem State.onFrozenPage_of_makeup (hpage : ∀ run ∈ (s.story n).run, (s.page run.page).state = .makeup) :
    s.onFrozenPage n = false := by
  unfold State.onFrozenPage
  split
  next run hrun => rw [hpage run hrun]; rfl
  next => rfl

theorem Stage.editable_ne {st : Stage} (h : st = .basket ∨ st = .placed) : st ≠ .free ∧ st ≠ .spiked := by
  rcases h with rfl | rfl <;> decide

theorem State.hostOpen_done (hn : 1 ≤ n ∧ n ≤ 512) (hstage : (s.story n).stage = .basket ∨ (s.story n).stage = .placed)
    (hpage : ∀ run ∈ (s.story n).run, (s.page run.page).state = .makeup) (hholder : (s.story n).holder.atLine = false) :
    s.hostOpen n = (.done, openDetails s n, s.updStory n fun r => { r with holder := .channel }) := by
  obtain ⟨hfree, hspiked⟩ := Stage.editable_ne hstage
  simp [State.hostOpen, (storyOk_iff n).2 hn, hfree, hspiked, State.onFrozenPage_of_makeup hpage, hholder]

theorem State.lineOpen_done (hn : 1 ≤ n ∧ n ≤ 512) (hstage : (s.story n).stage = .basket ∨ (s.story n).stage = .placed)
    (hpage : ∀ run ∈ (s.story n).run, (s.page run.page).state = .makeup)
    (hrole : (s.line k).hasRole .reporter = true → (s.line k).onDesk (s.story n).desk = true)
    (hheld : (s.story n).holder = .absent ∧ (s.line k).held = none ∨ (s.story n).holder = .line k ∧ (s.line k).held = some n) :
    s.lineOpen k n = (.done, openDetails s n, s.openAtLine k n) := by
  obtain ⟨hfree, hspiked⟩ := Stage.editable_ne hstage
  have hfrozen := State.onFrozenPage_of_makeup hpage
  have hother : ((s.line k).held.isSome && (s.line k).held != some n) = false := by
    rcases hheld with ⟨-, h⟩ | ⟨-, h⟩ <;> simp [h]
  have hbars : (s.story n).holder.bars k = false := Holder.bars_eq_false (hheld.imp And.left And.left)
  have hallowed : ((s.line k).hasRole .reporter && !(s.line k).onDesk (s.story n).desk) = false := by
    by_cases h : (s.line k).hasRole .reporter = true
    · rw [hrole h]
      simp
    · rw [Bool.not_eq_true] at h
      rw [h]
      rfl
  rw [State.lineOpen]
  simp only [(storyOk_iff n).2 hn, hfree, hother, hspiked, hfrozen, hallowed, hbars]
  rfl

/-- What an OPEN carried out at a line leaves (R45). -/
theorem State.openAtLine_spec (hn : 1 ≤ n ∧ n ≤ 512)
    (hheld : (s.story n).holder = .absent ∧ (s.line k).held = none ∨ (s.story n).holder = .line k ∧ (s.line k).held = some n) :
    ∃ v : State, s.openAtLine k n = v.putWindow k n 0 ∧ OnlyTouches [.stories, .lines] s v ∧
      v.story n = { s.story n with holder := .line k } ∧ SameStoriesBut n s v ∧ SameLinesBut k s v ∧
      ∃ lamp, v.line k = { s.line k with held := some n, lamp := lamp } := by
  rcases hheld with ⟨hholder, -⟩ | ⟨hholder, hheld⟩
  · obtain ⟨hstory, hothers, hlines, hline⟩ := s.takeHold_spec k hn
    exact ⟨s.takeHold k n, by rw [State.openAtLine, if_pos hholder], s.takeHold_touches k n, hstory, hothers, hlines, hline⟩
  · refine ⟨s, by rw [State.openAtLine, if_neg (by rw [hholder]; simp)], .refl _ s, ?_, fun _ _ => rfl, fun _ _ => rfl,
      (s.line k).lamp, ?_⟩
    · rw [← hholder]
    · rw [← hheld]

end Open

/-- Settles O28: OPEN by the host and by a line. -/
theorem openTakesHold : Obligations.OpenTakesHold := by
  refine ⟨?_, ?_⟩
  · intro s tag n i r htakes hlow hhigh hstage hpage hholder
    have hact := State.hostOpen_done (s := s.offer i) ⟨hlow, hhigh⟩ (by simpa using hstage) (by simpa using hpage)
      (by rw [State.story_offer]; exact Holder.atLine_eq_false hholder)
    have hupd := (s.offer i).updStory_touches n fun r => { r with holder := .channel }
    rw [openDetails, State.story_offer] at hact
    obtain ⟨t, c, hstep, hreply, hraised, htouch, rfl⟩ := host_effect (act := fun s => s.hostOpen n) (ns := [])
      (ps := [.stories, .channel]) htakes hact hupd.channel (hupd.mono (by decide)) (by decide)
    refine ⟨_, hstep, hreply, hraised, htouch, ?_, fun m hm => ?_⟩
    · rw [State.withChannel_story, State.story_updStory_self _ ⟨hlow, hhigh⟩, State.story_offer]
    · rw [State.withChannel_story, State.story_updStory_ne _ hm, State.story_offer]
  · intro s k n i r htakes hlow hhigh hstage hpage hrole hheld
    have hfound := (State.offerFrame_asFound htakes).1
    have hoffer := s.offerFrame_touches k i
    have hheldOffer : ((s.offerFrame k i).story n).holder = .absent ∧ ((s.offerFrame k i).line k).held = none ∨
        ((s.offerFrame k i).story n).holder = .line k ∧ ((s.offerFrame k i).line k).held = some n := by
      rw [hoffer.story, hfound.held]
      exact hheld
    have hact := State.lineOpen_done (s := s.offerFrame k i) (k := k) ⟨hlow, hhigh⟩ (by rw [hoffer.story]; exact hstage)
      (by simp only [hoffer.story, hoffer.page]; exact hpage)
      (by rw [hoffer.story, Line.hasRole, Line.onDesk, hfound]; exact hrole) hheldOffer
    obtain ⟨v, hopen, hvtouch, hvstory, hvothers, hvlines, lamp, hvline⟩ :=
      State.openAtLine_spec (s := s.offerFrame k i) (k := k) ⟨hlow, hhigh⟩ hheldOffer
    rw [hopen, openDetails, hoffer.story] at hact
    have hput := v.putWindow_line k n 0
    rw [hvline] at hput
    obtain ⟨t, hstep, htouch, hserved, hlast, hsame, hline⟩ := line_effect (act := fun s => s.lineOpen k n)
      (ps := [.stories, .lines]) htakes hact (.of_eq (by rw [hput])) (by rw [hput])
      (hvtouch.trans (v.putWindow_touches k n 0) (by decide)) (by decide)
    refine ⟨t, hstep, hserved, htouch, fun m hm => ?_, ?_, fun m hm => ?_, ?_, windowShown_of_put hlast hline⟩
    · rw [hsame m hm, State.putWindow_sameLines _ _ _ _ m hm, hvlines m hm, State.offerFrame_sameLines htakes m hm]
    · rw [hlast.story, (v.putWindow_touches k n 0).story, hvstory, hoffer.story]
    · rw [hlast.story, (v.putWindow_touches k n 0).story, hvothers m hm, hoffer.story]
    · rw [hline, hput]

/-! ### CLOSE (R47) -/

theorem lineCloses {s : State} {k : Fin 32} {n : Nat} (htakes : s.takesFrame k (.terminalClose k) = true)
    (hheld : (s.line k).held = some n) (hn : 1 ≤ n ∧ n ≤ 512) (hholder : (s.story n).holder = .line k) :
    ∃ t, exec (.terminalClose k) s = .next t ∧ Served (.terminalClose k) k .done (u16 n) s t ∧ OnlyTouches [.stories, .lines] s t ∧
      SameLinesBut k s t ∧ t.story n = { s.story n with holder := .absent } ∧ SameStoriesBut n s t ∧
      (t.line k).held = none ∧ (t.line k).window = none ∧ HomeShown k t ∧
      ((t.line k).state = .ready →
        (t.line k).dimTimer = if (s.line k).dimTime = 0 then none else some (s.line k).dimTime) := by
  have hfound := (State.offerFrame_asFound htakes).1
  have hoffer := s.offerFrame_touches k (.terminalClose k)
  have hholder' : ((s.offerFrame k (.terminalClose k)).story n).holder = .line k := by rw [hoffer.story]; exact hholder
  have hact : (s.offerFrame k (.terminalClose k)).lineClose k =
      (.done, u16 n, ((s.offerFrame k (.terminalClose k)).releaseHold n).putOwnHome k) := by
    simp [State.lineClose, hfound.held, hheld]
  have hown : (s.offerFrame k (.terminalClose k)).releaseOwn k n =
      ((s.offerFrame k (.terminalClose k)).releaseHold n).putOwnHome k := if_pos hholder'
  have hrelease := (s.offerFrame k (.terminalClose k)).releaseOwn_touches k n
  obtain ⟨hstory, hothers, hlines, hsettled⟩ := State.releaseOwn_spec (s.offerFrame k (.terminalClose k)) k hn (.inr hholder')
  have hreleased := State.releaseHold_line_of_live hholder' k.isLt
  have htimer : ((s.offerFrame k (.terminalClose k)).releaseOwn k n |>.line k).dimTimer =
      ((s.offerFrame k (.terminalClose k)).line k).letGo.dimTimer ∧
      ((s.offerFrame k (.terminalClose k)).releaseOwn k n |>.line k).state =
      ((s.offerFrame k (.terminalClose k)).line k).state := by
    rw [hown, State.putOwnHome_line, hreleased]
    exact ⟨rfl, rfl⟩
  rw [← hown] at hact
  obtain ⟨t, hstep, htouch, hserved, hlast, hsame, hline⟩ := line_effect (act := fun s => s.lineClose k)
    (ps := [.stories, .lines]) htakes hact hsettled.sameSetup hsettled.service (hrelease.mono (by decide)) (by decide)
  obtain ⟨hnone, hwindow, hhome⟩ := (hsettled.answered (s := s.offerFrame k (.terminalClose k)) rfl hline).1 hholder'
  refine ⟨t, hstep, hserved, htouch, fun m hm => ?_, ?_, fun m hm => ?_, hnone, hwindow, hhome, fun hready => ?_⟩
  · rw [hsame m hm, hlines m hm, State.offerFrame_sameLines htakes m hm]
  · rw [hlast.story, hstory, hoffer.story]
  · rw [hlast.story, hothers m hm, hoffer.story]
  · have hstate : ((s.offerFrame k (.terminalClose k)).line k).state = .ready := by
      rw [← htimer.2, ← hready, hline]
    have hdim : ((s.offerFrame k (.terminalClose k)).line k).dimTime = (s.line k).dimTime := by rw [hfound]
    rw [hline]
    refine htimer.1.trans ?_
    rw [Line.letGo]
    dsimp only
    rw [if_pos hstate, hdim]
    rfl

/-! ### FREE (R51) -/

section Free
variable {s : State} {n k : Nat}

theorem State.withdraw_of_unlined (h : (s.story n).holder = .channel ∨ ∃ k user seconds, (s.story n).holder = .orphan k user seconds) :
    s.withdraw n = s.releaseHold n := by
  rcases h with h | ⟨k, user, seconds, h⟩ <;> simp only [State.withdraw, h]

theorem State.withdraw_of_live (h : (s.story n).holder = .line k) : s.withdraw n =
    ((s.releaseHold n).updLine k fun l => { l with withdrawn := some n }).refreshLine k := by
  simp only [State.withdraw, h]

theorem State.withdraw_stories (s : State) (n : Nat) : (s.withdraw n).stories = (s.releaseHold n).stories := by
  unfold State.withdraw
  split <;> rfl

theorem State.withdraw_touches' (s : State) (n : Nat) : OnlyTouches [.stories, .lines] s (s.withdraw n) := by
  unfold State.withdraw
  dsimp only
  split
  · exact ((s.releaseHold_touches n).trans (State.updLine_touches _ _ _) (by decide)).trans (State.refreshLine_touches _ _) (by decide)
  · exact s.releaseHold_touches n

theorem State.freeHold_done (hn : 1 ≤ n ∧ n ≤ 512) (hstage : (s.story n).stage ≠ .free) (hholder : (s.story n).holder ≠ .absent) :
    s.freeHold n = (.done, holderBytes (s.story n).holder, s.withdraw n) := by
  simp [State.freeHold, (storyOk_iff n).2 hn, hstage, hholder]

/-- The line whose live hold the host withdraws is told of it (R51, R93). -/
theorem State.withdraw_line (h : (s.story n).holder = .line k) (hk : k < 32) (hready : (s.line k).state = .ready) :
    SameLinesBut k s (s.withdraw n) ∧
      (s.withdraw n).line k = { s.line k with
        held := none, window := none, withdrawn := some n
        dimTimer := if (s.line k).dimTime = 0 then none else some (s.line k).dimTime
        status := ((s.withdraw n).line k).status, lamp := ((s.withdraw n).line k).lamp } ∧
      ∀ u ∈ (s.line k).user, ((s.withdraw n).line k).status = some ((s.withdraw n).statusLine k u (some n)) := by
  have hreleased := State.releaseHold_line_of_live h hk
  have hwithdrawn : ((s.releaseHold n).updLine k fun l => { l with withdrawn := some n }).line k = { s.line k with
      held := none, window := none, withdrawn := some n, lamp := ((s.releaseHold n).line k).lamp
      dimTimer := if (s.line k).dimTime = 0 then none else some (s.line k).dimTime } := by
    rw [State.line_updLine_self _ hk, hreleased, Line.letGo]
    dsimp only
    rw [if_pos hready]
    rfl
  rw [State.withdraw_of_live h]
  have hlines := (State.releaseHold_sameLines (.inl h)).trans
    (State.updLine_sameLines (s.releaseHold n) k fun l => { l with withdrawn := some n })
  generalize (s.releaseHold n).updLine k (fun l => { l with withdrawn := some n }) = b at *
  have hrefresh := State.line_refreshLine_self b ⟨k, hk⟩
  rw [if_pos (by rw [hwithdrawn]; exact hready), State.withStatus_eq] at hrefresh
  refine ⟨hlines.trans (b.refreshLine_sameLines k), ?_, fun u hu => ?_⟩
  · rw [hrefresh, hwithdrawn]
  · have huser : (b.line k).user = some u := by rw [hwithdrawn]; exact hu
    have hnote : (b.line k).withdrawn = some n := by rw [hwithdrawn]
    rw [hrefresh]
    dsimp only
    rw [huser, hnote, Option.map_some, Option.some_or]
    exact congrArg some ((b.refreshLine_touches k).statusLine k u (some n)).symm

end Free

theorem hostFrees {s : State} {tag : Byte} {n : Nat} (htakes : s.takes (.free tag n) = true) (hn : 1 ≤ n ∧ n ≤ 512)
    (hstage : (s.story n).stage ≠ .free) (hheld : (s.story n).holder ≠ .absent) :
    ∃ c, exec (.free tag n) s = .next (((s.offer (.free tag n)).withdraw n).withChannel c) ∧
      Replied (.free tag n) .done (holderBytes (s.story n).holder) s (((s.offer (.free tag n)).withdraw n).withChannel c) ∧
      Raised [] s (((s.offer (.free tag n)).withdraw n).withChannel c) ∧
      OnlyTouches [.stories, .lines, .channel] s (((s.offer (.free tag n)).withdraw n).withChannel c) := by
  have hact := State.freeHold_done (s := s.offer (.free tag n)) hn (by simpa using hstage) (by simpa using hheld)
  rw [State.story_offer] at hact
  have htouch := State.withdraw_touches' (s.offer (.free tag n)) n
  obtain ⟨t, c, hstep, hreply, hraised, htouches, rfl⟩ := host_effect (act := fun s => s.freeHold n) (ns := [])
    (ps := [.stories, .lines, .channel]) htakes hact htouch.channel (htouch.mono (by decide)) (by decide)
  exact ⟨c, hstep, hreply, hraised, htouches⟩

/-- Settles O30: CLOSE, FREE, and an orphan's expiry. -/
theorem holdsReleased : Obligations.HoldsReleased := by
  refine ⟨fun s k n htakes hheld hlow hhigh hholder => lineCloses htakes hheld ⟨hlow, hhigh⟩ hholder, ?_, ?_⟩
  · intro s tag n i h htakes hlow hhigh hstage hheld
    obtain ⟨c, hstep, hreply, hraised, htouch⟩ := hostFrees htakes ⟨hlow, hhigh⟩ hstage hheld
    have hoffer := s.offer_touches i
    have hstories := State.withdraw_stories (s.offer i) n
    refine ⟨_, hstep, hreply, hraised, htouch, ?_, fun m hm => ?_, fun hchannel => ?_, fun k user seconds hk horphan => ?_,
      fun k hk hlive hready => ?_⟩
    · rw [State.withChannel_story, State.story_congr hstories, State.releaseHold_story ⟨hlow, hhigh⟩, hoffer.story]
    · rw [State.withChannel_story, State.story_congr hstories, State.releaseHold_sameStories _ n m hm, hoffer.story]
    · have hholder : ((s.offer i).story n).holder = .channel := by rw [hoffer.story]; exact hchannel
      have hlines := State.releaseHold_lines (.inr hholder)
      rw [← State.withdraw_of_unlined (.inl hholder)] at hlines
      exact hlines.trans hoffer.lines
    · have hholder : ((s.offer i).story n).holder = .orphan k user seconds := by rw [hoffer.story]; exact horphan
      have hline := State.releaseHold_line_of_orphan hholder hk
      have hsame := State.releaseHold_sameLines (k := k) (.inr ⟨user, seconds, hholder⟩)
      rw [← State.withdraw_of_unlined (.inr ⟨k, user, seconds, hholder⟩)] at hline hsame
      rw [hoffer.line] at hline
      exact ⟨fun m hm => (hsame m hm).trans (hoffer.line m), hline⟩
    · have hholder : ((s.offer i).story n).holder = .line k := by rw [hoffer.story]; exact hlive
      obtain ⟨hsame, hline, hstatus⟩ := State.withdraw_line hholder hk (by rw [hoffer.line]; exact hready)
      rw [hoffer.line] at hline hstatus
      exact ⟨fun m hm => (hsame m hm).trans (hoffer.line m), hline, hstatus⟩
  · intro s n k user seconds hholder hlow hhigh hk
    have hexec : exec (.orphanExpiry n) s = .next (if seconds ≤ 1 then s.orphanExpires n user k else s) := by
      have hmatch : exec (.orphanExpiry n) s = execOrphanExpiry n s := rfl
      rw [hmatch, execOrphanExpiry, hholder]
    refine ⟨_, hexec, ?_⟩
    by_cases hlong : 1 < seconds
    · rw [if_pos hlong, if_neg (by omega)]
    · rw [if_neg hlong, if_pos (by omega)]
      have hrelease := s.releaseHold_touches n
      have hraise := (s.releaseHold n).raise_touches (.orphan n user k)
      refine ⟨(hrelease.mono (by decide)).trans hraise (by decide), ?_, ?_, fun m hm => ?_, fun m hm => ?_, ?_⟩
      · rw [OnlyRaised, ← hrelease.channel]
        rfl
      · exact State.releaseHold_story ⟨hlow, hhigh⟩
      · exact State.releaseHold_sameStories s n m hm
      · exact State.releaseHold_sameLines (.inr ⟨user, seconds, hholder⟩) m hm
      · exact State.releaseHold_line_of_orphan hholder hk

end Sys2Proof.Machine

/-! The configuration and the carrier of terminal lines: LINESET, LINESTAT, LINEON, LINEOFF, and the loss and return of carrier
(R52, R53, R62 to R67, R70). -/

namespace Sys2Proof.Machine

section Lamp
variable {s : State} {k : Nat}

theorem State.lampAnew_sameLines (s : State) (k : Nat) : SameLinesBut k s (s.lampAnew k) := fun m hm => by
  simp [State.lampAnew, State.line_lamps, hm]

/-- A lamp set anew is what lights it then (R99). -/
theorem State.lampAnew_line (s : State) (hk : k < 32) : (s.lampAnew k).line k =
    { s.line k with lamp := (s.lampAnew k).lampLit k ((s.lampAnew k).line k) } := by
  have hline : (s.lampAnew k).line k = { s.line k with lamp := s.lampLit k (s.line k) } := by
    simp [State.lampAnew, State.line_lamps, hk]
  have hlit : (s.lampAnew k).lampLit k ((s.lampAnew k).line k) = s.lampLit k (s.line k) := by
    rw [hline, State.lampLit_lamp]
    exact State.lampLit_congr rfl rfl rfl rfl k _
  rw [hlit, hline]

end Lamp

/-! ### LINESET and LINESTAT (R62, R70) -/

theorem clampDim_eq (v : Nat) :
    clampDim v = if v = 0 then 0 else if v < 60 then 60 else if 3600 < v then 3600 else v := by
  rw [clampDim, clamp_eq (by decide)]

theorem dimTime_getD (old : Nat) (dimTime : Option Nat) : (match dimTime with
    | none => old
    | some v => if v = 0 then 0 else if v < 60 then 60 else if 3600 < v then 3600 else v) =
    (dimTime.map clampDim).getD old := by
  cases dimTime with
  | none => rfl
  | some v => exact (clampDim_eq v).symm

theorem Line.configure_eq (l : Line) (speed model dimTime : Option Nat) (wakeFlash wakeUrgent : Option Bool) :
    l.configure speed model dimTime wakeFlash wakeUrgent = { l with
      speed := speed.getD l.speed, model := model.getD l.model, dimTime := (dimTime.map clampDim).getD l.dimTime
      wakeFlash := wakeFlash.getD l.wakeFlash, wakeUrgent := wakeUrgent.getD l.wakeUrgent
      dimTimer := if l.state = .ready ∧ dimTime.isSome = true then dimSet ((dimTime.map clampDim).getD l.dimTime)
        else l.dimTimer } := by
  rw [Line.configure]
  split <;> rfl

theorem lineNumberOk_of_lt {k : Nat} (hk : k < 32) : lineNumberOk k = true := decide_eq_true hk

section Settings
variable {s : State} {k : Nat} {speed model dimTime wakeFlash wakeUrgent : Option Nat}

theorem State.lineset_done (hk : k < 32) (hspeed : ∀ v ∈ speed, v ∈ [1200, 2400, 4800, 9600, 19200])
    (hmodel : ∀ m ∈ model, m ≤ 1) (hflash : ∀ c ∈ wakeFlash, c ≤ 1) (hurgent : ∀ c ∈ wakeUrgent, c ≤ 1)
    (hfixed : (s.line k).state = .disabled ∨ speed = none ∧ model = none) :
    s.lineset k speed model dimTime wakeFlash wakeUrgent =
      (.done, configBytes ((s.line k).configure speed model dimTime (wakeFlash.map fun c => c == 0)
        (wakeUrgent.map fun c => c == 0)),
        s.updLine k fun l => l.configure speed model dimTime (wakeFlash.map fun c => c == 0)
          (wakeUrgent.map fun c => c == 0)) := by
  have hspeedOk : speed.all speedOk = true := by
    cases speed with
    | none => rfl
    | some v => simpa [speedOk, or_assoc] using hspeed v rfl
  have hmodelOk : optWithin 0 1 model = true := optWithin_iff.2 fun m hm => ⟨Nat.zero_le m, hmodel m hm⟩
  have hlegal : ((speed.isSome || model.isSome) && (s.line k).state != .disabled) = false := by
    rcases hfixed with h | ⟨rfl, rfl⟩
    · simp [h]
    · rfl
  simp [State.lineset, flagField_of_ok hflash, flagField_of_ok hurgent, lineNumberOk_of_lt hk, hspeedOk, hmodelOk, hlegal,
    State.line_updLine_self _ hk]

/-- The effect of a LINESTAT (R70): the line's latches cleared, and an ERROR lamp set anew if one of them was set. -/
def State.latchesRead (s : State) (k : Nat) : State :=
  if (s.line k).latches.any then (s.updLine k fun l => { l with latches := .clear }).lampIf k .error
  else s.updLine k fun l => { l with latches := .clear }

theorem State.linestat_done (hk : k < 32) : s.linestat k = (.done, lineBytes s (s.line k), s.latchesRead k) := by
  simp [State.linestat, lineNumberOk_of_lt hk, State.latchesRead]

theorem State.latchesRead_touches (s : State) (k : Nat) : OnlyTouches [.lines] s (s.latchesRead k) := by
  unfold State.latchesRead
  split
  · exact (s.updLine_touches k _).trans (State.lampIf_touches _ k _) (by decide)
  · exact s.updLine_touches k _

theorem State.latchesRead_sameLines (s : State) (k : Nat) : SameLinesBut k s (s.latchesRead k) := by
  unfold State.latchesRead
  split
  · exact (State.updLine_sameLines _ k _).trans (State.lampIf_sameLines _ k _)
  · exact State.updLine_sameLines _ k _

theorem lineBytes_congr {t : State} (h : t.stories = s.stories) (l : Line) : lineBytes t l = lineBytes s l := by
  have horphan : t.holdsOrphan l = s.holdsOrphan l := by simp only [State.holdsOrphan, State.story_congr h]
  rw [lineBytes, lineBytes, horphan]

theorem State.lampLit_of_clear {l : Line} (hsource : l.lampSource = .error) (hlatches : l.latches = .clear) :
    s.lampLit k l = false := by
  simp only [State.lampLit, hsource, hlatches]
  split <;> rfl

/-- The line past a LINESTAT (R70, R99). -/
theorem State.latchesRead_line (hk : k < 32) : (s.latchesRead k).line k = { s.line k with
    latches := .clear
    lamp := if (s.line k).latches.any = true ∧ (s.line k).lampSource = .error then false else (s.line k).lamp } := by
  unfold State.latchesRead
  by_cases hany : (s.line k).latches.any = true
  · rw [if_pos hany, State.line_lampIf_self _ ⟨k, hk⟩, State.line_updLine_self _ hk]
    refine congrArg (fun lamp => { s.line k with latches := .clear, lamp := lamp }) ?_
    by_cases hsource : (s.line k).lampSource = .error
    · simp only [hany, hsource, and_self, if_true]
      exact State.lampLit_of_clear rfl rfl
    · simp only [hsource, and_false, if_false]
  · simp only [hany, false_and, if_false, State.line_updLine_self _ hk, Bool.false_eq_true]

end Settings

/-- Settles O32: LINESET, then LINESTAT. -/
theorem lineSettings : Obligations.LineSettings := by
  constructor
  · intro s tag k speed model dimTime wakeFlash wakeUrgent i l htakes hk hspeed hmodel hflash hurgent hfixed
    have hact := State.lineset_done (s := s.offer i) (dimTime := dimTime) hk hspeed hmodel hflash hurgent
      (by simpa using hfixed)
    obtain ⟨t, c, hstep, hreply, hraised, htouch, rfl⟩ := host_effect
      (act := fun s => s.lineset k speed model dimTime wakeFlash wakeUrgent) (ns := []) (ps := [.lines, .channel]) htakes hact
      rfl ((State.updLine_touches _ k _).mono (by decide)) (by decide)
    have hline : (((s.offer i).updLine k fun l => l.configure speed model dimTime (wakeFlash.map fun c => c == 0)
        (wakeUrgent.map fun c => c == 0)).withChannel c).line k =
        (s.line k).configure speed model dimTime (wakeFlash.map fun c => c == 0) (wakeUrgent.map fun c => c == 0) := by
      rw [State.withChannel_line, State.line_updLine_self _ hk, State.line_offer]
    refine ⟨_, hstep, ?_, hraised, htouch, fun m hm => ?_, ?_⟩
    · rw [hline]
      rwa [State.line_offer] at hreply
    · rw [State.withChannel_line, State.line_updLine_ne _ hm, State.line_offer]
    · intro dim
      have hdim : dim = (dimTime.map clampDim).getD l.dimTime := dimTime_getD l.dimTime dimTime
      rw [hline, Line.configure_eq, hdim]
  · intro s tag k i htakes hk
    have hact := State.linestat_done (s := s.offer i) hk
    have htouch := (s.offer i).latchesRead_touches k
    obtain ⟨t, c, hstep, hreply, hraised, htouches, rfl⟩ := host_effect (act := fun s => s.linestat k) (ns := [])
      (ps := [.lines, .channel]) htakes hact htouch.channel (htouch.mono (by decide)) (by decide)
    have hline := State.latchesRead_line (s := s.offer i) hk
    rw [State.line_offer] at hline hreply
    rw [lineBytes_congr (s.offer_touches i).stories] at hreply
    refine ⟨_, hstep, hreply, hraised, htouches, fun m hm => ?_, ?_, ?_⟩
    · rw [State.withChannel_line, State.latchesRead_sameLines _ k m hm, State.line_offer]
    · rw [State.withChannel_line, hline]
    · rw [State.withChannel_line, hline]

end Sys2Proof.Machine

/-! Lines enabled and disabled, and their loss and return of carrier (R52, R53, R63 to R67). -/

namespace Sys2Proof.Machine

section Held
variable {s : State} {k : Nat}

theorem State.releaseHeld_of_held {n : Nat} (h : (s.line k).held = some n) : s.releaseHeld k = s.releaseHold n := by
  simp only [State.releaseHeld, h]

theorem State.releaseHeld_of_none (h : (s.line k).held = none) : s.releaseHeld k = s := by
  simp only [State.releaseHeld, h]

theorem State.releaseHeld_sameLines (hagrees : HoldAgrees k s) : SameLinesBut k s (s.releaseHeld k) := by
  cases hheld : (s.line k).held with
  | none => rw [State.releaseHeld_of_none hheld]; exact fun _ _ => rfl
  | some n => rw [State.releaseHeld_of_held hheld]; exact State.releaseHold_sameLines (hagrees n hheld).2.2

/-- The line whose hold goes with its session keeps all but the hold, its window record, its dim timer and its lamp (R52). -/
theorem State.releaseHeld_line (hagrees : HoldAgrees k s) (hk : k < 32) : ∃ window dimTimer lamp,
    (s.releaseHeld k).line k = { s.line k with held := none, window := window, dimTimer := dimTimer, lamp := lamp } := by
  cases hheld : (s.line k).held with
  | none =>
    rw [State.releaseHeld_of_none hheld]
    exact ⟨(s.line k).window, (s.line k).dimTimer, (s.line k).lamp, by rw [← hheld]⟩
  | some n =>
    rw [State.releaseHeld_of_held hheld]
    rcases (hagrees n hheld).2.2 with h | ⟨user, seconds, h⟩
    · exact ⟨_, _, _, State.releaseHold_line_of_live h hk⟩
    · exact ⟨_, _, _, State.releaseHold_line_of_orphan h hk⟩

theorem State.releaseHeld_freed (hagrees : HoldAgrees k s) : HeldStoryFreed k s (s.releaseHeld k) := by
  cases hheld : (s.line k).held with
  | none =>
    rw [State.releaseHeld_of_none hheld]
    exact ⟨by simp [hheld], fun _ _ => rfl⟩
  | some n =>
    obtain ⟨hlow, hhigh, -⟩ := hagrees n hheld
    rw [State.releaseHeld_of_held hheld]
    refine ⟨fun m hm => ?_, fun m hm => ?_⟩
    · obtain rfl : n = m := Option.some.inj (hheld.symm.trans hm)
      exact State.releaseHold_story ⟨hlow, hhigh⟩
    · exact State.releaseHold_sameStories s n m fun h => hm (by rw [hheld, h])

theorem HeldStoryFreed.congr {a t u : State} (h : HeldStoryFreed k a t) (hline : (a.line k).held = (s.line k).held)
    (hstory : ∀ n, a.story n = s.story n) (hend : ∀ n, u.story n = t.story n) : HeldStoryFreed k s u := by
  obtain ⟨hfreed, hothers⟩ := h
  refine ⟨fun n hn => ?_, fun m hm => ?_⟩
  · rw [hend, hfreed n (by rw [hline]; exact hn), hstory]
  · rw [hend, hothers m (by rw [hline]; exact hm), hstory]

end Held

/-! ### LINEON and LINEOFF (R63, R64) -/

section Power
variable {s : State} {k : Nat}

theorem State.lineon_done (hk : k < 32) (hstate : (s.line k).state = .disabled) :
    s.lineon k = (.done, u8 ((s.enable k).line k).state.code, s.enable k) := by
  simp [State.lineon, lineNumberOk_of_lt hk, hstate]

theorem State.enable_channel (s : State) (k : Nat) : (s.enable k).channel =
    (if (s.line k).carrier = true then [] else [Notice.line k .lost 0]).foldl Channel.raise s.channel := by
  unfold State.enable
  split <;> rfl

theorem State.enable_sameLines (s : State) (k : Nat) : SameLinesBut k s (s.enable k) := by
  unfold State.enable
  split <;> exact (State.updLine_sameLines _ k _).trans (State.lampAnew_sameLines _ k)

theorem State.enable_line (hk : k < 32) : (s.enable k).line k = { s.line k with
    state := if (s.line k).carrier = true then .idle else .lost
    display := if (s.line k).carrier = true then some .blank else (s.line k).display
    lamp := (s.enable k).lampLit k ((s.enable k).line k) } := by
  by_cases hcarrier : (s.line k).carrier = true
  · simp only [State.enable, if_pos hcarrier]
    exact (State.lampAnew_line _ hk).trans (by rw [State.line_updLine_self _ hk])
  · simp only [State.enable, if_neg hcarrier]
    refine (State.lampAnew_line _ hk).trans ?_
    rw [State.line_updLine_self _ hk]
    rfl

/-- A line shut, but for the notice (R64). -/
def State.shutQuiet (s : State) (k : Nat) : State := ((s.releaseHeld k).updLine k Line.disable).unseeLine k

theorem State.shutLine_eq (s : State) (k : Nat) : s.shutLine k =
    if (s.line k).state = .lost then (s.shutQuiet k).raise (.line k .disabled 0) else s.shutQuiet k := (rfl)

theorem State.shutQuiet_touches (s : State) (k : Nat) : OnlyTouches [.stories, .lines, .flashes] s (s.shutQuiet k) :=
  (((s.releaseHeld_touches k).mono (by decide)).trans (State.updLine_touches _ k _) (by decide)).trans
    (State.unseeLine_touches _ k) (by decide)

theorem State.shutLine_lines (s : State) (k : Nat) : (s.shutLine k).lines = (s.shutQuiet k).lines := by
  rw [State.shutLine_eq]
  split <;> rfl

theorem State.shutLine_stories (s : State) (k : Nat) : (s.shutLine k).stories = (s.shutQuiet k).stories := by
  rw [State.shutLine_eq]
  split <;> rfl

theorem State.shutLine_flashes (s : State) (k : Nat) : (s.shutLine k).flashes = unseenWithout k s.flashes := by
  have hquiet : (s.shutQuiet k).flashes = unseenWithout k s.flashes :=
    congrArg (unseenWithout k) (((s.releaseHeld_touches k).trans (State.updLine_touches _ k _) (by decide)).flashes)
  rw [← hquiet, State.shutLine_eq]
  split <;> rfl

theorem State.shutLine_channel (s : State) (k : Nat) : (s.shutLine k).channel =
    (if (s.line k).state = .lost then [Notice.line k .disabled 0] else []).foldl Channel.raise s.channel := by
  rw [State.shutLine_eq, ← (s.shutQuiet_touches k).channel]
  split <;> rfl

theorem State.shutLine_line (hagrees : HoldAgrees k s) (hk : k < 32) : (s.shutLine k).line k =
    { (s.line k).sessionless with state := .disabled, held := none, latches := .clear, lamp := false } := by
  obtain ⟨window, dimTimer, lamp, hline⟩ := State.releaseHeld_line hagrees hk
  rw [State.line_of_lines (s.shutLine_lines k), State.shutQuiet, State.unseeLine_line, State.line_updLine_self _ hk, hline]
  rfl

theorem State.shutLine_sameLines (hagrees : HoldAgrees k s) : SameLinesBut k s (s.shutLine k) := fun m hm => by
  rw [State.line_of_lines (s.shutLine_lines k), State.shutQuiet, State.unseeLine_line, State.line_updLine_ne _ hm,
    State.releaseHeld_sameLines hagrees m hm]

theorem State.lineoff_of_disabled (hk : k < 32) (hstate : (s.line k).state = .disabled) : s.lineoff k = (.done, [], s) := by
  simp [State.lineoff, lineNumberOk_of_lt hk, hstate]

theorem State.lineoff_of_enabled (hk : k < 32) (hstate : (s.line k).state ≠ .disabled) :
    s.lineoff k = (.done, [], s.shutLine k) := by
  simp [State.lineoff, lineNumberOk_of_lt hk, hstate]

theorem HoldAgrees.offer (h : HoldAgrees k s) (i : Instr) : HoldAgrees k (s.offer i) := by
  simpa only [HoldAgrees, State.line_offer, State.story_offer] using h

end Power

/-- Settles O33: LINEON, then LINEOFF. -/
theorem lineonAndLineoff : Obligations.LineonAndLineoff := by
  constructor
  · intro s tag k i l htakes hk hstate
    have hact := State.lineon_done (s := s.offer i) hk (by rw [State.line_offer]; exact hstate)
    have hline := State.enable_line (s := s.offer i) hk
    have hcode : ((s.offer i).enable k |>.line k).state.code = if l.carrier = true then 1 else 5 := by
      rw [hline, State.line_offer]
      dsimp only
      split <;> rfl
    rw [hcode] at hact
    obtain ⟨t, c, hstep, hreply, hraised, htouch, rfl⟩ := host_effect (act := fun s => s.lineon k) htakes hact
      (State.enable_channel _ k) (State.enable_touches _ k) (by decide)
    rw [State.line_offer] at hline hraised
    refine ⟨_, hstep, hreply, hraised, htouch, fun m hm => ?_, ?_⟩
    · rw [State.withChannel_line, State.enable_sameLines _ k m hm, State.line_offer]
    · rw [State.withChannel_lampLit, State.withChannel_line]
      exact hline
  · intro s tag k i l htakes hk hagrees
    by_cases hstate : l.state = .disabled
    · have hact := State.lineoff_of_disabled (s := s.offer i) hk (by rw [State.line_offer]; exact hstate)
      obtain ⟨t, hstep, hreply, hraised, htouch⟩ := host_read (act := fun s => s.lineoff k) htakes hact
      exact ⟨t, hstep, hreply, by rw [if_pos hstate]; exact ⟨htouch, hraised⟩⟩
    · have hact := State.lineoff_of_enabled (s := s.offer i) hk (by rw [State.line_offer]; exact hstate)
      have hagrees' := hagrees.offer i
      have hline := State.shutLine_line hagrees' hk
      have hfreed := State.releaseHeld_freed hagrees'
      obtain ⟨t, c, hstep, hreply, hraised, htouch, rfl⟩ := host_effect (act := fun s => s.lineoff k) htakes hact
        (State.shutLine_channel _ k) (State.shutLine_touches _ k) (by decide)
      rw [State.line_offer] at hline hraised
      refine ⟨_, hstep, hreply, ?_⟩
      rw [if_neg hstate]
      refine ⟨htouch, hraised, fun m hm => ?_, hline, hfreed.congr (by rw [State.line_offer]) (State.story_offer _ _)
        fun n => ?_, ?_⟩
      · rw [State.withChannel_line, State.shutLine_sameLines hagrees' m hm, State.line_offer]
      · rw [State.withChannel_story, State.story_congr (State.shutLine_stories _ k)]
        rfl
      · rw [State.withChannel_flashes, State.shutLine_flashes, State.flashes_offer]

/-! ### Carrier (R53, R65, R66) -/

section Carrier
variable {s : State} {k : Nat}

theorem State.orphanHeld_of_unheld (h : (s.line k).state ≠ .ready ∨ (s.line k).held = none) : s.orphanHeld k = s := by
  rcases h with h | h
  · simp only [State.orphanHeld, if_neg h]
  · simp only [State.orphanHeld, h, ite_self]

theorem State.loseCarrier_stories (s : State) (k : Nat) : (s.loseCarrier k).stories = (s.orphanHeld k).stories := (rfl)

theorem State.loseCarrier_line (hk : k < 32) : (s.loseCarrier k).line k = { (s.line k).sessionless with
    state := .lost, carrier := false, lamp := (s.loseCarrier k).lampLit k ((s.loseCarrier k).line k) } := by
  refine (State.lampAnew_line _ hk).trans ?_
  rw [State.unseeLine_line, State.line_updLine_self _ hk, (s.orphanHeld_touches k).line]
  rfl

theorem State.loseCarrier_sameLines (s : State) (k : Nat) : SameLinesBut k s (s.loseCarrier k) := fun m hm => by
  refine (State.lampAnew_sameLines _ k m hm).trans ?_
  rw [State.unseeLine_line, State.line_updLine_ne _ hm, (s.orphanHeld_touches k).line]

theorem State.loseCarrier_flashes (s : State) (k : Nat) : (s.loseCarrier k).flashes = unseenWithout k s.flashes :=
  congrArg (unseenWithout k) (s.orphanHeld_touches k).flashes

theorem State.loseCarrier_channel (s : State) (k : Nat) :
    OnlyRaised [.line k .lost ((s.line k).held.getD 0)] s (s.loseCarrier k) :=
  congrArg (fun c : Channel => c.raise (.line k .lost ((s.line k).held.getD 0))) (s.orphanHeld_touches k).channel

theorem State.regainCarrier_line (hk : k < 32) : (s.regainCarrier k).line k = { s.line k with
    state := .idle, carrier := true, display := some .blank
    lamp := (s.regainCarrier k).lampLit k ((s.regainCarrier k).line k) } := by
  refine (State.lampAnew_line _ hk).trans ?_
  rw [State.line_updLine_self _ hk]
  rfl

theorem State.regainCarrier_sameLines (s : State) (k : Nat) : SameLinesBut k s (s.regainCarrier k) :=
  (State.updLine_sameLines s k _).trans (State.lampAnew_sameLines _ k)

theorem LineState.receiving_iff (v : LineState) : v.receiving = true ↔ ¬(v = .disabled ∨ v = .lost) := by
  cases v <;> simp [LineState.receiving]

theorem execCarrierDrop_of_closed {k : Fin 32} (h : (s.line k).state = .disabled ∨ (s.line k).state = .lost) :
    execCarrierDrop k s = .next (s.updLine k fun l => { l with carrier := false }) := by
  have hdeaf : ¬(s.line k).state.receiving = true := fun hreceiving => (LineState.receiving_iff _).1 hreceiving h
  simp only [execCarrierDrop, if_neg hdeaf]

end Carrier

/-- Settles O34: a drop of carrier, then its return. -/
theorem carrierDropAndReturn : Obligations.CarrierDropAndReturn := by
  constructor
  · intro s k l hagrees
    by_cases hclosed : l.state = .disabled ∨ l.state = .lost
    · refine ⟨_, execCarrierDrop_of_closed hclosed, State.updLine_sameLines s k _, ?_⟩
      rw [if_pos hclosed]
      exact ⟨State.updLine_touches s k _, State.line_updLine_self s k.isLt _⟩
    · refine ⟨_, execCarrierDrop_of_receiving ((LineState.receiving_iff _).2 hclosed), s.loseCarrier_sameLines k, ?_⟩
      rw [if_neg hclosed]
      refine ⟨State.loseCarrier_touches s k, s.loseCarrier_channel k, State.loseCarrier_line k.isLt, s.loseCarrier_flashes k,
        fun n u hready hheld huser => ⟨?_, fun m hm => ?_⟩, fun hfree => ?_⟩
      · obtain ⟨hlow, hhigh, -⟩ := hagrees n hheld
        rw [State.loseCarrier_story, State.orphanHeld_of_held hready hheld huser, State.story_updStory_self _ ⟨hlow, hhigh⟩]
      · rw [State.loseCarrier_story, State.orphanHeld_of_held hready hheld huser, State.story_updStory_ne _ hm]
      · rw [State.loseCarrier_stories, State.orphanHeld_of_unheld hfree]
  · intro s k l
    by_cases hlost : l.state = .lost
    · have hexec : exec (.carrierReturn k) s = .next (s.regainCarrier k) := congrArg Host.Outcome.next (if_pos hlost)
      refine ⟨_, hexec, ?_, s.regainCarrier_sameLines k, ?_⟩
      · exact (((s.updLine_touches k _).mono (by decide)).trans (State.lampAnew_touches _ k) (by decide)).trans
          (State.raise_touches _ _) (by decide)
      · rw [if_pos hlost]
        exact ⟨rfl, State.regainCarrier_line k.isLt⟩
    · have hexec : exec (.carrierReturn k) s = .next (s.updLine k fun l => { l with carrier := true }) :=
        congrArg Host.Outcome.next (if_neg hlost)
      refine ⟨_, hexec, (State.updLine_touches s k _).mono (by decide), State.updLine_sameLines s k _, ?_⟩
      rw [if_neg hlost]
      exact ⟨rfl, State.line_updLine_self s k.isLt _⟩

end Sys2Proof.Machine

/-! Sessions begun and ended short of a grant: SIGNON, DENY, the sign-on timeout, SIGNOFF, ARM and the dimming of a line (R27, R52,
R74 to R80). -/

namespace Sys2Proof.Machine

/-! ### SIGNON and how it ends without a grant (R74, R75, R77, R78) -/

section Signon
variable {s : State}

/-- An IDLE line's SIGNON in service: nothing else of the line has moved (R71). -/
theorem State.offerFrame_line_of_idle {k : Fin 32} {i : Instr} (htakes : s.takesFrame k i = true)
    (hidle : (s.line k).state = .idle) (hkind : ∀ v ∈ (s.line k).service, v.kind = i.kind) :
    (s.offerFrame k i).line k = { s.line k with service := some { kind := i.kind, cmd := some i, stage := .waiting } } := by
  obtain ⟨hwaiting, heq⟩ | ⟨-, ⟨-, heq⟩ | ⟨hready, -⟩ | ⟨hdim, -⟩⟩ := State.offerFrame_cases htakes
  · obtain ⟨kind, hservice⟩ := State.waiting_iff.1 hwaiting
    obtain rfl : kind = i.kind := hkind _ hservice
    rw [heq, ← hservice]
  · rw [heq, State.intoService, State.line_updLine_self _ k.isLt]
  · exact absurd (hidle.symm.trans hready) (by decide)
  · exact absurd (hidle.symm.trans hdim) (by decide)

theorem execSignon_of_user {k : Fin 32} {user : Nat} (htakes : s.takesFrame k (.signon k user) = true) (hlow : 1 ≤ user)
    (hhigh : user ≤ 9999) :
    exec (.signon k user) s = .next ((s.offerFrame k (.signon k user)).beginSignon k user) := by
  have hexec : exec (.signon k user) s = execSignon k user s := rfl
  have huser : within 1 9999 user = true := by simp [within, hlow, hhigh]
  simp only [hexec, execSignon, htakes, huser, if_true]

theorem State.beginSignon_line (s : State) (k : Fin 32) (user : Nat) : (s.beginSignon k user).line k = { s.line k with
    state := .signing, signonUser := some user, outcome := .pending, signonTimer := some 30
    service := (s.line k).service.map fun v => { v with stage := .taken } } := by
  rw [State.beginSignon, State.raise_line, State.line_updLine_self _ k.isLt]
  rfl

theorem State.beginSignon_channel (s : State) (k user : Nat) :
    (s.beginSignon k user).channel = s.channel.raise (.signon k user) := (rfl)

theorem State.beginSignon_sameLines (s : State) (k user : Nat) : SameLinesBut k s (s.beginSignon k user) :=
  fun m hm => by rw [State.beginSignon, State.raise_line, State.line_updLine_ne _ hm]

theorem State.deny_line (s : State) (k : Fin 32) : SignonEnded k .denied .denied s (s.deny k) := by
  rw [SignonEnded, State.deny, State.line_answerService, State.line_updLine_self _ k.isLt, if_neg (by decide)]

theorem State.signonExpires_line (s : State) (k : Fin 32) : SignonEnded k .timedOut .noAnswer s (s.signonExpires k) := by
  rw [SignonEnded, State.signonExpires, State.line_answerService, State.line_updLine_self _ k.isLt, if_neg (by decide)]

theorem State.deny_sameLines (s : State) (k : Nat) : SameLinesBut k s (s.deny k) :=
  (s.updLine_sameLines k _).trans (State.updLine_sameLines _ k _)

theorem State.signonExpires_sameLines (s : State) (k : Nat) : SameLinesBut k s (s.signonExpires k) :=
  (s.updLine_sameLines k _).trans (State.updLine_sameLines _ k _)

theorem State.lateVerdict_eq (s : State) (k : Nat) : s.lateVerdict k =
    refuse s (if (s.line k).outcome = .timedOut ∨ (s.line k).outcome = .abandoned then .tooLate else .state) := by
  cases h : (s.line k).outcome <;> simp [State.lateVerdict, h]

theorem State.verdictDeny_done {k : Nat} (hk : k < 32) (hstate : (s.line k).state = .signing) :
    s.verdictDeny k = (.done, [], s.deny k) := by
  simp [State.verdictDeny, lineNumberOk_of_lt hk, hstate]

theorem State.verdictDeny_late {k : Nat} (hk : k < 32) (hstate : (s.line k).state ≠ .signing) :
    s.verdictDeny k = s.lateVerdict k := by
  simp [State.verdictDeny, lineNumberOk_of_lt hk, hstate]

theorem State.verdictGrant_late {k desk role : Nat} (hk : k < 32) (hdesk : desk < 16) (hrole : role ≤ 2)
    (hstate : (s.line k).state ≠ .signing) : s.verdictGrant k desk role = s.lateVerdict k := by
  have hdeskOk : deskOk desk = true := (deskOk_iff desk).2 (Nat.le_of_lt_succ hdesk)
  interval_cases role <;> simp [State.verdictGrant, Role.ofCode, lineNumberOk_of_lt hk, hdeskOk, hstate]

theorem lateVerdict_replied {i : Instr} {act : State → Verdict} {k : Nat} (htakes : s.takes i = true)
    (hact : act (s.offer i) = (s.offer i).lateVerdict k) : ∃ t, hostStep i act s = .next t ∧ OnlyTouches [.channel] s t ∧
      Replied i (if (s.line k).outcome = .timedOut ∨ (s.line k).outcome = .abandoned then .tooLate else .state) [] s t := by
  rw [State.lateVerdict_eq, State.line_offer] at hact
  obtain ⟨t, hstep, -, hreply, htouch⟩ := host_refused htakes hact
  exact ⟨t, hstep, htouch, hreply⟩

end Signon

theorem lineSignsOn {s : State} {k : Fin 32} {user : Nat} (htakes : s.takesFrame k (.signon k user) = true)
    (hidle : (s.line k).state = .idle) (hkind : ∀ v ∈ (s.line k).service, v.kind = (Instr.signon k user).kind) (hlow : 1 ≤ user)
    (hhigh : user ≤ 9999) :
    ∃ t, exec (.signon k user) s = .next t ∧ OnlyTouches [.lines, .channel] s t ∧ OnlyRaised [.signon k user] s t ∧
      SameLinesBut k s t ∧ t.line k = { s.line k with
        state := .signing, signonUser := some user, outcome := .pending, signonTimer := some 30
        service := some { kind := kindWord "SIGNON", cmd := some (.signon k user), stage := .taken } } := by
  have hoffer := s.offerFrame_touches k (.signon k user)
  refine ⟨_, execSignon_of_user htakes hlow hhigh, ?_, ?_, ?_, ?_⟩
  · exact (hoffer.mono (by decide)).trans (State.beginSignon_touches _ k user) (by decide)
  · rw [OnlyRaised, State.beginSignon_channel, hoffer.channel]
    rfl
  · exact (State.offerFrame_sameLines htakes).trans (State.beginSignon_sameLines _ k user)
  · rw [State.beginSignon_line, State.offerFrame_line_of_idle htakes hidle hkind]
    rfl

theorem hostDenies {s : State} {tag : Byte} {k : Nat} (htakes : s.takes (.verdictDeny tag k) = true) (hk : k < 32)
    (hstate : (s.line k).state = .signing) :
    ∃ t, exec (.verdictDeny tag k) s = .next t ∧ Replied (.verdictDeny tag k) .done [] s t ∧ Raised [] s t ∧
      OnlyTouches [.lines, .channel] s t ∧ SameLinesBut k s t ∧ SignonEnded k .denied .denied s t := by
  have hact := State.verdictDeny_done (s := s.offer (.verdictDeny tag k)) hk (by rw [State.line_offer]; exact hstate)
  have hended := (s.offer (.verdictDeny tag k)).deny_line ⟨k, hk⟩
  have htouch : OnlyTouches [.lines] (s.offer (.verdictDeny tag k)) ((s.offer (.verdictDeny tag k)).deny k) :=
    (State.updLine_touches _ k _).trans (State.updLine_touches _ k _) (by decide)
  obtain ⟨t, c, hstep, hreply, hraised, htouches, rfl⟩ := host_effect (act := fun s => s.verdictDeny k) (ns := [])
    (ps := [.lines, .channel]) htakes hact htouch.channel (htouch.mono (by decide)) (by decide)
  refine ⟨_, hstep, hreply, hraised, htouches, fun m hm => ?_, ?_⟩
  · rw [State.withChannel_line, State.deny_sameLines _ k m hm, State.line_offer]
  · rw [SignonEnded, State.line_offer] at hended
    exact hended

/-- Settles O35: SIGNON, DENY, the timeout, and a verdict that comes too late. -/
theorem signonDenyAndTimeout : Obligations.SignonDenyAndTimeout := by
  refine ⟨fun s k user htakes hidle hkind hlow hhigh => lineSignsOn htakes hidle hkind hlow hhigh,
    fun s tag k htakes hk hstate => hostDenies htakes hk hstate, ?_, ?_⟩
  · intro s k seconds hstate htimer hshort
    have hexec : exec (.signonTimeout k) s = .next (s.signonExpires k) := by
      have hmatch : exec (.signonTimeout k) s = execSignonTimeout k s := rfl
      simp only [hmatch, execSignonTimeout, hstate, htimer, if_pos hshort]
    exact ⟨_, hexec, (s.updLine_touches k _).trans (State.updLine_touches _ k _) (by decide), s.signonExpires_sameLines k,
      s.signonExpires_line k⟩
  · rintro s i k (⟨tag, rfl⟩ | ⟨tag, desk, role, rfl, hdesk, hrole⟩) htakes hk hstate
    · exact lateVerdict_replied (act := fun s => s.verdictDeny k) htakes
        (State.verdictDeny_late hk (by rw [State.line_offer]; exact hstate))
    · exact lateVerdict_replied (act := fun s => s.verdictGrant k desk role) htakes
        (State.verdictGrant_late hk hdesk hrole (by rw [State.line_offer]; exact hstate))

/-! ### SIGNOFF, ARM and DIM (R27, R79, R80) -/

section Signoff
variable {s : State} {k : Fin 32}

/-- The session ended by SIGNOFF, before its answer (R79). -/
def State.signedOff (s : State) (k : Nat) : State :=
  (((s.releaseHeld k).updLine k fun l =>
    { l with
      state := .idle, user := none, override := false, window := none, dimTimer := none, withdrawn := none,
      display := some .blank, status := none }).unseeLine k).lampAnew k

theorem State.signoff_eq (s : State) (k : Nat) : s.signoff k = (.done, [], s.signedOff k) := (rfl)

theorem State.signedOff_stories (s : State) (k : Nat) : (s.signedOff k).stories = (s.releaseHeld k).stories := (rfl)

theorem State.signedOff_flashes (s : State) (k : Nat) : (s.signedOff k).flashes = unseenWithout k s.flashes :=
  congrArg (unseenWithout k) (s.releaseHeld_touches k).flashes

theorem State.signedOff_touches (s : State) (k : Nat) : OnlyTouches [.stories, .lines, .flashes] s (s.signedOff k) :=
  ((((s.releaseHeld_touches k).mono (by decide)).trans (State.updLine_touches _ k _) (by decide)).trans
    (State.unseeLine_touches _ k) (by decide)).trans (State.lampAnew_touches _ k) (by decide)

theorem State.signedOff_sameLines (hagrees : HoldAgrees k s) : SameLinesBut k s (s.signedOff k) := fun m hm => by
  rw [State.signedOff, State.lampAnew_sameLines _ k m hm, State.unseeLine_line, State.line_updLine_ne _ hm,
    State.releaseHeld_sameLines hagrees m hm]

theorem State.signedOff_line (hagrees : HoldAgrees k s) : (s.signedOff k).line k = { s.line k with
    state := .idle, user := none, held := none, window := none, override := false, dimTimer := none, withdrawn := none
    display := some .blank, status := none, lamp := (s.signedOff k).lampLit k ((s.signedOff k).line k) } := by
  obtain ⟨window, dimTimer, lamp, hline⟩ := State.releaseHeld_line hagrees k.isLt
  refine (State.lampAnew_line _ k.isLt).trans ?_
  rw [State.unseeLine_line, State.line_updLine_self _ k.isLt, hline]
  rfl

theorem HoldAgrees.offerFrame {i : Instr} (h : HoldAgrees k s) (htakes : s.takesFrame k i = true) :
    HoldAgrees k (s.offerFrame k i) := by
  have hheld : ((s.offerFrame k i).line k).held = (s.line k).held := by rw [(State.offerFrame_asFound htakes).1]
  intro n hn
  rw [(s.offerFrame_touches k i).story]
  exact h n (by rwa [← hheld])

end Signoff

theorem lineSignsOff {s : State} {k : Fin 32} (htakes : s.takesFrame k (.signoff k) = true) (hagrees : HoldAgrees k s) :
    ∃ t, exec (.signoff k) s = .next t ∧ OnlyTouches [.stories, .lines, .flashes] s t ∧ SameLinesBut k s t ∧
      Answered k (Instr.signoff k).kind .done [] t ∧ HeldStoryFreed k s t ∧ t.flashes = unseenWithout k s.flashes ∧
      t.line k = { s.line k with
        state := .idle, user := none, held := none, window := none, override := false, dimTimer := none
        withdrawn := none, display := some .blank, status := none, lamp := t.lampLit k (t.line k)
        answer := (t.line k).answer, service := (t.line k).service } ∧
      (t.line k).service.map (fun v => v.stage) = some .answered := by
  have hoffer := s.offerFrame_touches k (.signoff k)
  have hfound := (State.offerFrame_asFound htakes).1
  have hagrees' := hagrees.offerFrame htakes
  obtain ⟨kind, hwaiting⟩ := State.waiting_iff.1 htakes
  have hstep := line_served (act := fun s => s.signoff k) htakes ((s.offerFrame k (.signoff k)).signoff_eq k)
  have hend := State.signedOff_line hagrees'
  have htouch := (s.offerFrame k (.signoff k)).signedOff_touches k
  have hsame := State.signedOff_sameLines hagrees'
  have hfreed := State.releaseHeld_freed hagrees'
  have hstories := (s.offerFrame k (.signoff k)).signedOff_stories k
  have hflashes := (s.offerFrame k (.signoff k)).signedOff_flashes k
  generalize (s.offerFrame k (.signoff k)).signedOff k = v at *
  have hline := v.line_answerService k (Instr.signoff k).kind .done []
  have hanswer := v.answerService_touches k (Instr.signoff k).kind .done []
  have hanswered := State.updLine_sameLines v k fun l => Line.consume { l with
    answer := some { service := true, kind := (Instr.signoff k).kind, status := .done, details := [] }
    service := l.service.map fun v => { v with stage := .answered } } (Instr.signoff k).kind
  have hkind : (Instr.signoff k).kind ≠ kindWord "ARM" :=
    fun h => absurd (show kindWord "SIGNOFF" = kindWord "ARM" from h) (by decide)
  rw [if_neg hkind] at hline
  have hlit : (v.answerService k (Instr.signoff k).kind .done []).lampLit k
      ((v.answerService k (Instr.signoff k).kind .done []).line k) = v.lampLit k (v.line k) := by
    rw [State.lampLit_congr hanswer.stories hanswer.desks hanswer.flashes hanswer.clock, hline]
    rfl
  refine ⟨_, hstep, ((hoffer.mono (by decide)).trans htouch (by decide)).trans hanswer (by decide),
    (State.offerFrame_sameLines htakes).trans (hsame.trans hanswered), ?_, ?_, ?_, ?_, ?_⟩
  · rw [Answered, hline]
  · exact hfreed.congr (by rw [hfound]) (fun n => hoffer.story n) fun n =>
      (hanswer.story n).trans (State.story_congr hstories n)
  · rw [hanswer.flashes, hflashes, hoffer.flashes]
  · rw [hlit]
    generalize v.lampLit k (v.line k) = lit at *
    rw [hline, hend, hfound]
  · rw [hline, hend, hwaiting]
    rfl

/-- What an answered request leaves of an override (R27). -/
theorem line_override {s t v : State} {k : Fin 32} {i : Instr} {act : State → Verdict} {st : Status} {d : List Byte}
    (htakes : s.takesFrame k i = true) (hact : act (s.offerFrame k i) = (st, d, v)) (hstep : lineStep k i act s = .next t) :
    (t.line k).override = if i.kind = kindWord "ARM" then (v.line k).override else false := by
  obtain rfl : v.answerService k i.kind st d = t := Host.Outcome.next.inj ((line_served htakes hact).symm.trans hstep)
  rw [State.line_answerService]

theorem lineArms {s : State} {k : Fin 32} (htakes : s.takesFrame k (.arm k) = true) :
    ∃ t, exec (.arm k) s = .next t ∧ OnlyTouches [.lines] s t ∧ SameLinesBut k s t ∧
      (if (s.line k).hasRole .slot = true then Served (.arm k) k .done [] s t ∧ (t.line k).override = true
       else Served (.arm k) k .denied [] s t ∧ (t.line k).override = (s.line k).override) ∧
      (t.line k).held = (s.line k).held ∧ (t.line k).window = (s.line k).window := by
  have hfound := (State.offerFrame_asFound htakes).1
  have hsameOffer := State.offerFrame_sameLines htakes
  have hrole : ((s.offerFrame k (.arm k)).line k).hasRole .slot = (s.line k).hasRole .slot := by
    rw [Line.hasRole, Line.hasRole, hfound]
  have hword : (Instr.arm k).kind = kindWord "ARM" := rfl
  by_cases hslot : (s.line k).hasRole .slot = true
  · have hact : (s.offerFrame k (.arm k)).armOverride k =
        (.done, [], (s.offerFrame k (.arm k)).updLine k fun l => { l with override := true }) := if_pos (hrole.trans hslot)
    have harmed := State.line_updLine_self (s.offerFrame k (.arm k)) k.isLt fun l => { l with override := true }
    have harmedSame := State.updLine_sameLines (s.offerFrame k (.arm k)) k fun l => { l with override := true }
    obtain ⟨t, hstep, htouch, hserved, -, hsame, hline⟩ := line_effect (act := fun s => s.armOverride k) (ps := [.lines]) htakes
      hact (by rw [harmed]; rfl) (by rw [harmed]) (State.updLine_touches _ k _) (by decide)
    have hoverride := line_override (act := fun s => s.armOverride k) htakes hact hstep
    rw [if_pos hword, harmed] at hoverride
    refine ⟨t, hstep, htouch, (hsameOffer.trans harmedSame).trans hsame, ?_, ?_⟩
    · rw [if_pos hslot]
      exact ⟨hserved, hoverride⟩
    · rw [hline, harmed, hfound]
      exact ⟨rfl, rfl⟩
  · have hact : (s.offerFrame k (.arm k)).armOverride k = (.denied, [], s.offerFrame k (.arm k)) :=
      if_neg fun h => hslot (hrole.symm.trans h)
    obtain ⟨t, hstep, htouch, hserved, -, hsame, hline⟩ := line_effect (act := fun s => s.armOverride k) (ps := [.lines]) htakes
      hact (.of_eq rfl) rfl (.refl _ _) (by decide)
    have hoverride := line_override (act := fun s => s.armOverride k) htakes hact hstep
    rw [if_pos hword, hfound] at hoverride
    refine ⟨t, hstep, htouch, hsameOffer.trans hsame, ?_, ?_⟩
    · rw [if_neg hslot]
      exact ⟨hserved, hoverride⟩
    · rw [hline, hfound]
      exact ⟨rfl, rfl⟩

/-- Settles O37: SIGNOFF, ARM and the dim timer. -/
theorem signoffArmAndDim : Obligations.SignoffArmAndDim := by
  refine ⟨fun s k htakes hagrees => lineSignsOff htakes hagrees, fun s k htakes => lineArms htakes, ?_⟩
  intro s k seconds hready hheld hservice htime htimer hshort
  have hruns : (s.line k).dimRuns = true := by simp [Line.dimRuns, hready, hheld, hservice, htime]
  have hexec : exec (.dim k) s = .next (s.goDim k) := by
    have hmatch : exec (.dim k) s = execDim k s := rfl
    simp only [hmatch, execDim, hruns, htimer, if_pos hshort]
  exact ⟨_, hexec, State.updLine_touches s k _, State.updLine_sameLines s k _, State.line_updLine_self s k.isLt _⟩

end Sys2Proof.Machine

/-! A GRANT: the orphan of another user released, the user's own orphan resumed, and the line in READY (R55, R56, R76). -/

namespace Sys2Proof.Machine

/-! ### Orphans at lines (R43, R53) -/

section Orphans
variable {s : State} {k user : Nat}

theorem State.orphanAt_iff {m n : Nat} : s.orphanAt m user = some n ↔ ∃ seconds, OrphanOf user m seconds n s := by
  unfold State.orphanAt OrphanOf
  cases hheld : (s.line m).held with
  | none => simp
  | some p =>
    constructor
    · intro h
      dsimp only at h
      split at h
      case h_1 line owner seconds hholder =>
        split at h
        case isTrue heq =>
          obtain ⟨rfl, rfl⟩ := heq
          obtain rfl := Option.some.inj h
          exact ⟨seconds, rfl, hholder⟩
        case isFalse => simp at h
      case h_2 => simp at h
    · rintro ⟨seconds, heq, hholder⟩
      obtain rfl := Option.some.inj heq
      simp [hholder]

theorem State.orphanAt_eq_none_iff {m : Nat} : s.orphanAt m user = none ↔ ∀ n seconds, ¬OrphanOf user m seconds n s := by
  rw [Option.eq_none_iff_forall_ne_some]
  exact ⟨fun h n seconds hn => h n (State.orphanAt_iff.2 ⟨seconds, hn⟩),
    fun h n hn => let ⟨seconds, horphan⟩ := State.orphanAt_iff.1 hn; h n seconds horphan⟩

/-- The first line of a search that finds anything is the lowest-numbered (R55). -/
theorem findSome_range_of_lowest {α : Type} {f : Nat → Option α} {b m : Nat} {a : α} (hm : m < b) (hfound : f m = some a)
    (hlower : ∀ q < m, f q = none) : (List.range b).findSome? f = some a := by
  rw [List.findSome?_eq_some_iff]
  refine ⟨List.range m, m, List.range' (m + 1) (b - m - 1), ?_, hfound, fun q hq => hlower q (List.mem_range.1 hq)⟩
  rw [← List.range'_succ, List.range_eq_range', List.range_eq_range']
  have hsplit := List.range'_append (s := 0) (m := m) (n := b - m - 1 + 1) (step := 1)
  simp only [Nat.zero_add, Nat.one_mul] at hsplit
  rw [hsplit]
  congr 1
  omega

theorem State.resumable_of_own {n : Nat} (h : s.orphanAt k user = some n) : s.resumable k user = some (k, n) := by
  simp only [State.resumable, h]

theorem State.resumable_of_lowest {m n : Nat} (hm : m < 32) (h : s.orphanAt m user = some n)
    (hlower : ∀ q < 32, q < m ∨ q = k → s.orphanAt q user = none) (hk : k < 32) : s.resumable k user = some (m, n) := by
  have hown := hlower k hk (.inr rfl)
  simp only [State.resumable, hown]
  exact findSome_range_of_lowest hm (by rw [h]; rfl) fun q hq => by rw [hlower q (hq.trans hm) (.inl hq)]; rfl

theorem State.resumable_of_none (h : ∀ m < 32, s.orphanAt m user = none) (hk : k < 32) : s.resumable k user = none := by
  simp only [State.resumable, h k hk]
  rw [List.findSome?_eq_none_iff]
  intro m hm
  rw [h m (List.mem_range.1 hm)]
  rfl

/-- What resumes is an orphan of the user at one of the lines (R55). -/
theorem State.orphanOf_resumable {m n : Nat} (h : s.resumable k user = some (m, n)) (hk : k < 32) :
    m < 32 ∧ s.orphanAt m user = some n := by
  unfold State.resumable at h
  split at h
  next p hp =>
    obtain ⟨rfl, rfl⟩ := Prod.mk.inj (Option.some.inj h)
    exact ⟨hk, hp⟩
  next =>
    obtain ⟨q, hq, hfound⟩ := List.exists_of_findSome?_eq_some h
    obtain ⟨p, hp, heq⟩ := Option.map_eq_some_iff.1 hfound
    obtain ⟨rfl, rfl⟩ := Prod.mk.inj heq
    exact ⟨List.mem_range.1 hq, hp⟩

theorem State.resumable_congr {t : State} (h : ∀ m, t.orphanAt m user = s.orphanAt m user) :
    t.resumable k user = s.resumable k user := by
  simp only [State.resumable, h]

theorem State.orphanAt_congr {t : State} (hheld : ∀ m, (t.line m).held = (s.line m).held) (hstory : ∀ n, t.story n = s.story n)
    (m user : Nat) : t.orphanAt m user = s.orphanAt m user := by
  simp only [State.orphanAt, hheld, hstory]

theorem State.strangersOrphan_congr {t : State} (hheld : (t.line k).held = (s.line k).held) (hstory : ∀ n, t.story n = s.story n) :
    t.strangersOrphan k user = s.strangersOrphan k user := by
  simp only [State.strangersOrphan, hheld, hstory]

end Orphans

/-! ### The orphans as a GRANT settles them (R55, R56) -/

/-- Every line holds what it says it holds, and line `k` has no live hold. -/
def OrphansAgree (k : Nat) (s : State) : Prop := (∀ m < 32, HoldAgrees m s) ∧ ∀ n, (s.story n).holder ≠ .line k

section Settle
variable {s : State} {k user : Nat}

theorem OrphansAgree.orphan (h : OrphansAgree k s) (hk : k < 32) {n : Nat} (hheld : (s.line k).held = some n) :
    ∃ owner seconds, (s.story n).holder = .orphan k owner seconds := by
  obtain ⟨hagree, hnone⟩ := h
  rcases (hagree k hk n hheld).2.2 with hlive | horphan
  · exact absurd hlive (hnone n)
  · exact horphan

theorem State.strangersOrphan_iff (h : OrphansAgree k s) (hk : k < 32) {n : Nat} : s.strangersOrphan k user = some n ↔
    (s.line k).held = some n ∧ ∃ owner seconds, owner ≠ user ∧ OrphanOf owner k seconds n s := by
  cases hheld : (s.line k).held with
  | none => simp [State.strangersOrphan, hheld]
  | some p =>
    obtain ⟨owner, seconds, hholder⟩ := h.orphan hk hheld
    have hstranger : s.strangersOrphan k user = if owner = user then none else some p := by
      simp only [State.strangersOrphan, hheld, hholder]
    rw [hstranger]
    constructor
    · intro hsome
      split at hsome
      · cases hsome
      · rename_i hother
        obtain rfl := Option.some.inj hsome
        exact ⟨rfl, owner, seconds, hother, hheld, hholder⟩
    · rintro ⟨heq, owner', seconds', hother, -, hholder'⟩
      obtain rfl := Option.some.inj heq
      obtain ⟨-, rfl, -⟩ := Holder.orphan.inj (hholder.symm.trans hholder')
      rw [if_neg hother]

end Settle

/-- Story `released` has been let go of by line `k`, and story `resumed` is held by it; every other story stands, and so does every
line but the one whose orphan resumed (R55, R56). -/
structure OrphansSettled (k : Nat) (released resumed : Option Nat) (s t : State) : Prop where
  resumed_story : ∀ n ∈ resumed, t.story n = { s.story n with holder := .line k }
  released_story : ∀ n ∈ released, resumed ≠ some n → t.story n = { s.story n with holder := .absent }
  others : ∀ n, resumed ≠ some n → released ≠ some n → t.story n = s.story n
  line : ∃ lamp, t.line k = { s.line k with held := resumed, lamp := lamp }
  lines : ∀ m < 32, m ≠ k → t.line m =
    if resumed.isSome = true ∧ (s.line m).held = resumed then { s.line m with held := none, lamp := (t.line m).lamp }
    else s.line m

section Released
variable {s : State} {k user : Nat}

theorem State.releaseStranger_of_none (h : s.strangersOrphan k user = none) : s.releaseStranger k user = s := by
  simp only [State.releaseStranger, h]

theorem State.releaseStranger_of_some {n : Nat} (h : s.strangersOrphan k user = some n) :
    s.releaseStranger k user = s.releaseHold n := by
  simp only [State.releaseStranger, h]

/-- The stranger's orphan released: the line holds nothing then, unless its orphan is the user's own (R56). -/
theorem State.releaseStranger_spec (h : OrphansAgree k s) (hk : k < 32) :
    (∀ n ∈ s.strangersOrphan k user, (s.releaseStranger k user).story n = { s.story n with holder := .absent }) ∧
      (∀ n, s.strangersOrphan k user ≠ some n → (s.releaseStranger k user).story n = s.story n) ∧
      SameLinesBut k s (s.releaseStranger k user) ∧
      ∃ lamp, (s.releaseStranger k user).line k = { s.line k with
        held := if (s.strangersOrphan k user).isSome then none else (s.line k).held, lamp := lamp } := by
  cases hstranger : s.strangersOrphan k user with
  | none =>
    rw [State.releaseStranger_of_none hstranger]
    exact ⟨by simp, fun _ _ => rfl, fun _ _ => rfl, (s.line k).lamp, rfl⟩
  | some n =>
    obtain ⟨hheld, owner, seconds, -, -, hholder⟩ := (State.strangersOrphan_iff h hk).1 hstranger
    obtain ⟨hlow, hhigh, -⟩ := h.1 k hk n hheld
    rw [State.releaseStranger_of_some hstranger]
    refine ⟨fun p hp => ?_, fun p hp => ?_, State.releaseHold_sameLines (.inr ⟨owner, seconds, hholder⟩), _,
      State.releaseHold_line_of_orphan hholder hk⟩
    · obtain rfl := Option.some.inj hp
      exact State.releaseHold_story ⟨hlow, hhigh⟩
    · exact State.releaseHold_sameStories s n p fun heq => hp (by rw [heq])

/-- The user's own orphans stand where they stood (R56). -/
theorem State.orphanAt_releaseStranger (h : OrphansAgree k s) (hk : k < 32) (m : Nat) :
    (s.releaseStranger k user).orphanAt m user = s.orphanAt m user := by
  obtain ⟨hreleased, hothers, hlines, lamp, hline⟩ := State.releaseStranger_spec (user := user) h hk
  cases hstranger : s.strangersOrphan k user with
  | none => rw [State.releaseStranger_of_none hstranger]
  | some p =>
    obtain ⟨hheld, owner, seconds, hother, -, hholder⟩ := (State.strangersOrphan_iff h hk).1 hstranger
    have hfreed := hreleased p hstranger
    by_cases hm : m = k
    · subst hm
      have hnone : ((s.releaseStranger m user).line m).held = none := by simp [hline, hstranger]
      have hstrange : s.orphanAt m user = none := by
        simp only [State.orphanAt, hheld, hholder]
        exact if_neg fun heq => hother heq.2
      rw [hstrange]
      simp only [State.orphanAt, hnone]
    · have hstory (n : Nat) (hn : (s.line m).held = some n) : (s.releaseStranger k user).story n = s.story n ∨
          ((s.releaseStranger k user).story n).holder = .absent ∧ (s.story n).holder = .orphan k owner seconds := by
        by_cases hp : n = p
        · subst hp
          exact .inr ⟨by rw [hfreed], hholder⟩
        · exact .inl (hothers n fun heq => hp (Option.some.inj (heq.symm.trans hstranger)))
      unfold State.orphanAt
      rw [hlines m hm]
      cases hn : (s.line m).held with
      | none => rfl
      | some n =>
        rcases hstory n hn with heq | ⟨hgone, hwas⟩
        · simp only [heq]
        · simp only [hgone, hwas]
          exact (if_neg fun heq => hm heq.1.symm).symm

end Released

section Resumed
variable {s : State} {k m n : Nat}

/-- The orphan of line `m` resumed at line `k` (R55). -/
theorem State.resumeOrphan_spec (s : State) (k : Fin 32) (hm : m < 32) (hn : 1 ≤ n ∧ n ≤ 512) :
    (s.resumeOrphan k m n).story n = { s.story n with holder := .line k } ∧ SameStoriesBut n s (s.resumeOrphan k m n) ∧
      (∃ lamp, (s.resumeOrphan k m n).line k = { s.line k with held := some n, lamp := lamp }) ∧
      (m ≠ k → (s.resumeOrphan k m n).line m = { s.line m with held := none, lamp := ((s.resumeOrphan k m n).line m).lamp }) ∧
      ∀ q : Nat, q ≠ k → q ≠ m → (s.resumeOrphan k m n).line q = s.line q := by
  have hfreed := State.lampIf_line (s.updLine m fun l => { l with held := none }) hm .overset
  have hfreedTouch : OnlyTouches [.lines] s ((s.updLine m fun l => { l with held := none }).lampIf m .overset) :=
    (s.updLine_touches m _).trans (State.lampIf_touches _ m _) (by decide)
  have hfreedSame : SameLinesBut m s ((s.updLine m fun l => { l with held := none }).lampIf m .overset) :=
    (s.updLine_sameLines m _).trans (State.lampIf_sameLines _ m _)
  rw [State.line_updLine_self _ hm] at hfreed
  rw [State.resumeOrphan]
  generalize (s.updLine m fun l => { l with held := none }).lampIf m .overset = b at *
  obtain ⟨hstory, hothers, hlines, lamp, hline⟩ := b.takeHold_spec k hn
  refine ⟨by rw [hstory, hfreedTouch.story], fun p hp => ?_, ?_, fun hmk => ?_, fun q hqk hqm => ?_⟩
  · rw [hothers p hp, hfreedTouch.story]
  · by_cases hmk : m = k
    · subst hmk
      exact ⟨lamp, by rw [hline, hfreed]⟩
    · exact ⟨lamp, by rw [hline, hfreedSame k (Ne.symm hmk)]⟩
  · rw [hlines m hmk, hfreed]
  · rw [hlines q hqk, hfreedSame q hqm]

end Resumed

section Settled
variable {s : State} {k user : Nat}

/-- The orphans of a line and of a user settled as a GRANT settles them (R55, R56). -/
def State.orphansSettled (s : State) (k user : Nat) : State := (s.releaseStranger k user).resumeFor k user

theorem State.resumeFor_of_none (h : s.resumable k user = none) : s.resumeFor k user = s := by
  simp only [State.resumeFor, h]

theorem State.resumeFor_of_some {m n : Nat} (h : s.resumable k user = some (m, n)) :
    s.resumeFor k user = s.resumeOrphan k m n := by
  simp only [State.resumeFor, h]

theorem OrphansAgree.unique (h : OrphansAgree k s) {m q n seconds : Nat} (hm : OrphanOf user m seconds n s) (hq : q < 32)
    (hheld : (s.line q).held = some n) : q = m := by
  obtain ⟨hagree, -⟩ := h
  obtain ⟨-, hholder⟩ := hm
  rcases (hagree q hq n hheld).2.2 with hlive | ⟨owner, left, horphan⟩
  · exact absurd (hholder.symm.trans hlive) (by simp)
  · exact (Holder.orphan.inj (horphan.symm.trans hholder)).1

theorem State.orphansSettled_spec (h : OrphansAgree k s) (hk : k < 32) :
    OrphansSettled k (s.strangersOrphan k user) ((s.resumable k user).map Prod.snd) s (s.orphansSettled k user) := by
  obtain ⟨hreleased, hothers, hlines, lamp, hline⟩ := State.releaseStranger_spec (user := user) h hk
  have hsame : (s.releaseStranger k user).resumable k user = s.resumable k user :=
    State.resumable_congr (State.orphanAt_releaseStranger h hk)
  unfold State.orphansSettled
  cases hresume : s.resumable k user with
  | none =>
    have hown : s.orphanAt k user = none := by
      unfold State.resumable at hresume
      split at hresume
      · cases hresume
      · assumption
    have hempty : (if (s.strangersOrphan k user).isSome then none else (s.line k).held) = none := by
      split
      · rfl
      · rename_i hnone
        by_contra hsome
        obtain ⟨n, hheld⟩ := Option.ne_none_iff_exists'.1 hsome
        obtain ⟨owner, seconds, hholder⟩ := h.orphan hk hheld
        by_cases huser : owner = user
        · subst huser
          exact State.orphanAt_eq_none_iff.1 hown n seconds ⟨hheld, hholder⟩
        · exact hnone (by rw [(State.strangersOrphan_iff h hk).2 ⟨hheld, owner, seconds, huser, hheld, hholder⟩]; rfl)
    rw [State.resumeFor_of_none (hsame.trans hresume)]
    refine ⟨by simp, fun n hn _ => hreleased n hn, fun n _ hn => hothers n hn, ⟨lamp, ?_⟩, fun m _ hm => ?_⟩
    · rw [hline, hempty]
      rfl
    · rw [hlines m hm]
      rfl
  | some found =>
    obtain ⟨m, n⟩ := found
    obtain ⟨hm, horphan⟩ := State.orphanOf_resumable hresume hk
    obtain ⟨seconds, hheld, hholder⟩ := State.orphanAt_iff.1 horphan
    obtain ⟨hlow, hhigh, -⟩ := h.1 m hm n hheld
    have hkept : s.strangersOrphan k user ≠ some n := fun hstranger => by
      obtain ⟨-, owner, left, hother, -, hholder'⟩ := (State.strangersOrphan_iff h hk).1 hstranger
      exact hother (Holder.orphan.inj (hholder'.symm.trans hholder)).2.1
    rw [State.resumeFor_of_some (hsame.trans hresume)]
    obtain ⟨hstory, hstories, ⟨lamp', hself⟩, hfrom, hrest⟩ :=
      State.resumeOrphan_spec (s.releaseStranger k user) ⟨k, hk⟩ hm ⟨hlow, hhigh⟩
    refine ⟨fun p hp => ?_, fun p hp hpn => ?_, fun p hpn hp => ?_, ⟨lamp', ?_⟩, fun q hq hqk => ?_⟩
    · obtain rfl : n = p := Option.some.inj hp
      rw [hstory, hothers n hkept]
    · rw [hstories p fun heq => hpn (by rw [heq]; rfl), hreleased p hp]
    · rw [hstories p fun heq => hpn (by rw [heq]; rfl), hothers p hp]
    · rw [hself, hline]
      rfl
    · by_cases hqn : (s.line q).held = some n
      · obtain rfl := h.unique ⟨hheld, hholder⟩ hq hqn
        rw [if_pos ⟨rfl, hqn⟩, hfrom hqk, hlines q hqk]
      · have hqm : q ≠ m := fun heq => hqn (by rw [heq]; exact hheld)
        rw [if_neg fun hboth => hqn hboth.2, hrest q hqk hqm, hlines q hqk]

end Settled

end Sys2Proof.Machine

/-! The line a GRANT seats its user at, and the GRANT whole (R55, R56, R76). -/

namespace Sys2Proof.Machine

section Seated
variable {s : State} {w : SignedOn} {d : List Byte}

/-- A user seated at a line and the SIGNON answered (steps 4 to 6 of R76). -/
def State.seatAnswered (s : State) (k : Nat) (w : SignedOn) (d : List Byte) : State :=
  ((s.updLine k fun l => { l with state := .ready, user := some w }).joinFlashes k w.desk).answerService k
    (kindWord "SIGNON") .done d

/-- A user seated at a line and told so, the orphans apart (R76). -/
def State.seated (s : State) (k : Nat) (w : SignedOn) (d : List Byte) : State :=
  ((((s.seatAnswered k w d).putHome k w.desk 0).refreshLine k).updLine k Line.armDim).lampAnew k

theorem State.joinFlashes_line (s : State) (k d m : Nat) : (s.joinFlashes k d).line m = s.line m := rfl

theorem State.seatAnswered_line (s : State) (k : Fin 32) (w : SignedOn) (d : List Byte) :
    (s.seatAnswered k w d).line k = { s.line k with
      state := .ready, user := some w, override := false
      answer := some { service := true, kind := kindWord "SIGNON", status := .done, details := d }
      service := (s.line k).service.map fun v => { v with stage := .answered } } := by
  rw [State.seatAnswered, State.line_answerService, State.joinFlashes_line, State.line_updLine_self _ k.isLt,
    if_neg (by decide)]

theorem State.seatAnswered_sameLines (s : State) (k : Nat) (w : SignedOn) (d : List Byte) :
    SameLinesBut k s (s.seatAnswered k w d) := fun m hm => by
  rw [State.seatAnswered, State.answerService, State.line_updLine_ne _ hm, State.joinFlashes_line, State.line_updLine_ne _ hm]

theorem State.seatAnswered_touches (s : State) (k : Nat) (w : SignedOn) (d : List Byte) :
    OnlyTouches [.lines, .flashes] s (s.seatAnswered k w d) :=
  (((s.updLine_touches k _).mono (by decide)).trans (State.joinFlashes_touches _ k _) (by decide)).trans
    (State.answerService_touches _ k _ _ _) (by decide)

/-- The steps of a seating past the answer change the lines alone. -/
theorem State.seated_told (s : State) (k : Nat) (w : SignedOn) (d : List Byte) :
    OnlyTouches [.lines] (s.seatAnswered k w d) (s.seated k w d) :=
  (((State.putHome_touches _ k _ 0).trans (State.refreshLine_touches _ k) (by decide)).trans
    (State.updLine_touches _ k _) (by decide)).trans (State.lampAnew_touches _ k) (by decide)

theorem State.seated_touches (s : State) (k : Nat) (w : SignedOn) (d : List Byte) :
    OnlyTouches [.lines, .flashes] s (s.seated k w d) :=
  (s.seatAnswered_touches k w d).trans (s.seated_told k w d) (by decide)

theorem State.seated_flashes (s : State) (k : Nat) (w : SignedOn) (d : List Byte) :
    (s.seated k w d).flashes = { s.flashes with
      list := s.flashes.list.map fun e =>
        if maskHas e.mask w.desk = true then { e with unseen := insertLine k e.unseen } else e } :=
  (s.seated_told k w d).flashes

theorem State.seated_sameLines (s : State) (k : Nat) (w : SignedOn) (d : List Byte) : SameLinesBut k s (s.seated k w d) :=
  ((((s.seatAnswered_sameLines k w d).trans (State.updLine_sameLines _ k _)).trans (State.refreshLine_sameLines _ k)).trans
    (State.updLine_sameLines _ k _)).trans (State.lampAnew_sameLines _ k)

/-- The screen, status line, timer and lamp of a READY line with a user (R76). -/
theorem State.line_told (b : State) (k : Fin 32) (w : SignedOn) (hready : (b.line k).state = .ready)
    (huser : (b.line k).user = some w) :
    ((((b.putHome k w.desk 0).refreshLine k).updLine k Line.armDim).lampAnew k).line k = { b.line k with
      display := some (.home (b.homeScreen w.desk 0 (b.line k).windowSize))
      status := some (b.statusLine k w (b.line k).withdrawn), dimTimer := dimSet (b.line k).dimTime
      lamp := ((((b.putHome k w.desk 0).refreshLine k).updLine k Line.armDim).lampAnew k).lampLit k
        (((((b.putHome k w.desk 0).refreshLine k).updLine k Line.armDim).lampAnew k).line k) } := by
  have hhome : (b.putHome k w.desk 0).line k =
      { b.line k with display := some (.home (b.homeScreen w.desk 0 (b.line k).windowSize)) } := by
    rw [State.putHome, State.line_updLine_self _ k.isLt]
  have hshown : ((b.putHome k w.desk 0).refreshLine k).line k = { b.line k with
      display := some (.home (b.homeScreen w.desk 0 (b.line k).windowSize))
      status := some (b.statusLine k w (b.line k).withdrawn) } := by
    rw [State.line_refreshLine_self, hhome, if_pos (by exact hready), State.withStatus_eq]
    dsimp only
    rw [huser, Option.map_some, Option.some_or, (State.putHome_touches b k w.desk 0).statusLine]
  refine (State.lampAnew_line _ k.isLt).trans ?_
  rw [State.line_updLine_self _ k.isLt, hshown]
  rfl

theorem State.seated_line (s : State) (k : Fin 32) (w : SignedOn) (d : List Byte) : ∃ home : HomeScreen,
    home.desk = w.desk ∧ home.first = 0 ∧ (s.seated k w d).line k = { s.line k with
      state := .ready, user := some w, override := false
      answer := some { service := true, kind := kindWord "SIGNON", status := .done, details := d }
      service := (s.line k).service.map fun v => { v with stage := .answered }
      display := some (.home home), status := some ((s.seated k w d).statusLine k w (s.line k).withdrawn)
      dimTimer := dimSet (s.line k).dimTime, lamp := (s.seated k w d).lampLit k ((s.seated k w d).line k) } := by
  have hanswered := s.seatAnswered_line k w d
  have hline := State.line_told (s.seatAnswered k w d) k w (by rw [hanswered]) (by rw [hanswered])
  have hstatus := (s.seated_told k w d).statusLine k w (s.line k).withdrawn
  refine ⟨(s.seatAnswered k w d).homeScreen w.desk 0 ((s.seatAnswered k w d).line k).windowSize, rfl, rfl, ?_⟩
  rw [hstatus]
  refine hline.trans ?_
  rw [← State.seated]
  generalize (s.seated k w d).lampLit k ((s.seated k w d).line k) = lit
  rw [hanswered]

end Seated

/-! ### The GRANT whole (R55, R56, R76) -/

section Grant
variable {s : State} {k user : Nat}

/-- A SIGNING line whose sign-on is granted (step 1 of R76). -/
def State.granted (s : State) (k : Nat) : State := s.updLine k fun l => { l with signonTimer := none, outcome := .granted }

theorem State.granted_held (s : State) (k m : Nat) : ((s.granted k).line m).held = (s.line m).held := by
  by_cases hm : m = k
  · subst hm
    by_cases hk : m < 32
    · rw [State.granted, State.line_updLine_self _ hk]
    · simp [State.granted, State.line_eq_reset _ hk]
  · rw [State.granted, State.line_updLine_ne _ hm]

theorem State.granted_touches (s : State) (k : Nat) : OnlyTouches [.lines] s (s.granted k) := s.updLine_touches k _

theorem State.orphansSettled_touches (s : State) (k user : Nat) : OnlyTouches [.stories, .lines] s (s.orphansSettled k user) :=
  (s.releaseStranger_touches k user).trans (State.resumeFor_touches _ k user) (by decide)

theorem OrphansAgree.congr {t : State} (h : OrphansAgree k s) (hheld : ∀ m, (t.line m).held = (s.line m).held)
    (hstory : ∀ n, t.story n = s.story n) : OrphansAgree k t := by
  obtain ⟨hagree, hnone⟩ := h
  refine ⟨fun m hm n hn => ?_, fun n => ?_⟩
  · rw [hheld] at hn
    rw [hstory]
    exact hagree m hm n hn
  · rw [hstory]
    exact hnone n

theorem grantDetails_congr {t : State} (h : ∀ n, (t.story n).editCount = (s.story n).editCount) (desk : Nat) (role : Role)
    (resumed : Option Nat) : grantDetails t desk role resumed = u8 desk ++ u8 role.code ++
      (resumed.map fun n => u16 n ++ u16 (s.story n).editCount).getD (u16 0) := by
  cases resumed with
  | none => rfl
  | some n => simp only [grantDetails, h, Option.map_some, Option.getD_some, List.append_assoc]

theorem State.grant_eq (s : State) (k user desk : Nat) (role : Role) : s.grant k user desk role =
    ((s.granted k).orphansSettled k user).seated k { user := user, desk := desk, role := role }
      (grantDetails ((((s.granted k).orphansSettled k user).updLine k fun l =>
          { l with state := .ready, user := some { user := user, desk := desk, role := role } }).joinFlashes k desk) desk role
        ((((s.granted k).releaseStranger k user).resumable k user).map Prod.snd)) := (rfl)

theorem State.verdictGrant_done {desk role : Nat} {r : Role} (hk : k < 32) (hdesk : desk < 16) (hrole : Role.ofCode role = some r)
    (hstate : (s.line k).state = .signing) (huser : (s.line k).signonUser = some user) :
    s.verdictGrant k desk role = (.done, s.grantReply k user, s.grant k user desk r) := by
  have hdeskOk : deskOk desk = true := (deskOk_iff desk).2 (Nat.le_of_lt_succ hdesk)
  simp [State.verdictGrant, hrole, lineNumberOk_of_lt hk, hdeskOk, hstate, huser]

theorem State.grantReply_eq (h : OrphansAgree k s) (hk : k < 32) : s.grantReply k user =
    u16 ((s.strangersOrphan k user).getD 0) ++ u16 (((s.resumable k user).map Prod.snd).getD 0) := by
  rw [State.grantReply, State.resumable_congr (State.orphanAt_releaseStranger h hk)]

/-- The settling of the orphans, seen from before the step it stands in to past it. -/
theorem OrphansSettled.around {a b t : State} {released resumed : Option Nat} (h : OrphansSettled k released resumed a b)
    (hstory : ∀ n, a.story n = s.story n) (hlines : ∀ m < 32, m ≠ k → a.line m = s.line m)
    (hstoryEnd : ∀ n, t.story n = b.story n) (hlinesEnd : SameLinesBut k b t) :
    (∀ n ∈ resumed, t.story n = { s.story n with holder := .line k }) ∧
      (∀ n ∈ released, resumed ≠ some n → t.story n = { s.story n with holder := .absent }) ∧
      (∀ n, resumed ≠ some n → released ≠ some n → t.story n = s.story n) ∧
      ∀ m < 32, m ≠ k → t.line m =
        if resumed.isSome = true ∧ (s.line m).held = resumed then { s.line m with held := none, lamp := (t.line m).lamp }
        else s.line m := by
  refine ⟨fun n hn => ?_, fun n hn hne => ?_, fun n hn hne => ?_, fun m hm hne => ?_⟩
  · rw [hstoryEnd, h.resumed_story n hn, hstory]
  · rw [hstoryEnd, h.released_story n hn hne, hstory]
  · rw [hstoryEnd, h.others n hn hne, hstory]
  · have hline := h.lines m hm hne
    rw [hlines m hm hne, ← hlinesEnd m hne] at hline
    exact hline

theorem OrphansSettled.editCount {b : State} {released resumed : Option Nat} (h : OrphansSettled k released resumed s b)
    (n : Nat) : (b.story n).editCount = (s.story n).editCount := by
  by_cases hresumed : resumed = some n
  · rw [h.resumed_story n hresumed]
  · by_cases hreleased : released = some n
    · rw [h.released_story n hreleased hresumed]
    · rw [h.others n hresumed hreleased]

end Grant

/-- The line a GRANT is for (R76). -/
theorem grantLine {s t : State} {k : Fin 32} {w : SignedOn} {d : List Byte} {released resumed : Option Nat}
    (h : OrphansSettled k released resumed (s.granted k) t) :
    ((t.seated k w d).line k).state = .ready ∧ ((t.seated k w d).line k).user = some w ∧
      ((t.seated k w d).line k).outcome = .granted ∧ ((t.seated k w d).line k).signonTimer = none ∧
      ((t.seated k w d).line k).dimTimer = dimSet (s.line k).dimTime ∧ ((t.seated k w d).line k).override = false ∧
      Answered k (kindWord "SIGNON") .done d (t.seated k w d) ∧ HomeShown k (t.seated k w d) ∧
      ((t.seated k w d).line k).status = some ((t.seated k w d).statusLine k w (s.line k).withdrawn) ∧
      ((t.seated k w d).line k).lamp = (t.seated k w d).lampLit k ((t.seated k w d).line k) ∧
      ((t.seated k w d).line k).held = resumed := by
  obtain ⟨lamp, hline⟩ := h.line
  obtain ⟨home, hdesk, hfirst, hseated⟩ := State.seated_line t k w d
  rw [State.granted, State.line_updLine_self _ k.isLt] at hline
  generalize t.seated k w d = u at *
  generalize u.lampLit k (u.line k) = lit at *
  rw [hline] at hseated
  rw [Answered, HomeShown, hseated]
  refine ⟨rfl, rfl, rfl, rfl, rfl, rfl, rfl, fun v hv => ?_, rfl, rfl, rfl⟩
  obtain rfl := Option.some.inj hv
  exact ⟨home, rfl, hdesk, hfirst⟩

/-- A GRANT as the settling of the orphans and the seating of the user, its details read of the state before it (R76). -/
theorem State.grant_seated {s : State} {k user : Nat} (h : OrphansAgree k (s.granted k)) (hk : k < 32) (desk : Nat) (r : Role) :
    s.grant k user desk r = ((s.granted k).orphansSettled k user).seated k { user := user, desk := desk, role := r }
      (u8 desk ++ u8 r.code ++
        ((((s.granted k).resumable k user).map Prod.snd).map fun n => u16 n ++ u16 (s.story n).editCount).getD (u16 0)) := by
  have hsettled := State.orphansSettled_spec (user := user) h hk
  have hedits (n : Nat) : (((((s.granted k).orphansSettled k user).updLine k fun l =>
      { l with state := .ready, user := some { user := user, desk := desk, role := r } }).joinFlashes k desk).story n).editCount =
      (s.story n).editCount := hsettled.editCount n
  rw [State.grant_eq, State.resumable_congr (State.orphanAt_releaseStranger h hk), grantDetails_congr hedits]

/-- Settles O36, by the settling of the orphans and the seating of the user. -/
theorem grantSignsUserOn : Obligations.GrantSignsUserOn := by
  intro s tag k desk user role r i htakes hk hdesk hrole hstate huser hagrees hfree
  have hagree : OrphansAgree k s := ⟨hagrees, hfree⟩
  have hstory (n : Nat) : ((s.offer i).granted k).story n = s.story n := by
    rw [State.granted, State.updLine_story, State.story_offer]
  have hheld (m : Nat) : (((s.offer i).granted k).line m).held = (s.line m).held := by
    rw [State.granted_held, State.line_offer]
  have hlines (m : Nat) (_ : m < 32) (hm : m ≠ k) : ((s.offer i).granted k).line m = s.line m := by
    rw [State.granted, State.line_updLine_ne _ hm, State.line_offer]
  have hheldOffer (m : Nat) : ((s.offer i).line m).held = (s.line m).held := by rw [State.line_offer]
  have hagree' := hagree.congr hheld hstory
  have hresumable := State.resumable_congr (k := k) (State.orphanAt_congr hheld hstory · user)
  have hstranger := State.strangersOrphan_congr (user := user) (hheld k) hstory
  have hsettled := State.orphansSettled_spec (user := user) hagree' hk
  rw [hresumable, hstranger] at hsettled
  have hline := grantLine (k := ⟨k, hk⟩) (w := { user := user, desk := desk, role := r })
    (d := u8 desk ++ u8 r.code ++
      (((s.resumable k user).map Prod.snd).map fun n => u16 n ++ u16 (s.story n).editCount).getD (u16 0)) hsettled
  have hreply := State.grantReply_eq (user := user) (hagree.congr hheldOffer (State.story_offer _ _)) hk
  rw [State.resumable_congr (State.orphanAt_congr hheldOffer (State.story_offer _ _) · user),
    State.strangersOrphan_congr (hheldOffer k) (State.story_offer _ _)] at hreply
  have hact := State.verdictGrant_done (s := s.offer i) hk hdesk hrole (by rw [State.line_offer]; exact hstate)
    (by rw [State.line_offer]; exact huser)
  have htouch := State.grant_touches (s := s.offer i) k user desk r
  simp only [State.grant_seated hagree' hk, hreply, hresumable, State.story_offer] at hact htouch
  rw [State.line_offer] at hline
  generalize hdetails : (u8 desk ++ u8 r.code ++
    (((s.resumable k user).map Prod.snd).map fun n => u16 n ++ u16 (s.story n).editCount).getD (u16 0)) = details at *
  have haround := hsettled.around hstory hlines (t := ((((s.offer i).granted k).orphansSettled k user).seated k
    { user := user, desk := desk, role := r } details)) (State.seated_touches _ k _ _).story (State.seated_sameLines _ k _ _)
  have hflashes := State.seated_flashes (((s.offer i).granted k).orphansSettled k user) k
    { user := user, desk := desk, role := r } details
  rw [((s.offer i).granted k |>.orphansSettled_touches k user).flashes, ((s.offer i).granted_touches k).flashes,
    State.flashes_offer] at hflashes
  generalize ((((s.offer i).granted k).orphansSettled k user).seated k { user := user, desk := desk, role := r } details) = v
    at *
  obtain ⟨t, c, hstep, hreplied, hraised, htouches, rfl⟩ := host_effect (act := fun s => s.verdictGrant k desk role) (ns := [])
    (ps := [.stories, .lines, .flashes, .channel]) htakes hact htouch.channel (htouch.mono (by decide)) (by decide)
  obtain ⟨hready, hsigned, hgranted, htimer, hdim, hover, hanswered, hhome, hstatus, hlamp, hholds⟩ := hline
  obtain ⟨hstoryResumed, hstoryReleased, hstoryOther, hlinesOther⟩ := haround
  refine ⟨v.withChannel c, s.strangersOrphan k user, (s.resumable k user).map Prod.snd,
    fun n => State.strangersOrphan_iff hagree hk, fun n seconds horphan => ?_, fun m n seconds hm horphan hlower => ?_,
    fun hnone => ?_, hstep, hreplied, hraised, htouches, hready, hsigned, hgranted, htimer, hdim, hover, by rw [hdetails]; exact hanswered,
    hhome, hstatus, hlamp, hholds, ?_, ?_, ?_, hlinesOther, by rw [State.withChannel_flashes, hflashes], ?_⟩
  · rw [State.resumable_of_own (State.orphanAt_iff.2 ⟨seconds, horphan⟩)]
    rfl
  · rw [State.resumable_of_lowest hm (State.orphanAt_iff.2 ⟨seconds, horphan⟩)
      (fun q hq hlow => State.orphanAt_eq_none_iff.2 fun p left => hlower q hq hlow p left) hk]
    rfl
  · rw [State.resumable_of_none (fun m hm => State.orphanAt_eq_none_iff.2 (hnone m hm)) hk]
    rfl
  · intro n hn
    rw [State.withChannel_story, hstoryResumed n hn]
  · intro n hn hne
    rw [State.withChannel_story, hstoryReleased n hn hne]
  · intro n hn hne
    rw [State.withChannel_story, hstoryOther n hn hne]
  · rw [State.withChannel_flashes, hflashes]

end Sys2Proof.Machine

/-! Lamps: what lights them, LAMP, and what keeps their sources (R98 to R100). -/

namespace Sys2Proof.Machine

section Lit
variable {s : State} {k : Nat} {l : Line}

theorem State.lampLit_of_disabled (h : l.state = .disabled) : s.lampLit k l = false := by
  simp only [State.lampLit, h]

/-- What lights a lamp, as the table of R98 gives it. -/
theorem State.lampLit_iff (s : State) (k : Nat) (l : Line) : s.lampLit k l = true ↔ LampLights s k l := by
  unfold LampLights
  by_cases hstate : l.state = .disabled
  · simp [State.lampLit_of_disabled hstate, hstate]
  · unfold State.lampLit
    split
    case h_1 heq => exact absurd heq hstate
    rename_i hopen
    cases hsource : l.lampSource <;> simp only [hstate, ne_eq, not_false_eq_true, true_and]
    case off => exact iff_of_false Bool.false_ne_true not_false
    case error => simp [Latches.any, or_assoc]
    case basket => cases l.user <;> simp
    case urgent => cases l.user <;> simp
    case flash => simp
    case deadline => cases s.clock.state <;> simp [and_comm]
    case overset =>
      cases l.held with
      | none => simp
      | some n => cases hresults : (s.story n).results <;> simp [hresults, and_assoc]

end Lit

/-! ### LAMP (R100) -/

section Choose
variable {s : State} {k source : Nat}

theorem LampSource.ofCode_eq_none (h : 7 < source) : LampSource.ofCode source = none := by
  unfold LampSource.ofCode
  split <;> first | omega | rfl

theorem LampSource.code_ofCode (h : source ≤ 7) : ∃ src, LampSource.ofCode source = some src ∧ src.code = source := by
  interval_cases source <;> exact ⟨_, rfl, rfl⟩

/-- A line's lamp source chosen, and its lamp set anew (R100). -/
def State.lampChosen (s : State) (k : Nat) (src : LampSource) : State :=
  (s.updLine k fun l => { l with lampSource := src }).lampAnew k

theorem State.lampChosen_touches (s : State) (k : Nat) (src : LampSource) : OnlyTouches [.lines] s (s.lampChosen k src) :=
  (s.updLine_touches k _).trans (State.lampAnew_touches _ k) (by decide)

theorem State.lampChosen_line (hk : k < 32) (src : LampSource) : (s.lampChosen k src).line k = { s.line k with
    lampSource := src, lamp := (s.lampChosen k src).lampLit k ((s.lampChosen k src).line k) } := by
  refine (State.lampAnew_line _ hk).trans ?_
  rw [State.line_updLine_self _ hk]
  rfl

theorem State.chooseLamp_bad (h : 31 < k ∨ 7 < source) : s.chooseLamp k source = refuse s .badField := by
  unfold State.chooseLamp
  rcases h with h | h
  · have hline : lineNumberOk k = false := decide_eq_false (show ¬k < 32 by omega)
    split <;> simp [hline]
  · simp [LampSource.ofCode_eq_none h]

theorem State.chooseLamp_done {src : LampSource} (hk : k < 32) (hsource : LampSource.ofCode source = some src) :
    s.chooseLamp k source = (.done, u8 (yesCode ((s.lampChosen k src).line k).lamp), s.lampChosen k src) := by
  simp [State.chooseLamp, hsource, lineNumberOk_of_lt hk, State.lampChosen]

end Choose

theorem hostChoosesLamp {s : State} {tag : Byte} {k source : Nat} (htakes : s.takes (.lamp tag k source) = true) :
    ∃ t, exec (.lamp tag k source) s = .next t ∧ Raised [] s t ∧
      if 31 < k ∨ 7 < source then Replied (.lamp tag k source) .badField [] s t ∧ OnlyTouches [.channel] s t
      else OnlyTouches [.lines, .channel] s t ∧ SameLinesBut k s t ∧
        Replied (.lamp tag k source) .done (u8 (if (t.line k).lamp = true then 1 else 0)) s t ∧
        (t.line k).lampSource.code = source ∧
        t.line k = { s.line k with lampSource := (t.line k).lampSource, lamp := t.lampLit k (t.line k) } ∧
        ((s.line k).state = .disabled → (t.line k).lamp = false) := by
  by_cases hbad : 31 < k ∨ 7 < source
  · obtain ⟨t, hstep, hraised, hreply, htouch⟩ := host_refused (act := fun s => s.chooseLamp k source) htakes
      (State.chooseLamp_bad hbad)
    exact ⟨t, hstep, hraised, by rw [if_pos hbad]; exact ⟨hreply, htouch⟩⟩
  · obtain ⟨hline, hcode⟩ := not_or.1 hbad
    have hk : k < 32 := by omega
    obtain ⟨src, hsource, hback⟩ := LampSource.code_ofCode (Nat.le_of_not_lt hcode)
    have hact := State.chooseLamp_done (s := s.offer (.lamp tag k source)) hk hsource
    have htouch := (s.offer (.lamp tag k source)).lampChosen_touches k src
    have hchosen := State.lampChosen_line (s := s.offer (.lamp tag k source)) hk src
    have hsame : SameLinesBut k (s.offer (.lamp tag k source)) ((s.offer (.lamp tag k source)).lampChosen k src) :=
      (State.updLine_sameLines _ k _).trans (State.lampAnew_sameLines _ k)
    rw [State.line_offer] at hchosen
    generalize (s.offer (.lamp tag k source)).lampChosen k src = v at *
    obtain ⟨t, c, hstep, hreply, hraised, htouches, rfl⟩ := host_effect (act := fun s => s.chooseLamp k source) (ns := [])
      (ps := [.lines, .channel]) htakes hact htouch.channel (htouch.mono (by decide)) (by decide)
    have hlit : (v.line k).lamp = v.lampLit k (v.line k) := congrArg Line.lamp hchosen
    have hstate : (v.line k).state = (s.line k).state := by rw [hchosen]
    have hset : (v.line k).lampSource = src := by rw [hchosen]
    refine ⟨_, hstep, hraised, ?_⟩
    rw [if_neg hbad]
    refine ⟨htouches, fun m hm => ?_, hreply, ?_, ?_, fun hdisabled => ?_⟩
    · rw [State.withChannel_line, hsame m hm, State.line_offer]
    · rw [State.withChannel_line, hset, hback]
    · rw [State.withChannel_lampLit, State.withChannel_line, hset]
      exact hchosen
    · rw [State.withChannel_line, hlit]
      exact State.lampLit_of_disabled (hstate.trans hdisabled)

/-! ### What keeps the source (R99) -/

/-- Every line has the lamp source it had. -/
def SameSources (s t : State) : Prop := ∀ k, (t.line k).lampSource = (s.line k).lampSource

section Sources
variable {s t u : State}

theorem SameSources.trans (h : SameSources s t) (h' : SameSources t u) : SameSources s u := fun k => (h' k).trans (h k)

theorem SameSources.of_lines (h : t.lines = s.lines) : SameSources s t := fun k => by rw [State.line_of_lines h]

theorem State.updLine_sameSources (s : State) (k : Nat) {f : Line → Line} (hf : ∀ l, (f l).lampSource = l.lampSource) :
    SameSources s (s.updLine k f) := fun m => by
  rw [State.line_updLine]
  split
  case isTrue h => rw [hf, h.1]
  case isFalse => rfl

theorem State.lampIf_sameSources (s : State) (k : Nat) (src : LampSource) : SameSources s (s.lampIf k src) := fun m => by
  rw [State.lampIf, State.line_lamps]
  split <;> rfl

theorem State.releaseHold_sameSources (s : State) (n : Nat) : SameSources s (s.releaseHold n) := by
  have hstory : SameSources s (s.updStory n fun r => { r with holder := .absent }) := .of_lines rfl
  cases hholder : (s.story n).holder with
  | absent => exact .of_lines (State.releaseHold_lines (.inl hholder))
  | channel => exact .of_lines (State.releaseHold_lines (.inr hholder))
  | line k =>
    rw [State.releaseHold_of_live hholder]
    exact (hstory.trans (State.updLine_sameSources _ k (f := Line.letGo) fun _ => rfl)).trans (State.lampIf_sameSources _ k _)
  | orphan k user seconds =>
    rw [State.releaseHold_of_orphan hholder]
    exact (hstory.trans (State.updLine_sameSources _ k (f := fun l => { l with held := none }) fun _ => rfl)).trans
      (State.lampIf_sameSources _ k _)

theorem State.releaseHeld_sameSources (s : State) (k : Nat) : SameSources s (s.releaseHeld k) := by
  cases hheld : (s.line k).held with
  | none => rw [State.releaseHeld_of_none hheld]; exact fun _ => rfl
  | some n => rw [State.releaseHeld_of_held hheld]; exact s.releaseHold_sameSources n

theorem State.shutLine_sameSources (s : State) (k : Nat) : SameSources s (s.shutLine k) :=
  ((s.releaseHeld_sameSources k).trans (State.updLine_sameSources _ k (f := Line.disable) fun _ => rfl)).trans
    (.of_lines (s.shutLine_lines k))

theorem State.lineoff_sameSources (s : State) (k : Nat) : SameSources s (s.lineoff k).2.2 := by
  unfold State.lineoff
  split
  · exact fun _ => rfl
  · split
    · exact fun _ => rfl
    · exact s.shutLine_sameSources k

theorem hostStep_sameSources {i : Instr} {act : State → Verdict} (h : ∀ s, SameSources s (act s).2.2) (s : State) :
    ∃ t, hostStep i act s = .next t ∧ SameSources s t := by
  have hoffer : SameSources s (s.offer i) := .of_lines (s.offer_touches i).lines
  refine ⟨_, rfl, ?_⟩
  unfold State.serveHost
  split
  · exact (hoffer.trans (h _)).trans (.of_lines rfl)
  · exact hoffer

theorem State.restart_lines (s : State) : s.restart.lines = s.lines.map Line.disable := by
  have hfit := (State.restartFit_touches s.restartHolds.restartLines).lines
  have hpages := (OnlyTouches.foldl State.restartPage_touches pageIds s.restartHolds.restartLines.restartFit).lines
  unfold State.restart
  dsimp only
  rw [hpages, hfit]
  rfl

theorem State.restart_sameSources (s : State) : SameSources s s.restart := fun k => by
  by_cases hk : k < 32
  · simp [State.line, s.restart_lines, hk, Line.disable, Line.cut]
  · rw [State.line_eq_reset _ hk, State.line_eq_reset _ hk]

end Sources

/-- Settles O42: the table of R98, LAMP, and what LINEOFF, RESTART and power reset leave of a source. -/
theorem lampFollowsItsSource : Obligations.LampFollowsItsSource := by
  refine ⟨State.lampLit_iff, fun s tag k source htakes => hostChoosesLamp htakes, fun s tag m k => ?_, fun s k => ?_,
    fun s k => ?_⟩
  · obtain ⟨t, hstep, hsame⟩ := hostStep_sameSources (i := .lineoff tag m) (fun s => s.lineoff_sameSources m) s
    exact ⟨t, hstep, hsame k⟩
  · refine ⟨_, rfl, ?_⟩
    split
    · exact s.restart_sameSources k
    · rfl
  · refine ⟨_, rfl, ?_⟩
    by_cases hk : k < 32
    · simp [State.line, hk]
      rfl
    · rw [State.line_eq_reset _ hk]
      rfl

end Sys2Proof.Machine

/-! FLASH: the entry it makes, and how it reaches the lines of its desks (R81, R95, R96, R99). -/

namespace Sys2Proof.Machine

section Flash
variable {s : State} {text : List Byte} {mask : BitVec 16}

/-- The flash entered in the list, before any line is told of it (steps 1 and 2 of R96). -/
def State.flashEntered (s : State) (text : List Byte) (mask : BitVec 16) : State :=
  { s with flashes := s.flashes.add text mask (s.flashLines mask) }

/-- Line `k` lies in the unseen set of the new flash. -/
def State.reached (s : State) (mask : BitVec 16) (k : Nat) : Bool := (s.flashLines mask).contains k

/-- Line `k` stood in the unseen set of the flash that has dropped out of the list. -/
def State.lostFlash (s : State) (k : Nat) : Bool := s.flashes.oldest.any fun e => e.unseen.contains k

theorem State.addFlash_eq (s : State) (text : List Byte) (mask : BitVec 16) : s.addFlash text mask =
    (((s.flashEntered text mask).refresh fun k _ => s.reached mask k || s.showsFlash k s.flashes.oldest).wake
      fun k l => s.reached mask k && l.wakeFlash).lamps
      fun k l => l.lampSource == .flash && (s.reached mask k || s.lostFlash k) := by
  have hlost : (fun (k : Nat) (l : Line) => l.lampSource == .flash && ((s.flashLines mask).contains k ||
      match s.flashes.oldest with
      | some e => e.unseen.contains k
      | none => false)) = fun k l => l.lampSource == .flash && (s.reached mask k || s.lostFlash k) := by
    funext k l
    rw [State.reached, State.lostFlash]
    cases s.flashes.oldest <;> rfl
  exact congrArg (fun p => State.lamps (((s.flashEntered text mask).refresh
    fun k _ => s.reached mask k || s.showsFlash k s.flashes.oldest).wake fun k l => s.reached mask k && l.wakeFlash) p) hlost

theorem State.addFlash_touches (s : State) (text : List Byte) (mask : BitVec 16) :
    OnlyTouches [.flashes, .lines] s (s.addFlash text mask) := by
  intro p hp
  cases p <;> first | rfl | exact absurd (by decide) hp

theorem State.addFlash_told (s : State) (text : List Byte) (mask : BitVec 16) :
    OnlyTouches [.lines] (s.flashEntered text mask) (s.addFlash text mask) := by
  intro p hp
  cases p <;> first | rfl | exact absurd (by decide) hp

/-- How a line stands once it has been told of a flash, its lamp apart: refreshed if it is READY and its newest unseen flash
changed, woken if it is DIM and may wake. -/
def State.flashTold (u : State) (k : Nat) (refreshed woken : Bool) (l : Line) : Line :=
  if l.state = .ready ∧ refreshed = true then u.withStatus k l
  else if l.state = .dim ∧ woken = true then u.awake k l
  else l

theorem OnlyTouches.awake {s t : State} (h : OnlyTouches [.lines] s t) (k : Nat) (l : Line) : t.awake k l = s.awake k l := by
  simp only [State.awake, h.homeScreen, h.statusLine]

/-- How a line stands past a FLASH (R96). -/
theorem State.addFlash_line {k : Nat} (hk : k < 32) {l : Line}
    (hl : l = (s.flashEntered text mask).flashTold k (s.reached mask k || s.showsFlash k s.flashes.oldest)
      (s.reached mask k && (s.line k).wakeFlash) (s.line k)) :
    (s.addFlash text mask).line k =
      if l.lampSource = .flash ∧ (s.reached mask k = true ∨ s.lostFlash k = true) then
        { l with lamp := (s.addFlash text mask).lampLit k l } else l := by
  have hentered : (s.flashEntered text mask).line k = s.line k := rfl
  have hrefreshed := State.line_refresh (s := s.flashEntered text mask)
    (fun k _ => s.reached mask k || s.showsFlash k s.flashes.oldest) k
  have hawake := ((s.flashEntered text mask).refresh_touches
    fun k _ => s.reached mask k || s.showsFlash k s.flashes.oldest).awake k
  have hlit (m : Line) : (((s.flashEntered text mask).refresh fun k _ => s.reached mask k || s.showsFlash k s.flashes.oldest).wake
      fun k l => s.reached mask k && l.wakeFlash).lampLit k m = (s.addFlash text mask).lampLit k m := by
    rw [State.addFlash_eq]
    exact State.lampLit_congr rfl rfl rfl rfl k m
  have htold : (((s.flashEntered text mask).refresh fun k _ => s.reached mask k || s.showsFlash k s.flashes.oldest).wake
      fun k l => s.reached mask k && l.wakeFlash).line k = l := by
    rw [State.line_wake, hl, State.flashTold]
    by_cases hrefresh : (s.line k).state = .ready ∧ (s.reached mask k || s.showsFlash k s.flashes.oldest) = true
    · rw [hentered, if_pos ⟨hk, hrefresh⟩] at hrefreshed
      rw [hrefreshed, if_pos hrefresh, if_neg]
      rintro ⟨-, hdim, -⟩
      rw [State.withStatus_eq] at hdim
      exact absurd (hrefresh.1.symm.trans hdim) (by decide)
    · rw [hentered, if_neg fun h => hrefresh h.2] at hrefreshed
      rw [hrefreshed, if_neg hrefresh, hawake]
      simp only [hk, true_and]
  conv_lhs => rw [State.addFlash_eq, State.line_lamps, htold, hlit]
  simp only [hk, true_and, Bool.and_eq_true, Bool.or_eq_true, beq_iff_eq]

/-! ### A line told of a flash -/

section Told
variable {u : State} {k : Nat} {l : Line} {refreshed woken : Bool}

theorem State.withStatus_told (u : State) (k : Nat) (l : Line) : l.sameSession (u.withStatus k l) := by
  rw [State.withStatus_eq]
  rfl

theorem State.awake_told (u : State) (k : Nat) (l : Line) : l.sameSession (u.awake k l) := by
  unfold State.awake
  dsimp only
  split <;> rfl

theorem State.flashTold_sameSession (u : State) (k : Nat) (refreshed woken : Bool) (l : Line) :
    l.sameSession (u.flashTold k refreshed woken l) := by
  unfold State.flashTold
  split
  · exact u.withStatus_told k l
  · split
    · exact u.awake_told k l
    · rfl

theorem State.awake_of_user {w : SignedOn} (huser : l.user = some w) : u.awake k l = { l with
    state := .ready, dimTimer := dimSet l.dimTime, display := some (.home (u.homeScreen w.desk 0 l.windowSize))
    status := some (u.statusLine k w l.withdrawn) } := by
  simp only [State.awake, Line.armDim, huser]
  rfl

theorem State.flashTold_of_woken (h : l.state = .dim ∧ woken = true) : u.flashTold k refreshed woken l = u.awake k l := by
  have hready : ¬(l.state = .ready ∧ refreshed = true) := fun hr => absurd (h.1.symm.trans hr.1) (by decide)
  rw [State.flashTold, if_neg hready, if_pos h]

theorem State.flashTold_of_asleep (h : ¬(l.state = .dim ∧ woken = true)) :
    (u.flashTold k refreshed woken l).state = l.state ∧ (u.flashTold k refreshed woken l).dimTimer = l.dimTimer ∧
      (u.flashTold k refreshed woken l).display = l.display := by
  unfold State.flashTold
  rw [if_neg h]
  split
  · rw [State.withStatus_eq]
    exact ⟨rfl, rfl, rfl⟩
  · exact ⟨rfl, rfl, rfl⟩

theorem State.flashTold_status {w : SignedOn} (huser : l.user = some w) (hrefreshed : refreshed = true)
    (hready : (u.flashTold k refreshed woken l).state = .ready) :
    (u.flashTold k refreshed woken l).status = some (u.statusLine k w l.withdrawn) := by
  by_cases hwake : l.state = .dim ∧ woken = true
  · rw [State.flashTold_of_woken hwake, State.awake_of_user huser]
  · obtain ⟨hstate, -, -⟩ := State.flashTold_of_asleep (u := u) (k := k) (refreshed := refreshed) hwake
    rw [State.flashTold, if_pos ⟨hstate.symm.trans hready, hrefreshed⟩, State.withStatus_eq]
    simp only [huser, Option.map_some, Option.some_or]

end Told

theorem State.lamp_of_line {t : State} {k : Nat} {l m : Line} (h : m = { l with lamp := t.lampLit k l }) :
    m.lamp = t.lampLit k m := by
  subst h
  rfl

theorem State.showsFlash_of_newest {k : Nat} {e : Option FlashEntry} (hgone : e.isSome = true) (h : s.newestUnseen k = e) :
    s.showsFlash k e = true := by
  obtain ⟨x, rfl⟩ := Option.isSome_iff_exists.1 hgone
  simp [State.showsFlash, h]

theorem State.reached_iff {k : Nat} : s.reached mask k = true ↔ k ∈ s.flashLines mask := List.contains_iff_mem

theorem State.lostFlash_of_mem {k : Nat} (h : ∃ e ∈ s.flashes.oldest, k ∈ e.unseen) : s.lostFlash k = true := by
  obtain ⟨e, he, hk⟩ := h
  rw [State.lostFlash, Option.mem_def.1 he]
  exact List.contains_iff_mem.2 hk

theorem State.mem_flashLines {k : Nat} (h : k ∈ s.flashLines mask) : k < 32 ∧ ∃ w, (s.line k).user = some w := by
  obtain ⟨hrange, hline⟩ := List.mem_filter.1 h
  refine ⟨List.mem_range.1 hrange, ?_⟩
  cases huser : (s.line k).user with
  | none => simp [huser] at hline
  | some w => exact ⟨w, rfl⟩

/-- What a FLASH does at one line (R81, R96, R99). -/
theorem addFlash_reaches {k : Nat} (hk : k < 32) : (s.line k).sameSession ((s.addFlash text mask).line k) ∧
    (if (s.line k).state = .dim ∧ k ∈ s.flashLines mask ∧ (s.line k).wakeFlash = true then
      ((s.addFlash text mask).line k).state = .ready ∧
      ((s.addFlash text mask).line k).dimTimer = dimSet (s.line k).dimTime ∧
      ∀ u ∈ (s.line k).user, ((s.addFlash text mask).line k).display =
        some (.home ((s.addFlash text mask).homeScreen u.desk 0 (s.line k).windowSize))
    else ((s.addFlash text mask).line k).state = (s.line k).state ∧
      ((s.addFlash text mask).line k).dimTimer = (s.line k).dimTimer ∧
      ((s.addFlash text mask).line k).display = (s.line k).display) ∧
    (((s.addFlash text mask).line k).state = .ready →
      (k ∈ s.flashLines mask ∨ s.flashes.oldest.isSome = true ∧ s.newestUnseen k = s.flashes.oldest) →
      ∀ u ∈ (s.line k).user, ((s.addFlash text mask).line k).status =
        some ((s.addFlash text mask).statusLine k u (s.line k).withdrawn)) ∧
    ((s.line k).lampSource = .flash → (k ∈ s.flashLines mask ∨ ∃ e ∈ s.flashes.oldest, k ∈ e.unseen) →
      ((s.addFlash text mask).line k).lamp = (s.addFlash text mask).lampLit k ((s.addFlash text mask).line k)) ∧
    (s.flashes.oldest = none → k ∉ s.flashLines mask → (s.addFlash text mask).line k = s.line k) := by
  have hline := State.addFlash_line (s := s) (text := text) (mask := mask) hk rfl
  have htold := s.addFlash_told text mask
  have hsession := State.flashTold_sameSession (s.flashEntered text mask) k
    (s.reached mask k || s.showsFlash k s.flashes.oldest) (s.reached mask k && (s.line k).wakeFlash) (s.line k)
  have hwoken (h : (s.line k).state = .dim ∧ k ∈ s.flashLines mask ∧ (s.line k).wakeFlash = true) :
      (s.line k).state = .dim ∧ (s.reached mask k && (s.line k).wakeFlash) = true := by
    obtain ⟨hdim, hmem, hwake⟩ := h
    exact ⟨hdim, by rw [State.reached_iff.2 hmem, hwake]; rfl⟩
  have hasleep (h : ¬((s.line k).state = .dim ∧ k ∈ s.flashLines mask ∧ (s.line k).wakeFlash = true)) :
      ¬((s.line k).state = .dim ∧ (s.reached mask k && (s.line k).wakeFlash) = true) := fun hboth => by
    obtain ⟨hdim, hreach⟩ := hboth
    obtain ⟨hmem, hwake⟩ := Bool.and_eq_true_iff.1 hreach
    exact h ⟨hdim, State.reached_iff.1 hmem, hwake⟩
  have hstatus {w : SignedOn} (huser : (s.line k).user = some w)
      (hmem : k ∈ s.flashLines mask ∨ s.flashes.oldest.isSome = true ∧ s.newestUnseen k = s.flashes.oldest) :=
    State.flashTold_status (u := s.flashEntered text mask) (k := k) (woken := s.reached mask k && (s.line k).wakeFlash) huser
      (refreshed := s.reached mask k || s.showsFlash k s.flashes.oldest) (by
        rcases hmem with hmem | ⟨hgone, hnewest⟩
        · rw [State.reached_iff.2 hmem]
          rfl
        · rw [State.showsFlash_of_newest hgone hnewest, Bool.or_true])
  have hlamp : ∃ lamp, (s.addFlash text mask).line k = { (s.flashEntered text mask).flashTold k
      (s.reached mask k || s.showsFlash k s.flashes.oldest) (s.reached mask k && (s.line k).wakeFlash) (s.line k) with
      lamp := lamp } := by
    rw [hline]
    split <;> exact ⟨_, rfl⟩
  obtain ⟨lamp, hlamp⟩ := hlamp
  refine ⟨?_, ?_, fun hready hmem u hu => ?_, fun hsource hmem => ?_, fun hgone hmem => ?_⟩
  · rw [hlamp]
    unfold Line.sameSession at hsession ⊢
    rw [hsession]
  · by_cases hwake : (s.line k).state = .dim ∧ k ∈ s.flashLines mask ∧ (s.line k).wakeFlash = true
    · obtain ⟨-, v, hv⟩ := State.mem_flashLines hwake.2.1
      rw [if_pos hwake, hlamp, State.flashTold_of_woken (hwoken hwake), State.awake_of_user hv]
      refine ⟨rfl, rfl, fun u hu => ?_⟩
      obtain rfl : v = u := Option.some.inj (hv.symm.trans hu)
      rw [htold.homeScreen]
    · rw [if_neg hwake, hlamp]
      exact State.flashTold_of_asleep (hasleep hwake)
  · rw [hlamp] at hready ⊢
    rw [htold.statusLine]
    exact hstatus hu hmem hready
  · have hset : (s.reached mask k = true ∨ s.lostFlash k = true) := hmem.imp State.reached_iff.2 State.lostFlash_of_mem
    have hkept : ((s.flashEntered text mask).flashTold k (s.reached mask k || s.showsFlash k s.flashes.oldest)
        (s.reached mask k && (s.line k).wakeFlash) (s.line k)).lampSource = .flash := by
      rw [hsession]
      exact hsource
    rw [if_pos ⟨hkept, hset⟩] at hline
    exact State.lamp_of_line hline
  · have hreach : s.reached mask k = false := by
      rw [← Bool.not_eq_true]
      exact fun h => hmem (State.reached_iff.1 h)
    have hshown : s.showsFlash k s.flashes.oldest = false := by rw [hgone]; rfl
    have hlost : s.lostFlash k = false := by rw [State.lostFlash, hgone]; rfl
    rw [hreach, hshown, hlost] at hline
    simpa [State.flashTold] using hline

end Flash

theorem State.withChannel_homeScreen (v : State) (c : Channel) (d p w : Nat) :
    (v.withChannel c).homeScreen d p w = v.homeScreen d p w := by
  simp only [State.homeScreen, State.withChannel_desk,
    (State.setChannel_touches v c).homeEntries (t := v.withChannel c) (by decide)]

/-- Settles O41: FLASH enters the list, and each line is told of it as it stands. -/
theorem flashReachesDesks : Obligations.FlashReachesDesks := by
  intro s tag text mask unseen i gone htakes hshort hlong hchars hmask hunseen
  have htext : flashTextOk text = true := by
    simpa [flashTextOk, hshort, hlong] using hchars
  have hlines : (s.offer i).flashLines mask = unseen := by
    rw [hunseen, State.flashLines]
    refine List.filter_congr fun k _ => ?_
    dsimp only
    rw [State.line_offer]
    cases (s.line k).user <;> rfl
  have hmaskOk : (mask == 0) = false := beq_eq_false_iff_ne.2 hmask
  have hact : (s.offer i).flash text mask = (.done, u8 s.flashes.next ++ u8 ((gone.map fun e => e.number).getD 0) ++
      u8 unseen.length, (s.offer i).addFlash text mask) := by
    simp only [State.flash, htext, hmaskOk, hlines, State.flashes_offer]
    rfl
  have hreaches (k : Nat) (hk : k < 32) := addFlash_reaches (s := s.offer i) (text := text) (mask := mask) hk
  have htouch := (s.offer i).addFlash_touches text mask
  have hflashes := (s.offer i).addFlash_flashes text mask
  simp only [State.line_offer, State.flashes_offer, hlines, State.newestUnseen_congr (s.flashes_offer i)] at hreaches hflashes
  generalize (s.offer i).addFlash text mask = v at *
  obtain ⟨t, c, hstep, hreply, hraised, htouches, rfl⟩ := host_effect (act := fun s => s.flash text mask) (ns := [])
    (ps := [.flashes, .lines, .channel]) htakes hact htouch.channel (htouch.mono (by decide)) (by decide)
  have hgone : s.flashes.oldest = gone := rfl
  refine ⟨_, hstep, hreply, hraised, htouches, ?_, ?_, ?_⟩
  · rw [State.withChannel_flashes, hflashes]
    rfl
  · rw [State.withChannel_flashes, hflashes]
    rfl
  · simpa only [State.withChannel_line, State.withChannel_homeScreen, State.withChannel_statusLine,
      State.withChannel_lampLit, hgone] using hreaches

end Sys2Proof.Machine

/-! Power reset and RESTART (R18, R19, R40, R41, R59, R83, R84, R101, R125, R144, R166, R167, R188, R189). -/

namespace Sys2Proof.Machine

/-! ### RESTART asked for (R188) -/

section Asked
variable {s : State} {i : Instr}

theorem markAnswered_append {before behind : List Request} {r : Request} (hbefore : ∀ q ∈ before, q.answered = true)
    (hr : r.answered = false) :
    markAnswered (before ++ r :: behind) = before ++ { r with answered := true } :: behind := by
  induction before with
  | nil => simp [markAnswered, hr]
  | cons q before ih =>
    rw [List.cons_append, markAnswered, if_pos (hbefore q (List.mem_cons_self ..)), ih fun x hx => hbefore x (.tail q hx)]
    rfl

/-- The oldest unanswered request has answered ones alone before it (R180). -/
theorem Channel.oldest_split {c : Channel} (h : c.oldest = some i) : ∃ before behind,
    c.intake = before ++ { cmd := i, answered := false } :: behind ∧ ∀ r ∈ before, r.answered = true := by
  obtain ⟨r, hfind, rfl⟩ := Option.map_eq_some_iff.1 h
  obtain ⟨hr, before, behind, hsplit, hbefore⟩ := List.find?_eq_some_iff_append.1 hfind
  have hopen : r.answered = false := by simpa using hr
  exact ⟨before, behind, by rw [hsplit, ← hopen], fun q hq => by simpa using hbefore q hq⟩

theorem execRestart_of_takes {tag : Byte} (htakes : s.takes (.restart tag) = true) : exec (.restart tag) s =
    .next ((s.offer (.restart tag)).withChannel ((s.offer (.restart tag)).channel.beginRestart (.restart tag))) := by
  have hmatch : exec (.restart tag) s = execRestart tag s := rfl
  simp only [hmatch, execRestart, htakes, if_true]
  rfl

theorem Channel.beginRestart_replies {c : Channel} {before behind : List Request}
    (hintake : c.intake = before ++ { cmd := i, answered := false } :: behind) (hbefore : ∀ r ∈ before, r.answered = true) :
    (c.beginRestart i).replies = c.replies ++
      [{ tag := i.tag, kind := i.kind, status := .done, details := [], overflow := false }] ++
      (behind.filter fun r => !r.answered).map overtaken := by
  have hkept : before.filter (fun r => !r.answered) = [] :=
    List.filter_eq_nil_iff.2 fun r hr => by simp [hbefore r hr]
  simp [Channel.beginRestart, Channel.answer, hintake, markAnswered_append hbefore, hkept]

theorem Channel.beginRestart_intake (c : Channel) (i : Instr) :
    (c.beginRestart i).intake = c.intake.map fun r => { r with answered := true } := by
  have hmark (rs : List Request) : (markAnswered rs).map (fun r => { r with answered := true }) =
      rs.map fun r => { r with answered := true } := by
    induction rs with
    | nil => rfl
    | cons r rs ih =>
      rw [markAnswered]
      split
      · rw [List.map_cons, ih, List.map_cons]
      · rfl
  exact hmark c.intake

/-- Until a RESTART takes effect every host request is discarded (R188). -/
theorem exec_of_restarting (hrestarting : s.channel.restarting = true) (hhost : i.fromHost = true) : exec i s = .next s := by
  have hoffer : s.offer i = s := by simp [State.offer, hrestarting]
  have htakes : s.takes i = false := by simp [State.takes, hrestarting]
  by_cases hrestart : ∃ tag, i = .restart tag
  · obtain ⟨tag, rfl⟩ := hrestart
    have hmatch : exec (.restart tag) s = execRestart tag s := rfl
    simp [hmatch, execRestart, htakes, hoffer]
  · rw [exec_fromHost hhost fun tag h => hrestart ⟨tag, h⟩, hostStep_not_taken htakes, hoffer]

end Asked

theorem hostRestarts {s : State} {tag : Byte} (htakes : s.takes (.restart tag) = true) :
    ∃ t, exec (.restart tag) s = .next t ∧ OnlyTouches [.channel] s t ∧ Raised [] s t ∧ t.channel.restarting = true ∧
      (∃ before behind, (s.offer (.restart tag)).channel.intake = before ++ { cmd := .restart tag, answered := false } :: behind ∧
        (∀ r ∈ before, r.answered = true) ∧
        t.channel.replies = (s.offer (.restart tag)).channel.replies ++
          [{ tag := tag, kind := kindWord "RESTART", status := .done, details := [], overflow := false }] ++
          (behind.filter fun r => !r.answered).map fun r =>
            { tag := r.cmd.tag, kind := r.cmd.kind, status := .busy, details := [], overflow := false }) ∧
      t.channel.intake = (s.offer (.restart tag)).channel.intake.map fun r => { r with answered := true } := by
  obtain ⟨before, behind, hsplit, hbefore⟩ := Channel.oldest_split (State.takes_oldest htakes)
  refine ⟨_, execRestart_of_takes htakes, (s.offer_touches _).trans (State.withChannel_touches _ _) (by decide), ?_, rfl,
    ⟨before, behind, hsplit, hbefore, Channel.beginRestart_replies hsplit hbefore⟩, Channel.beginRestart_intake _ _⟩
  exact ⟨s.offer_notices _, s.offer_noticesLost _⟩

/-! ### Power reset -/

section Power
variable {s : State}

/-- The state a power reset leaves (R18, R40, R83). -/
def State.powered (s : State) : State := { State.reset with
  lines := s.lines.map fun l => { Line.reset with carrier := l.carrier }
  output := { State.reset.output with
    portA := { SetterPort.reset with lead := s.output.portA.lead }
    portB := { SetterPort.reset with lead := s.output.portB.lead } }
  choices := s.choices
  pending := s.pending }

theorem exec_powerReset (s : State) : exec .powerReset s = .next s.powered := rfl

theorem State.powered_story (s : State) {n : Nat} (hn : n ∈ storyIds) : s.powered.story n = Story.freed := by
  obtain ⟨hlow, hhigh⟩ := mem_storyIds.1 hn
  obtain ⟨m, rfl⟩ := Nat.exists_eq_add_of_le' hlow
  have hm : m < 512 := by omega
  simp [State.story, State.powered, State.reset, hm]

theorem State.powered_desk (s : State) {d : Nat} (hd : d < 16) : s.powered.desk d = { basket := [], spikes := [], urgent := 0 } := by
  simp [State.desk, State.powered, State.reset, hd]

theorem State.powered_line (s : State) {k : Nat} (hk : k < 32) :
    s.powered.line k = { Line.reset with carrier := (s.line k).carrier } := by
  simp [State.line, State.powered, hk]

theorem State.powered_page (s : State) {g : Nat} (hg : g ∈ pageIds) : s.powered.page g = Page.shut := by
  obtain ⟨m, hm, rfl⟩ := List.mem_map.1 hg
  have hm' : m < 48 := List.mem_range.1 hm
  simp [State.page, State.powered, State.reset, hm']

theorem State.powered_style (s : State) {n : Nat} (hn : n < 32) : s.powered.style n = Style.reset := by
  simp [State.style, State.powered, State.reset, hn]

theorem State.powered_entry (s : State) {c : Nat} (hc : c < 128) : s.powered.entry c = resetEntry c := by
  simp [State.entry, State.powered, State.reset, hc]

theorem State.powered_port (s : State) (p : Port) : s.powered.port p = { SetterPort.reset with lead := (s.port p).lead } := by
  cases p <;> rfl

end Power

/-! ### Pages at RESTART (R144, R166) -/

/-- A page that a RESTART returns to MAKEUP. -/
abbrev PageState.returns (v : PageState) : Prop := v = .releasing ∨ v = .queued ∨ v = .setting

section Pages
variable {s t : State} {g : Nat}

/-- A judgement reads of the stories their fits and their results (R133). -/
theorem State.judgement_of_fits (h : ∀ n, (t.story n).fit = (s.story n).fit ∧ (t.story n).results = (s.story n).results)
    (p : Page) : t.judgement p = s.judgement p := by
  have hfit (n : Nat) := (h n).1
  have hresults (n : Nat) := (h n).2
  simp only [State.judgement, List.any_map, Function.comp_def, hfit, hresults]

/-- The last job record of a page as a RESTART ends it (R144). -/
def State.restartRecord (s : State) (g : Nat) : State :=
  if (s.page g).state = .releasing then s else s.endRecord g .cancelled

theorem State.restartPage_of_returns (h : (s.page g).state.returns) : s.restartPage g = (s.restartRecord g).returnPage g := by
  rcases h with h | h | h <;> simp [State.restartPage, State.restartRecord, h]

theorem State.restartPage_of_stays (h : ¬(s.page g).state.returns) : s.restartPage g = s := by
  cases hstate : (s.page g).state <;> simp [PageState.returns, hstate] at h <;> simp [State.restartPage, hstate]

theorem State.restartRecord_touches (s : State) (g : Nat) : OnlyTouches [.pages] s (s.restartRecord g) := by
  unfold State.restartRecord
  split
  · exact .refl _ s
  · exact s.endRecord_touches g _

theorem State.restartRecord_page (hg : 1 ≤ g ∧ g ≤ 48) : (s.restartRecord g).page g = { s.page g with
    job := if (s.page g).state = .releasing then (s.page g).job
      else (s.page g).job.map fun j => { j with outcome := .cancelled } } := by
  unfold State.restartRecord
  by_cases h : (s.page g).state = .releasing
  · rw [if_pos h, if_pos h]
  · rw [if_neg h, if_neg h, State.endRecord, State.page_updPage_self _ hg]

theorem State.restartRecord_samePages (s : State) (g : Nat) : SamePagesBut g s (s.restartRecord g) := fun h hh => by
  unfold State.restartRecord
  split
  · rfl
  · rw [State.endRecord, State.page_updPage_ne _ hh]

/-- The stories of one page at RESTART (R144). -/
theorem State.restartPage_story (s : State) (hg : 1 ≤ g ∧ g ≤ 48) (n : Nat) : (s.restartPage g).story n =
    if (s.page g).state.returns ∧ n ∈ (s.page g).stories ∧ (s.story n).stage = .setting then
      { s.story n with stage := .placed } else s.story n := by
  by_cases h : (s.page g).state.returns
  · have hslots : ((s.restartRecord g).page g).stories = (s.page g).stories := by
      rw [State.restartRecord_page hg]
      rfl
    rw [State.restartPage_of_returns h, State.story_congr (State.returnPage_stories _ g),
      (State.moveStories_moved (s.restartRecord g) g (old := .setting) (new := .placed)) n, hslots,
      (s.restartRecord_touches g).story]
    simp only [h, true_and]
  · rw [State.restartPage_of_stays h, if_neg fun hn => h hn.1]

theorem State.restartPage_samePages (s : State) (g : Nat) : SamePagesBut g s (s.restartPage g) := by
  by_cases h : (s.page g).state.returns
  · rw [State.restartPage_of_returns h]
    exact fun q hq => (State.returnPage_samePages _ g q hq).trans (s.restartRecord_samePages g q hq)
  · rw [State.restartPage_of_stays h]
    exact fun _ _ => rfl

theorem State.restartPage_page (hg : 1 ≤ g ∧ g ≤ 48) (h : (s.page g).state.returns) : (s.restartPage g).page g =
    { s.page g with
      state := .makeup, trim := false, fit := (s.restartPage g).judgement (s.page g)
      job := if (s.page g).state = .releasing then (s.page g).job
        else (s.page g).job.map fun j => { j with outcome := .cancelled } } := by
  have hpage := State.returnPage_page (s.restartRecord g) hg
  have hjudged : ((s.restartRecord g).returnPage g).judgement ((s.restartRecord g).page g) =
      ((s.restartRecord g).returnPage g).judgement (s.page g) := by
    rw [State.restartRecord_page hg]
    exact State.judgement_page rfl rfl
  rw [State.restartPage_of_returns h, hpage, hjudged]
  generalize ((s.restartRecord g).returnPage g).judgement (s.page g) = fit
  rw [State.restartRecord_page hg]

/-! ### All the pages, in page order -/

theorem restartPages_page {gs : List Nat} (hids : ∀ g ∈ gs, 1 ≤ g ∧ g ≤ 48) (hnodup : gs.Nodup) (s : State) :
    (∀ g ∉ gs, (gs.foldl State.restartPage s).page g = s.page g) ∧
      (∀ n, ((gs.foldl State.restartPage s).story n).fit = (s.story n).fit ∧
        ((gs.foldl State.restartPage s).story n).results = (s.story n).results) ∧
      (∀ g ∈ gs, (gs.foldl State.restartPage s).page g =
        if (s.page g).state.returns then
          { s.page g with
            state := .makeup, trim := false, fit := s.judgement (s.page g)
            job := if (s.page g).state = .releasing then (s.page g).job
              else (s.page g).job.map fun j => { j with outcome := .cancelled } }
        else s.page g) ∧
      ∀ n, (gs.foldl State.restartPage s).story n =
        if (s.story n).stage = .setting ∧ ∃ g ∈ gs, (s.page g).state.returns ∧ n ∈ (s.page g).stories then
          { s.story n with stage := .placed } else s.story n := by
  induction gs using List.reverseRecOn with
  | nil => exact ⟨fun _ _ => rfl, fun _ => ⟨rfl, rfl⟩, nofun, fun n => by simp⟩
  | append_singleton gs g ih =>
    have hg := hids g (by simp)
    obtain ⟨hnodup, -, hfresh⟩ := List.nodup_append.1 hnodup
    have hnew : g ∉ gs := fun hmem => hfresh g hmem g (by simp) rfl
    obtain ⟨hothers, hfits, hpages, hstories⟩ := ih (fun h hh => hids h (by simp [hh])) hnodup
    rw [List.foldl_append, List.foldl_cons, List.foldl_nil]
    generalize gs.foldl State.restartPage s = u at *
    have hstory := State.restartPage_story u hg
    have hsame := u.restartPage_samePages g
    rw [hothers g hnew] at hstory
    have hfits' (n : Nat) : ((u.restartPage g).story n).fit = (s.story n).fit ∧
        ((u.restartPage g).story n).results = (s.story n).results := by
      rw [hstory]
      split <;> exact hfits n
    refine ⟨fun h hh => ?_, hfits', fun h hh => ?_, fun n => ?_⟩
    · have hne : h ≠ g := fun heq => hh (by simp [heq])
      rw [hsame h hne, hothers h fun hmem => hh (by simp [hmem])]
    · by_cases heq : h = g
      · subst heq
        by_cases hreturns : (s.page h).state.returns
        · rw [if_pos hreturns, State.restartPage_page hg (by rw [hothers h hnew]; exact hreturns), hothers h hnew,
            State.judgement_of_fits hfits']
        · rw [if_neg hreturns, State.restartPage_of_stays (by rw [hothers h hnew]; exact hreturns), hothers h hnew]
      · rw [hsame h heq, hpages h (by simpa [heq] using hh)]
    · have hbefore := hstories n
      rw [hstory]
      by_cases hmoved : (s.story n).stage = .setting ∧ ∃ g ∈ gs, (s.page g).state.returns ∧ n ∈ (s.page g).stories
      · obtain ⟨hstage, h, hh, hreturns⟩ := hmoved
        have hlater : (s.story n).stage = .setting ∧ ∃ h ∈ gs ++ [g], (s.page h).state.returns ∧ n ∈ (s.page h).stories :=
          ⟨hstage, h, List.mem_append_left _ hh, hreturns⟩
        rw [if_pos ⟨hstage, h, hh, hreturns⟩] at hbefore
        rw [if_pos hlater, hbefore, if_neg]
        exact fun hplaced => absurd hplaced.2.2 (by simp)
      · rw [if_neg hmoved] at hbefore
        rw [hbefore]
        refine if_congr ⟨?_, ?_⟩ rfl rfl
        · rintro ⟨hreturns, hmem, hstage⟩
          exact ⟨hstage, g, by simp, hreturns, hmem⟩
        · rintro ⟨hstage, h, hh, hreturns⟩
          rcases List.mem_append.1 hh with hold | hlast
          · exact absurd ⟨hstage, h, hold, hreturns⟩ hmoved
          · obtain rfl := List.mem_singleton.1 hlast
            exact ⟨hreturns.1, hreturns.2, hstage⟩

end Pages

/-! ### RESTART takes effect (R188) -/

section Effect
variable {s : State}

theorem mem_pageIds {g : Nat} : g ∈ pageIds ↔ 1 ≤ g ∧ g ≤ 48 := by
  simp only [pageIds, Config.pages, List.mem_map, List.mem_range]
  constructor
  · rintro ⟨m, hm, rfl⟩
    omega
  · rintro ⟨hlow, hhigh⟩
    exact ⟨g - 1, by omega, by omega⟩

theorem pageIds_nodup : pageIds.Nodup := List.nodup_range.map fun _ _ h => Nat.succ_injective h

/-- The records of a RESTART before its pages are reached. -/
def State.restartBase (s : State) : State := s.restartHolds.restartLines.restartFit

theorem State.restartRecords_eq (s : State) : s.restartRecords = pageIds.foldl State.restartPage s.restartBase := rfl

theorem State.restartBase_touches (s : State) : OnlyTouches [.stories, .lines, .flashes, .fit] s s.restartBase :=
  (((State.restartHolds_touches s).mono (by decide)).trans (State.restartLines_touches _) (by decide)).trans
    (State.restartFit_touches _) (by decide)

theorem State.restartHolds_story (s : State) {n : Nat} (hn : n ∈ storyIds) :
    s.restartHolds.story n = { s.story n with holder := .absent } := by
  obtain ⟨hlow, hhigh⟩ := mem_storyIds.1 hn
  obtain ⟨m, rfl⟩ := Nat.exists_eq_add_of_le' hlow
  have hm : m < 512 := by omega
  simp [State.story, State.restartHolds, hm]

theorem State.restartBase_story (s : State) {n : Nat} (hn : n ∈ storyIds) : s.restartBase.story n = { s.story n with
    holder := .absent
    fit := if s.fit.inFlight.any (fun c => !c.discard && c.story == n) = true then .stale else (s.story n).fit
    changed := if s.fit.inFlight.any (fun c => !c.discard && c.story == n) = true then false else (s.story n).changed } := by
  have hheld : s.restartHolds.restartLines.story n = { s.story n with holder := .absent } := by
    rw [(State.restartLines_touches _).story, State.restartHolds_story s hn]
  have hflight : s.restartHolds.restartLines.fit = s.fit := rfl
  rw [State.restartBase, State.restartFit, hflight]
  cases hcomputing : s.fit.inFlight with
  | none => simp [hheld]
  | some c =>
    dsimp only
    by_cases hdiscard : c.discard = true
    · rw [if_pos hdiscard]
      simp only [Option.any_some, hdiscard, Bool.not_true, Bool.false_and, Bool.false_eq_true, if_false]
      exact hheld
    · rw [if_neg hdiscard]
      have hlive : (!c.discard && c.story == n) = (c.story == n) := by simp [hdiscard]
      simp only [Option.any_some, hlive, beq_iff_eq]
      rw [State.setFitQueue_story]
      by_cases heq : c.story = n
      · subst heq
        rw [State.story_updStory_self _ (mem_storyIds.1 hn), if_pos rfl, if_pos rfl]
        exact congrArg (fun r : Story => { r with fit := .stale, changed := false }) hheld
      · rw [State.story_updStory_ne _ (Ne.symm heq), if_neg heq, if_neg heq]
        exact hheld

theorem State.restartBase_fit (s : State) : s.restartBase.fit = { s.fit with
    inFlight := none
    queue := match s.fit.inFlight with
      | some c => if c.discard = true then s.fit.queue else s.fit.queue ++ [c.story]
      | none => s.fit.queue } := by
  have hflight : s.restartHolds.restartLines.fit = s.fit := rfl
  rw [State.restartBase, State.restartFit, hflight]
  cases hcomputing : s.fit.inFlight with
  | none =>
    have hsame : s.fit = { s.fit with inFlight := none, queue := s.fit.queue } := by rw [← hcomputing]
    exact hflight.trans hsame
  | some c =>
    dsimp only
    by_cases hdiscard : c.discard = true
    · rw [if_pos hdiscard, if_pos hdiscard]
    · rw [if_neg hdiscard, if_neg hdiscard]
      rfl

theorem PageAgrees.returns {g n : Nat} (h : PageAgrees g s) (hn : n ∈ (s.page g).stories)
    (hsetting : (s.story n).stage = .setting) : (s.page g).state.returns := by
  obtain ⟨-, hagrees⟩ := h
  obtain ⟨-, -, -, -, hstage⟩ := hagrees n hn
  cases hstate : (s.page g).state <;> simp [PageState.returns, hstate, hsetting] at hstage ⊢

theorem State.restart_parts (s : State) : s.restart.stories = s.restartRecords.stories ∧
    s.restart.fit = s.restartBase.fit ∧ s.restart.pages = s.restartRecords.pages := by
  have hpages : OnlyTouches [.stories, .pages] s.restartBase s.restartRecords := .foldl State.restartPage_touches _ _
  rw [s.restart_eq]
  generalize s.restartRecords = u at *
  exact ⟨rfl, hpages.fit, rfl⟩

theorem State.restart_output (s : State) : s.restart.output = s.output.restart ∧ s.restart.channel = s.channel.restart := by
  have hpages : OnlyTouches [.stories, .pages] s.restartBase s.restartRecords := .foldl State.restartPage_touches _ _
  rw [s.restart_eq]
  dsimp only
  rw [hpages.output, hpages.channel, s.restartBase_touches.output, s.restartBase_touches.channel]
  exact ⟨rfl, rfl⟩

theorem State.restart_line (s : State) {k : Nat} (hk : k < 32) : s.restart.line k = { (s.line k).sessionless with
    state := .disabled, held := none, latches := .clear, lamp := false } := by
  simp [State.line, s.restart_lines, hk, Line.disable, Line.cut, Line.sessionless]

theorem State.restart_port (s : State) (p : Port) : s.restart.port p = { s.port p with
    state := .offline, job := none, fifo := [], abort := (s.port p).abort || (s.port p).job.isSome
    lossTimer := none, lossLatch := false } := by
  have houtput := s.restart_output.1
  generalize s.restart = t at *
  cases p <;> simp only [State.port, houtput] <;> rfl

theorem State.restart_judgement (s : State) (p : Page) : s.restart.judgement p = s.restartBase.judgement p := by
  obtain ⟨-, hfits, -, -⟩ := restartPages_page (fun g hg => mem_pageIds.1 hg) pageIds_nodup s.restartBase
  rw [← State.restartRecords_eq] at hfits
  exact (State.judgement_congr s.restart_parts.1 p).trans (State.judgement_of_fits hfits p)

theorem State.restart_page (s : State) {g : Nat} (hg : g ∈ pageIds) : s.restart.page g =
    if (s.page g).state.returns then
      { s.page g with
        state := .makeup, trim := false, fit := s.restart.judgement (s.page g)
        job := if (s.page g).state = .releasing then (s.page g).job
          else (s.page g).job.map fun j => { j with outcome := .cancelled } }
    else s.page g := by
  obtain ⟨-, -, hpages, -⟩ := restartPages_page (fun g hg => mem_pageIds.1 hg) pageIds_nodup s.restartBase
  have hpage := hpages g hg
  rw [← State.restartRecords_eq, s.restartBase_touches.page] at hpage
  rw [State.restart_judgement, ← hpage, State.page_congr s.restart_parts.2.2]

theorem State.restart_story (s : State) {n : Nat} (hn : n ∈ storyIds) (hagrees : ∀ g ∈ pageIds, PageAgrees g s) :
    s.restart.story n = { s.restartBase.story n with
      stage := if ∃ g ∈ pageIds, n ∈ (s.page g).stories ∧ (s.story n).stage = .setting then .placed
        else (s.story n).stage } := by
  obtain ⟨-, -, -, hstories⟩ := restartPages_page (fun g hg => mem_pageIds.1 hg) pageIds_nodup s.restartBase
  have hstory := hstories n
  have hstage : (s.restartBase.story n).stage = (s.story n).stage := by rw [State.restartBase_story s hn]
  simp only [← State.restartRecords_eq, s.restartBase_touches.page] at hstory
  have hstarts : (∃ g ∈ pageIds, n ∈ (s.page g).stories ∧ (s.story n).stage = .setting) ↔
      (s.restartBase.story n).stage = .setting ∧ ∃ g ∈ pageIds, (s.page g).state.returns ∧ n ∈ (s.page g).stories := by
    rw [hstage]
    constructor
    · rintro ⟨g, hg, hmem, hsetting⟩
      exact ⟨hsetting, g, hg, (hagrees g hg).returns hmem hsetting, hmem⟩
    · rintro ⟨hsetting, g, hg, -, hmem⟩
      exact ⟨g, hg, hmem, hsetting⟩
  rw [State.story_congr s.restart_parts.1, hstory]
  by_cases hreturned : ∃ g ∈ pageIds, n ∈ (s.page g).stories ∧ (s.story n).stage = .setting
  · rw [if_pos (hstarts.1 hreturned), if_pos hreturned]
  · rw [if_neg fun h => hreturned (hstarts.2 h), if_neg hreturned, ← hstage]

end Effect

/-- Settles O60: power reset, RESTART asked for, and its taking effect. -/
theorem powerResetAndRestart : Obligations.PowerResetAndRestart := by
  refine ⟨fun s => ?_, fun s tag htakes => hostRestarts htakes, fun s i hrestarting hhost => exec_of_restarting hrestarting hhost,
    fun s hbusy => ?_, fun s hrestarting hreplies htx hagrees => ?_⟩
  · refine ⟨s.powered, exec_powerReset s, fun n hn => s.powered_story hn, fun d hd => s.powered_desk hd, rfl, rfl, rfl,
      fun k hk => ?_, rfl, fun n hn => s.powered_style hn, rfl, fun c hc => s.powered_entry hc, rfl, rfl,
      fun g hg => s.powered_page hg, rfl, fun p => s.powered_port p, rfl, rfl⟩
    rw [s.powered_line hk]
    rfl
  · have hexec : exec .restartTakesEffect s =
        .next (if s.channel.restarting ∧ s.channel.replies = [] ∧ s.channel.tx = none then s.restart else s) := rfl
    rw [hexec, if_neg]
    rintro ⟨hrestarting, hreplies, htx⟩
    rcases hbusy with h | h | h
    · exact absurd (hrestarting.symm.trans h) (by decide)
    · exact h hreplies
    · exact h htx
  · have hexec : exec .restartTakesEffect s =
        .next (if s.channel.restarting ∧ s.channel.replies = [] ∧ s.channel.tx = none then s.restart else s) := rfl
    rw [if_pos ⟨hrestarting, hreplies, htx⟩] at hexec
    refine ⟨_, hexec, s.restart_touches, s.restart_output.2, fun n hn => ?_, fun k hk => s.restart_line hk,
      s.restart_flashes, s.restart_parts.2.1.trans s.restartBase_fit, fun g hg => s.restart_page hg, ?_, ?_, s.restart_port⟩
    · intro stopped returned
      rw [s.restart_story hn hagrees, s.restartBase_story hn]
    · rw [s.restart_output.1]
      rfl
    · rw [s.restart_output.1]
      rfl

end Sys2Proof.Machine

/-! The parts of a seconds tick: the clock, the lines' timers and the orphans' (R54, R78, R80, R168 to R171). -/

namespace Sys2Proof.Machine

/-! ### The clock (R168 to R170) -/

section Clock
variable {s : State}

theorem State.line_refreshAll (s : State) {k : Nat} (hk : k < 32) : s.refreshAll.line k = { s.line k with
    status := if (s.line k).state = .ready then ((s.line k).user.map fun u => s.statusLine k u (s.line k).withdrawn).or
      (s.line k).status else (s.line k).status } := by
  rw [State.refreshAll, State.line_refresh]
  by_cases hready : (s.line k).state = .ready
  · rw [if_pos ⟨hk, hready, rfl⟩, State.withStatus_eq, if_pos hready]
  · rw [if_neg fun h => hready h.2.1, if_neg hready]

theorem State.line_lampsDeadline (s : State) {k : Nat} (hk : k < 32) : s.lampsDeadline.line k = { s.line k with
    lamp := if (s.line k).lampSource = .deadline then s.lampLit k (s.line k) else (s.line k).lamp } := by
  rw [State.lampsDeadline, State.line_lamps]
  by_cases hsource : (s.line k).lampSource = .deadline
  · rw [if_pos ⟨hk, by simpa using hsource⟩, if_pos hsource]
  · rw [if_neg fun h => hsource (by simpa using h.2), if_neg hsource]

/-- How a seconds tick leaves a line once the clock has ticked: a status line where one is told, and a DEADLINE lamp set anew. -/
def ClockTicked (told lamps : Bool) (s t : State) : Prop := ∀ k < 32, t.line k = { s.line k with
  status := if (s.line k).state = .ready ∧ told = true then
    ((s.line k).user.map fun u => t.statusLine k u (s.line k).withdrawn).or (s.line k).status else (s.line k).status
  lamp := if (s.line k).lampSource = .deadline ∧ lamps = true then t.lampLit k (s.line k) else (s.line k).lamp }

theorem ClockTicked.quiet {t : State} (h : t.lines = s.lines) : ClockTicked false false s t := fun k _ => by
  simp [State.line_of_lines h]

theorem ClockTicked.lampsDeadline {t : State} {c : Bool} (h : t.lines = s.lines) :
    ClockTicked false c s (if c = true then t.lampsDeadline else t) := fun k hk => by
  cases c with
  | false =>
    simp only [Bool.false_eq_true, and_false, if_false]
    exact State.line_of_lines h k
  | true =>
    have hlit (l : Line) : t.lampsDeadline.lampLit k l = t.lampLit k l := State.lampLit_congr rfl rfl rfl rfl k l
    rw [if_pos rfl, State.line_lampsDeadline t hk, State.line_of_lines h]
    simp only [hlit, Bool.false_eq_true, and_false, if_false, and_true]

theorem ClockTicked.refreshAll {t : State} {r c : Bool} (h : ClockTicked false c s t) :
    ClockTicked r c s (if r = true then t.refreshAll else t) := fun k hk => by
  cases r with
  | false => exact h k hk
  | true =>
    have hline := h k hk
    have hlit (l : Line) : t.refreshAll.lampLit k l = t.lampLit k l := State.lampLit_congr rfl rfl rfl rfl k l
    have hstatus (u : SignedOn) (w : Option Nat) : t.refreshAll.statusLine k u w = t.statusLine k u w :=
      State.statusLine_congr rfl rfl rfl k u w
    simp only [Bool.false_eq_true, and_false, if_false] at hline
    rw [if_pos rfl, State.line_refreshAll t hk]
    simp only [hlit, hstatus, and_true]
    rw [hline]

theorem clockEvent_ticked {t : State} (h : t.lines = s.lines) : ClockTicked true true s t.clockEvent := fun k hk => by
  have hlit (l : Line) : t.clockEvent.lampLit k l = t.lampLit k l := State.lampLit_congr rfl rfl rfl rfl k l
  have hstatus (u : SignedOn) (w : Option Nat) : t.clockEvent.statusLine k u w = t.statusLine k u w :=
    State.statusLine_congr rfl rfl rfl k u w
  rw [State.line_clockEvent t hk, State.line_of_lines h]
  simp only [hlit, hstatus, and_true]

theorem State.terminalCount_ticked (s : State) : ClockTicked true true s s.terminalCount := by
  unfold State.terminalCount
  split
  · exact clockEvent_ticked (State.warnNear_lines _)
  · exact clockEvent_ticked rfl

/-- A second counted down, before any line is told of it (R168). -/
def State.countedDown (s : State) : State := { s with clock := { s.clock with count := s.clock.count - 1 } }

theorem State.clockTick_running (h : s.clock.state = .running) (hcount : ¬s.clock.count ≤ 1) :
    s.clockTick = (s.countedDown.warnNear.nearLamps s.countedDown.clock.nearDue).minutesPass s.clock.count := by
  simp only [State.clockTick, h, if_neg hcount, State.countedDown]

theorem State.clockTick_overdue (h : s.clock.state = .overdue) : s.clockTick =
    State.minutesPass { s with clock := { s.clock with count := min 65535 (s.clock.count + 1) } } s.clock.count := by
  simp only [State.clockTick, h]

theorem State.minutesPass_eq (s : State) (old : Nat) : s.minutesPass old =
    if decide (s.clock.count / 60 ≠ old / 60) = true then s.refreshAll else s := by
  by_cases h : s.clock.count / 60 = old / 60 <;> simp [State.minutesPass, h]

/-- How the clock's tick is told to the lines (R168 to R171). -/
theorem State.clockTick_ticked (s : State) : ClockTicked s.clock.tickTold s.clock.tickLamps s s.clockTick := by
  cases hstate : s.clock.state with
  | stopped =>
    have htold : s.clock.tickTold = false := by simp [Clock.tickTold, hstate]
    have hlamps : s.clock.tickLamps = false := by simp [Clock.tickLamps, hstate]
    rw [State.clockTick_stopped s hstate, htold, hlamps]
    exact .quiet rfl
  | overdue =>
    have htold : s.clock.tickTold = decide (min 65535 (s.clock.count + 1) / 60 ≠ s.clock.count / 60) := by
      simp only [Clock.tickTold, hstate]
    have hlamps : s.clock.tickLamps = false := by simp [Clock.tickLamps, hstate]
    rw [State.clockTick_overdue hstate, htold, hlamps, State.minutesPass_eq]
    exact .refreshAll (.quiet rfl)
  | running =>
    by_cases hcount : s.clock.count ≤ 1
    · have htold : s.clock.tickTold = true := by simp [Clock.tickTold, hstate, hcount]
      have hlamps : s.clock.tickLamps = true := by simp [Clock.tickLamps, hstate, hcount]
      rw [State.clockTick_terminal s hstate hcount, htold, hlamps]
      exact s.terminalCount_ticked
    · have htold : s.clock.tickTold = decide ((s.clock.count - 1) / 60 ≠ s.clock.count / 60) := by
        simp [Clock.tickTold, hstate, hcount]
      have hwarned : s.countedDown.warnNear.clock.count = s.clock.count - 1 ∧
          s.countedDown.warnNear.clock.threshold = s.clock.threshold := by
        rw [State.warnNear_clock]
        exact ⟨rfl, rfl⟩
      have hlamps : s.clock.tickLamps = (s.countedDown.clock.nearDue ||
          (decide (s.countedDown.warnNear.clock.threshold ≠ 0) &&
            decide (s.countedDown.warnNear.clock.count = s.countedDown.warnNear.clock.threshold))) := by
        rw [hwarned.1, hwarned.2, Bool.eq_iff_iff]
        simp only [Clock.tickLamps, hstate, hcount, State.countedDown, Clock.nearDue, false_or, decide_eq_true_eq,
          Bool.or_eq_true, Bool.and_eq_true, Bool.not_eq_true']
        tauto
      rw [State.clockTick_running hstate hcount, htold, State.minutesPass_eq, State.nearLamps_clock, hwarned.1, State.nearLamps,
        ← hlamps]
      exact .refreshAll (.lampsDeadline (State.warnNear_lines _))

theorem State.terminalCount_channel (s : State) : s.terminalCount.channel =
    (match s.clock.next with
      | some n => switchNotices (s.clock.edition + 1) n s.clock.threshold
      | none => [.edition .overdue s.clock.edition 0]).foldl Channel.raise s.channel := by
  cases hnext : s.clock.next with
  | some c =>
    rw [s.terminalCount_clock_of_pending hnext]
    exact s.switchEdition_channel c
  | none =>
    simp [State.terminalCount, hnext, State.clockEvent, State.refreshAll, State.lampsDeadline, State.raiseEdition]

/-- The notices of the clock's tick (R168, R169, R171). -/
theorem State.clockTick_channel (s : State) :
    s.clockTick.channel = s.clock.tickNotices.foldl Channel.raise s.channel := by
  cases hstate : s.clock.state with
  | stopped =>
    rw [State.clockTick_stopped s hstate]
    simp [Clock.tickNotices, hstate]
  | overdue =>
    rw [State.clockTick_overdue hstate, (State.minutesPass_touches _ _).channel]
    simp [Clock.tickNotices, hstate]
  | running =>
    by_cases hcount : s.clock.count ≤ 1
    · rw [State.clockTick_terminal s hstate hcount, s.terminalCount_channel]
      simp only [Clock.tickNotices, hstate, if_pos hcount] <;> cases s.clock.next <;> rfl
    · rw [State.clockTick_running hstate hcount, (State.minutesPass_touches _ _).channel,
        (State.nearLamps_touches _ _).channel, State.warnNear_channel, Clock.nearNotices_eq]
      simp only [Clock.tickNotices, hstate, if_neg hcount, State.countedDown, and_assoc]

/-- The clock past a seconds tick (R168 to R170). -/
theorem State.clockTick_clock (s : State) : (s.clock.state = .stopped → s.clockTick.clock = s.clock) ∧
    (s.clock.state = .overdue → s.clockTick.clock = { s.clock with count := min 65535 (s.clock.count + 1) }) ∧
    (s.clock.state = .running → 1 < s.clock.count → s.clockTick.clock = { s.clock with
      count := s.clock.count - 1
      fired := s.clock.fired || (decide (s.clock.threshold ≠ 0) && decide (s.clock.count - 1 ≤ s.clock.threshold)) }) ∧
    (s.clock.state = .running → s.clock.count ≤ 1 →
      match s.clock.next with
      | some c => EditionSwitched c s s.clockTick
      | none => s.clockTick.clock = { s.clock with state := .overdue, count := 0 }) := by
  refine ⟨fun h => by rw [State.clockTick_stopped s h], State.clockTick_clock_overdue s, fun h hcount => ?_, fun h hcount => ?_⟩
  · rw [State.clockTick_clock_running s h hcount]
    simp only [Clock.nearDue]
    cases s.clock.fired <;> simp
  · rw [State.clockTick_terminal s h hcount]
    cases hnext : s.clock.next with
    | some c =>
      rw [s.terminalCount_clock_of_pending hnext]
      exact s.switchEdition_clock c
    | none => exact s.terminalCount_clock_of_none hnext

end Clock

/-! ### The lines' timers (R78, R80) -/

section Lines
variable {s : State}

/-- A line past a seconds tick at its own timers: a sign-on or a dim timer a second lower, or expired (R78, R80). -/
def Line.ticked (l : Line) : Line :=
  if l.state = .signing then
    match l.signonTimer with
    | none => l
    | some v =>
      if v ≤ 1 then { l with
        state := .idle, outcome := .timedOut, signonTimer := none, override := false
        answer := some { service := true, kind := kindWord "SIGNON", status := .noAnswer, details := [] }
        service := l.service.map fun v => { v with stage := .answered } }
      else { l with signonTimer := some (v - 1) }
  else if l.dimRuns = true then
    match l.dimTimer with
    | none => l
    | some v => if v ≤ 1 then { l with state := .dim, dimTimer := none, display := some .blank } else { l with dimTimer := some (v - 1) }
  else l

theorem State.lineTick_line (s : State) {k : Nat} (hk : k < 32) : (s.lineTick k).line k = (s.line k).ticked := by
  unfold State.lineTick Line.ticked
  dsimp only
  split
  · cases (s.line k).signonTimer with
    | none => rfl
    | some v =>
      dsimp only
      split
      · exact s.signonExpires_line ⟨k, hk⟩
      · rw [State.line_updLine_self _ hk]
  · split
    · cases (s.line k).dimTimer with
      | none => rfl
      | some v =>
        dsimp only
        split
        · rw [State.goDim, State.line_updLine_self _ hk]
        · rw [State.line_updLine_self _ hk]
    · rfl

theorem State.lineTick_sameLines (s : State) (k : Nat) : SameLinesBut k s (s.lineTick k) := by
  unfold State.lineTick
  dsimp only
  repeat' split
  all_goals first
    | exact fun _ _ => rfl
    | exact State.updLine_sameLines _ k _
    | exact s.signonExpires_sameLines k

theorem foldl_lineTick_line {ks : List Nat} (hnodup : ks.Nodup) (hks : ∀ k ∈ ks, k < 32) (s : State) (k : Nat) :
    (ks.foldl State.lineTick s).line k = if k ∈ ks then (s.line k).ticked else s.line k := by
  induction ks generalizing s with
  | nil => simp
  | cons m ks ih =>
    obtain ⟨hnew, hnodup⟩ := List.nodup_cons.1 hnodup
    rw [List.foldl_cons, ih hnodup fun k hk => hks k (.tail m hk)]
    by_cases heq : k = m
    · subst heq
      rw [if_neg hnew, if_pos (List.mem_cons_self ..), State.lineTick_line s (hks k (List.mem_cons_self ..))]
    · rw [s.lineTick_sameLines m k heq]
      simp only [List.mem_cons, heq, false_or]

theorem State.linesTick_line (s : State) {k : Nat} (hk : k < 32) : s.linesTick.line k = (s.line k).ticked :=
  (foldl_lineTick_line (ks := lineIds) List.nodup_range (fun _ h => List.mem_range.1 h) s k).trans
    (if_pos (List.mem_range.2 hk))

theorem State.linesTick_touches (s : State) : OnlyTouches [.lines] s s.linesTick := .foldl State.lineTick_touches _ s

/-- What a line's own timers leave of it. -/
theorem Line.ticked_keeps (l : Line) : l.ticked.status = l.status ∧ l.ticked.lamp = l.lamp ∧
    l.ticked.lampSource = l.lampSource ∧ l.ticked.user = l.user ∧ (l.ticked.state = .disabled ↔ l.state = .disabled) := by
  unfold Line.ticked
  split
  next hsigning =>
    cases l.signonTimer with
    | none => simp
    | some v =>
      dsimp only
      split <;> simp [hsigning]
  next =>
    split
    next hruns =>
      have hready : l.state = .ready := by
        simp only [Line.dimRuns, Bool.and_eq_true, beq_iff_eq] at hruns
        exact hruns.1.1.1
      cases l.dimTimer with
      | none => simp
      | some v =>
        dsimp only
        split <;> simp [hready]
    next => simp

theorem Line.ticked_signing {l : Line} {v : Nat} (hstate : l.state = .signing) (htimer : l.signonTimer = some v) :
    if 1 < v then l.ticked.state = .signing ∧ l.ticked.signonTimer = some (v - 1)
    else l.ticked.state = .idle ∧ l.ticked.outcome = .timedOut ∧ l.ticked.signonTimer = none ∧
      l.ticked.answer = some { service := true, kind := kindWord "SIGNON", status := .noAnswer, details := [] } := by
  by_cases hlong : 1 < v
  · simp only [Line.ticked, hstate, htimer, if_pos hlong, if_neg (Nat.not_le.2 hlong), if_true]
    exact ⟨trivial, trivial⟩
  · simp only [Line.ticked, hstate, htimer, if_neg hlong, if_pos (Nat.le_of_not_lt hlong), if_true]
    exact ⟨trivial, trivial, trivial, trivial⟩

theorem Line.ticked_dim {l : Line} {v : Nat} (hruns : l.dimRuns = true) (htimer : l.dimTimer = some v) :
    if 1 < v then l.ticked.state = .ready ∧ l.ticked.dimTimer = some (v - 1)
    else l.ticked.state = .dim ∧ l.ticked.dimTimer = none ∧ l.ticked.display = some .blank := by
  have hready : l.state = .ready := by
    simp only [Line.dimRuns, Bool.and_eq_true, beq_iff_eq] at hruns
    exact hruns.1.1.1
  have hnot : ¬l.state = .signing := by rw [hready]; decide
  by_cases hlong : 1 < v
  · simp only [Line.ticked, if_neg hnot, hruns, htimer, if_pos hlong, if_neg (Nat.not_le.2 hlong), if_true]
    exact ⟨hready, trivial⟩
  · simp only [Line.ticked, if_neg hnot, hruns, htimer, if_neg hlong, if_pos (Nat.le_of_not_lt hlong), if_true]
    exact ⟨trivial, trivial, trivial⟩

theorem Line.ticked_still {l : Line} (hstate : l.state ≠ .signing) (hruns : l.dimRuns = false) : l.ticked = l := by
  simp [Line.ticked, hstate, hruns]

end Lines

/-! ### Orphans (R54) -/

section Orphans
variable {s : State}

/-- A line whose hold has gone: an OVERSET lamp is dark. -/
def Line.unheld (l : Line) : Line :=
  { l with held := none, lamp := if l.lampSource = .overset then false else l.lamp }

theorem State.lampLit_of_unheld {k : Nat} {l : Line} (hsource : l.lampSource = .overset) (hheld : l.held = none) :
    s.lampLit k l = false := by
  simp only [State.lampLit, hsource, hheld, Bool.and_false]
  split <;> rfl

/-- The ORPHAN notice of one story at a seconds tick (R54). -/
def State.orphanNotice (s : State) (n : Nat) : Option Notice :=
  match (s.story n).holder with
  | .absent => none
  | .channel => none
  | .line _ => none
  | .orphan k user seconds => if seconds ≤ 1 then some (.orphan n user k) else none

/-- A holder past a seconds tick (R54). -/
def Holder.ticked : Holder → Holder
  | .orphan k user seconds => if seconds ≤ 1 then .absent else .orphan k user (seconds - 1)
  | h => h

theorem State.releaseHold_orphanLine {k n user seconds : Nat} (h : (s.story n).holder = .orphan k user seconds) (m : Nat) :
    (s.releaseHold n).line m = s.line m ∨ (s.releaseHold n).line m = (s.line m).unheld := by
  by_cases hm : m = k
  · subst hm
    by_cases hk : m < 32
    · refine .inr ?_
      rw [State.releaseHold_of_orphan h, State.line_lampIf_self _ ⟨m, hk⟩, State.line_updLine_self _ hk, State.updStory_line,
        Line.unheld]
      refine congrArg (fun lamp => { s.line m with held := none, lamp := lamp }) ?_
      by_cases hsource : (s.line m).lampSource = .overset
      · simp only [hsource, if_true]
        exact State.lampLit_of_unheld rfl rfl
      · simp only [hsource, if_false]
    · exact .inl (by rw [State.line_eq_reset _ hk, State.line_eq_reset _ hk])
  · exact .inl (State.releaseHold_sameLines (.inr ⟨user, seconds, h⟩) m hm)

theorem State.orphanTick_of_unorphaned {n : Nat} (h : ∀ k user seconds, (s.story n).holder ≠ .orphan k user seconds) :
    s.orphanTick n = s ∧ (s.story n).holder.ticked = (s.story n).holder ∧ s.orphanNotice n = none := by
  unfold State.orphanTick Holder.ticked State.orphanNotice
  cases hholder : (s.story n).holder with
  | orphan k user seconds => exact absurd hholder (h k user seconds)
  | _ => exact ⟨rfl, rfl, rfl⟩

/-- A seconds tick at one story's orphan timer (R54). -/
theorem State.orphanTick_spec (s : State) {n : Nat} (hn : 1 ≤ n ∧ n ≤ 512) :
    ((s.orphanTick n).story n).holder = (s.story n).holder.ticked ∧ SameStoriesBut n s (s.orphanTick n) ∧
      (∀ m, (s.orphanTick n).line m = s.line m ∨ (s.orphanTick n).line m = (s.line m).unheld) ∧
      (s.orphanTick n).channel = (s.orphanNotice n).toList.foldl Channel.raise s.channel := by
  by_cases horphan : ∃ k user seconds, (s.story n).holder = .orphan k user seconds
  · obtain ⟨k, user, seconds, hholder⟩ := horphan
    by_cases hdue : seconds ≤ 1
    · have htick : s.orphanTick n = (s.releaseHold n).raise (.orphan n user k) := by
        simp only [State.orphanTick, hholder, if_pos hdue, State.orphanExpires]
      have hnotice : s.orphanNotice n = some (.orphan n user k) := by simp only [State.orphanNotice, hholder, if_pos hdue]
      rw [htick, hnotice, hholder]
      refine ⟨?_, fun m hm => State.releaseHold_sameStories s n m hm, fun m => State.releaseHold_orphanLine hholder m, ?_⟩
      · rw [State.raise_story, State.releaseHold_story hn, Holder.ticked, if_pos hdue]
      · exact congrArg (fun c : Channel => c.raise (.orphan n user k)) (s.releaseHold_touches n).channel
    · have htick : s.orphanTick n = s.updStory n fun r => { r with holder := .orphan k user (seconds - 1) } := by
        simp only [State.orphanTick, hholder, if_neg hdue]
      have hnotice : s.orphanNotice n = none := by simp only [State.orphanNotice, hholder, if_neg hdue]
      rw [htick, hnotice, hholder]
      refine ⟨?_, fun m hm => State.story_updStory_ne _ hm _, fun m => .inl rfl, rfl⟩
      rw [State.story_updStory_self _ hn, Holder.ticked, if_neg hdue]
  · obtain ⟨htick, hholder, hnotice⟩ := State.orphanTick_of_unorphaned fun k user seconds h => horphan ⟨k, user, seconds, h⟩
    rw [htick, hholder, hnotice]
    exact ⟨rfl, fun _ _ => rfl, fun _ => .inl rfl, rfl⟩

theorem Line.unheld_unheld (l : Line) : l.unheld.unheld = l.unheld := by
  unfold Line.unheld
  by_cases h : l.lampSource = .overset <;> simp [h]

theorem foldl_orphanTick {ns : List Nat} (hnodup : ns.Nodup) (hns : ∀ n ∈ ns, 1 ≤ n ∧ n ≤ 512) (s : State) :
    (∀ n, ((ns.foldl State.orphanTick s).story n).holder =
      if n ∈ ns then (s.story n).holder.ticked else (s.story n).holder) ∧
    (∀ m, (ns.foldl State.orphanTick s).line m = s.line m ∨ (ns.foldl State.orphanTick s).line m = (s.line m).unheld) ∧
    (ns.foldl State.orphanTick s).channel = (ns.filterMap s.orphanNotice).foldl Channel.raise s.channel := by
  induction ns generalizing s with
  | nil => exact ⟨fun n => by simp, fun _ => .inl rfl, rfl⟩
  | cons p ns ih =>
    obtain ⟨hnew, hnodup⟩ := List.nodup_cons.1 hnodup
    obtain ⟨hself, hothers, hlines, hchannel⟩ := s.orphanTick_spec (hns p (List.mem_cons_self ..))
    obtain ⟨hstories, hlinesRest, hchannelRest⟩ := ih hnodup (fun n hn => hns n (.tail p hn)) (s.orphanTick p)
    have hnotices : ns.filterMap (s.orphanTick p).orphanNotice = ns.filterMap s.orphanNotice := by
      refine List.filterMap_congr fun n hn => ?_
      have hne : n ≠ p := fun heq => hnew (heq ▸ hn)
      simp only [State.orphanNotice, hothers n hne]
    rw [List.foldl_cons]
    refine ⟨fun n => ?_, fun m => ?_, ?_⟩
    · rw [hstories]
      by_cases heq : n = p
      · subst heq
        rw [if_neg hnew, if_pos (List.mem_cons_self ..), hself]
      · rw [hothers n heq]
        simp only [List.mem_cons, heq, false_or]
    · rcases hlinesRest m with hrest | hrest <;> rcases hlines m with hfirst | hfirst <;> rw [hrest, hfirst]
      · exact .inl rfl
      · exact .inr rfl
      · exact .inr rfl
      · exact .inr (Line.unheld_unheld _)
    · rw [hchannelRest, hchannel, hnotices, ← List.foldl_append]
      cases hnotice : s.orphanNotice p <;> simp [hnotice]

/-- The orphans' timers past a seconds tick, with the notices in story order (R54). -/
theorem State.orphansTick_spec (s : State) :
    (∀ n ∈ storyIds, (s.orphansTick.story n).holder = (s.story n).holder.ticked) ∧
    (∀ m, s.orphansTick.line m = s.line m ∨ s.orphansTick.line m = (s.line m).unheld) ∧
    s.orphansTick.channel = s.orphanNotices.foldl Channel.raise s.channel := by
  have hids : ∀ n ∈ s.orphanIds, 1 ≤ n ∧ n ≤ 512 := by
    intro n hn
    unfold State.orphanIds at hn
    exact mem_storyIds.1 (List.mem_filter.1 hn).1
  have hnodup : s.orphanIds.Nodup := by
    unfold State.orphanIds
    exact storyIds_nodup.filter _
  obtain ⟨hstories, hlines, hchannel⟩ := foldl_orphanTick hnodup hids s
  refine ⟨fun n hn => ?_, hlines, ?_⟩
  · rw [State.orphansTick, hstories]
    by_cases horphan : n ∈ s.orphanIds
    · rw [if_pos horphan]
    · have hnone : ∀ k user seconds, (s.story n).holder ≠ .orphan k user seconds := fun k user seconds h =>
        horphan (List.mem_filter.2 ⟨hn, by simp only [h]⟩)
      rw [if_neg horphan, (State.orphanTick_of_unorphaned hnone).2.1]
  · have hnotices : s.orphanIds.filterMap s.orphanNotice = s.orphanNotices := by
      rw [State.orphanIds, List.filterMap_filter]
      refine List.filterMap_congr fun n _ => ?_
      unfold State.orphanNotice
      cases (s.story n).holder <;> rfl
    rw [← hnotices]
    exact hchannel

theorem State.orphansTick_touches (s : State) : OnlyTouches [.stories, .lines, .channel] s s.orphansTick :=
  .foldl State.orphanTick_touches _ s

end Orphans

end Sys2Proof.Machine

/-! The ports at a seconds tick, and the seconds tick whole (R159 to R161, R168). -/

namespace Sys2Proof.Machine

section Loss
variable {s : State} {p : Port} {j : PortJob}

theorem PortWaits.of_busy (h : (s.port p).state ≠ .ready) : PortWaits p s := fun hready => absurd hready h

theorem State.arbitrate_port_of_busy (h : (s.port p).state ≠ .ready) : s.arbitrate.port p = s.port p := by
  cases p with
  | a =>
    rw [State.arbitrate, State.portTakes_of_waits (.of_busy h)]
    exact (State.portTakes_other .b).1
  | b =>
    have hkept : (s.portTakes .a).port .b = s.port .b := (State.portTakes_other .a).1
    rw [State.arbitrate, State.portTakes_of_waits (.of_busy (by rw [hkept]; exact h)), hkept]

theorem State.arbitrate_of_busy (h : (s.port p).state ≠ .ready) (hother : (s.port (otherPort p)).state ≠ .ready) :
    s.arbitrate = s := by
  cases p <;> exact State.arbitrate_of_waits fun x => by cases x <;> exact .of_busy (by assumption)

theorem State.jobRequeued_channel (s : State) (p : Port) (j : PortJob) : (s.jobRequeued p j).channel =
    (s.lossTold p j.job.page .requeued).foldl Channel.raise s.channel := rfl

/-- The lost port (R160, R161). -/
theorem State.losePort_self (s : State) (p : Port) (j : PortJob) : (s.losePort p j).port p = (s.port p).loseJob := by
  have hne : p ≠ otherPort p := by cases p <;> decide
  cases hfate : s.lossFate p with
  | failover =>
    have hother := (State.beginJob_sameOutput (s := s.portLost p j.job.page .failover) (otherPort p) j.job.again).2.2
    have hback : otherPort (otherPort p) = p := by cases p <;> rfl
    rw [hback, State.portLost_port, if_pos rfl] at hother
    rw [State.losePort_eq, hfate]
    exact hother
  | requeued =>
    have hport := State.jobRequeued_port s p j p
    rw [if_pos rfl] at hport
    rw [State.losePort_requeued_eq hfate, State.arbitrate_port_of_busy (by rw [hport]; simp [SetterPort.loseJob]), hport]
  | returned =>
    have hport := State.portLost_port s p j.job.page .returned p
    rw [if_pos rfl] at hport
    rw [State.losePort_eq, hfate, ← hport]
    dsimp only
    rw [State.raise_port, State.returnPage_port, State.recordJob, State.updPage_port]

theorem otherPort_ne (p : Port) : otherPort p ≠ p := by cases p <;> decide

theorem State.lossFate_of_busy (h : (s.port (otherPort p)).state ≠ .ready) :
    s.lossFate p = if s.output.queue.length < 16 then .requeued else .returned := by
  unfold State.lossFate
  rw [if_neg fun hboth => h hboth.2]
  rfl

/-- A loss leaves the other port as it was, unless that port is READY; and of the queue as much as the job's way says (R160). -/
theorem State.losePort_busy (h : (s.port (otherPort p)).state ≠ .ready) (j : PortJob) :
    (s.losePort p j).port (otherPort p) = s.port (otherPort p) ∧
      (s.losePort p j).output.queue.length =
        if s.output.queue.length < 16 then s.output.queue.length + 1 else s.output.queue.length := by
  have hfate := State.lossFate_of_busy h
  by_cases hroom : s.output.queue.length < 16
  · rw [if_pos hroom] at hfate ⊢
    have hself := State.jobRequeued_port s p j p
    have hother := State.jobRequeued_port s p j (otherPort p)
    rw [if_pos rfl] at hself
    rw [if_neg (otherPort_ne p)] at hother
    rw [State.losePort_requeued_eq hfate, State.arbitrate_of_busy (p := p) (by rw [hself]; simp [SetterPort.loseJob])
      (by rw [hother]; exact h), hother, (s.jobRequeued_output p j).1, List.length_cons]
    exact ⟨rfl, rfl⟩
  · rw [if_neg hroom] at hfate ⊢
    have hport := State.portLost_port s p j.job.page .returned (otherPort p)
    have hqueue := (s.portLost_sameOutput p j.job.page .returned).1
    rw [if_neg (otherPort_ne p)] at hport
    rw [State.losePort_eq, hfate]
    dsimp only
    rw [State.raise_port, State.returnPage_port, State.recordJob, State.updPage_port, State.raise_output,
      (State.returnPage_touches _ _).output, State.updPage_output, hqueue]
    exact ⟨hport, rfl⟩

/-- The notices of a loss (R160, R161). -/
theorem State.losePort_channel (s : State) (p : Port) (j : PortJob) : (s.losePort p j).channel =
    (s.lossNotices p j s.output.queue.length).foldl Channel.raise s.channel := by
  have hlost (f : Fate) : (s.portLost p j.job.page f).channel = (s.lossTold p j.job.page f).foldl Channel.raise s.channel := rfl
  unfold State.lossNotices
  dsimp only
  by_cases hover : (s.port p).failover = true ∧ (s.port (otherPort p)).state = .ready
  · rw [if_pos hover, State.losePort_eq, State.lossFate_failover hover, List.foldl_append]
    dsimp only
    rw [State.raise_channel, (State.beginJob_touches _ _ _).channel, hlost]
    rfl
  · by_cases hroom : s.output.queue.length < 16
    · rw [if_neg hover, if_pos hroom, State.losePort_requeued_eq (State.lossFate_requeued hover hroom),
        (State.arbitrate_touches _).channel, State.jobRequeued_channel]
      rfl
    · rw [if_neg hover, if_neg hroom, State.losePort_eq, State.lossFate_returned hover hroom,
        List.foldl_append]
      dsimp only
      rw [State.raise_channel, (State.returnPage_touches _ _).channel, State.recordJob, State.updPage_channel, hlost]
      rfl

theorem State.lossNotices_congr {t : State} (hlatch : (t.port p).lossLatch = (s.port p).lossLatch)
    (hfailover : (t.port p).failover = (s.port p).failover)
    (hready : (t.port (otherPort p)).state = .ready ↔ (s.port (otherPort p)).state = .ready) (queued : Nat) :
    t.lossNotices p j queued = s.lossNotices p j queued := by
  simp only [State.lossNotices, hlatch, hfailover, hready]

end Loss

/-! ### Both ports' loss timers at a seconds tick (R159) -/

section Tick
variable {s : State} {p : Port}

/-- A port whose loss timer has fallen by a second, where it does not reach 0 (R159). -/
def SetterPort.fallen (v : SetterPort) : SetterPort :=
  { v with lossTimer := v.lossTimer.map fun t => if t ≤ 1 then t else t - 1 }

/-- Both loss timers a second lower (R159). -/
def State.lossesFallen (s : State) : State := (s.lossFalls .a).lossFalls .b

theorem State.lossesFallen_port (s : State) (p : Port) : s.lossesFallen.port p = (s.port p).fallen := by
  cases p <;> simp [State.lossesFallen, State.lossFalls, State.port_updPort, SetterPort.fallen]

theorem State.lossesFallen_queue (s : State) : s.lossesFallen.output.queue = s.output.queue := by
  simp [State.lossesFallen, State.lossFalls]

theorem State.lossesFallen_touches (s : State) : OnlyTouches [.output] s s.lossesFallen :=
  (s.lossFalls_touches .a).trans (State.lossFalls_touches _ .b) (by decide)

theorem State.lossTick_eq (s : State) : s.lossTick =
    (let u := if s.lossDue .a = true then s.lossesFallen.lossExpires .a else s.lossesFallen
    if s.lossDue .b = true then u.lossExpires .b else u) := rfl

theorem State.lossExpires_of_job {j : PortJob} (h : (s.port p).job = some j) : s.lossExpires p = s.losePort p j := by
  simp only [State.lossExpires, h]

theorem State.lossExpires_of_none (h : (s.port p).job = none) : s.lossExpires p = s := by
  simp only [State.lossExpires, h]

theorem State.lossExpires_busy (h : (s.port (otherPort p)).state ≠ .ready) :
    (s.lossExpires p).port (otherPort p) = s.port (otherPort p) := by
  cases hjob : (s.port p).job with
  | none => rw [State.lossExpires_of_none hjob]
  | some j => rw [State.lossExpires_of_job hjob, (State.losePort_busy h j).1]

theorem State.lossDue_iff {v : Nat} (h : (s.port p).lossTimer = some v) : s.lossDue p = true ↔ ¬1 < v := by
  simp [State.lossDue, h]

/-- A port with a job past a seconds tick (R159, R160). -/
theorem State.lossTick_working {j : PortJob} (hbusy : (s.port p).state ≠ .ready) (hjob : (s.port p).job = some j) :
    s.lossTick.port p = if s.lossDue p = true then (s.port p).fallen.loseJob else (s.port p).fallen := by
  have hgone (u : State) (hu : u.port p = (s.port p).fallen) : (u.lossExpires p).port p = (s.port p).fallen.loseJob := by
    rw [State.lossExpires_of_job (p := p) (j := j) (by rw [hu]; exact hjob), State.losePort_self, hu]
  cases p with
  | a =>
    have hfirst : (if s.lossDue .a = true then s.lossesFallen.lossExpires .a else s.lossesFallen).port .a =
        if s.lossDue .a = true then (s.port .a).fallen.loseJob else (s.port .a).fallen := by
      split
      · exact hgone _ (s.lossesFallen_port .a)
      · exact s.lossesFallen_port .a
    have hstill : ((if s.lossDue .a = true then s.lossesFallen.lossExpires .a else s.lossesFallen).port .a).state ≠ .ready := by
      rw [hfirst]
      split
      · simp [SetterPort.loseJob]
      · exact hbusy
    rw [State.lossTick_eq, ← hfirst]
    dsimp only
    split
    · exact State.lossExpires_busy (p := .b) hstill
    · rfl
  | b =>
    have hfirst : (if s.lossDue .a = true then s.lossesFallen.lossExpires .a else s.lossesFallen).port .b = (s.port .b).fallen := by
      split
      · rw [← s.lossesFallen_port .b]
        exact State.lossExpires_busy (p := .a) (by rw [otherPort, s.lossesFallen_port .b]; exact hbusy)
      · exact s.lossesFallen_port .b
    rw [State.lossTick_eq]
    dsimp only
    split
    · exact hgone _ hfirst
    · exact hfirst

/-- A SETTING port past a seconds tick: its loss timer a second lower, or the port lost (R159, R160). -/
theorem State.lossTick_port {v : Nat} {j : PortJob} (hstate : (s.port p).state = .setting) (hjob : (s.port p).job = some j)
    (htimer : (s.port p).lossTimer = some v) :
    if 1 < v then (s.lossTick.port p).state = .setting ∧ (s.lossTick.port p).lossTimer = some (v - 1)
    else (s.lossTick.port p).state = .lost ∧ (s.lossTick.port p).job = none := by
  have hbusy : (s.port p).state ≠ .ready := fun hready => absurd (hstate.symm.trans hready) (by decide)
  have hport := State.lossTick_working hbusy hjob
  have hdue := State.lossDue_iff htimer
  by_cases hlong : 1 < v
  · rw [if_neg fun h => hdue.1 h hlong] at hport
    rw [if_pos hlong, hport, SetterPort.fallen, htimer, Option.map_some, if_neg (Nat.not_le.2 hlong)]
    exact ⟨hstate, rfl⟩
  · rw [if_pos (hdue.2 hlong)] at hport
    rw [if_neg hlong, hport]
    exact ⟨rfl, rfl⟩

theorem State.losing_eq (s : State) (p : Port) : s.losing p = if s.lossDue p = true then (s.port p).job else none := by
  unfold State.losing State.lossDue
  cases (s.port p).lossTimer <;> rfl

/-- Within the ports' law a loss that is due finds a job (R151). -/
theorem OutputLaw.due_job (h : OutputLaw s) (hdue : s.lossDue p = true) :
    (s.port p).state = .setting ∧ ∃ j, (s.port p).job = some j := by
  obtain ⟨hwork, htimer, -⟩ := h.port p
  have hsome : (s.port p).lossTimer.isSome = true := by
    unfold State.lossDue at hdue
    cases hv : (s.port p).lossTimer with
    | none => simp [hv] at hdue
    | some v => rfl
  exact ⟨htimer hsome, Option.isSome_iff_exists.1 (hwork.2 (htimer hsome))⟩

theorem State.lossNotices_fallen (s : State) (p : Port) (j : PortJob) (queued : Nat) :
    s.lossesFallen.lossNotices p j queued = s.lossNotices p j queued :=
  State.lossNotices_congr (by rw [s.lossesFallen_port]; rfl) (by rw [s.lossesFallen_port]; rfl)
    (by rw [s.lossesFallen_port]; rfl) queued

theorem State.losePort_fallen_channel (s : State) (p : Port) (j : PortJob) : (s.lossesFallen.losePort p j).channel =
    (s.lossNotices p j s.output.queue.length).foldl Channel.raise s.channel := by
  rw [State.losePort_channel, s.lossNotices_fallen, s.lossesFallen_queue, s.lossesFallen_touches.channel]

/-- The notices of the ports at a seconds tick (R159 to R161). -/
theorem State.lossTick_channel (h : OutputLaw s) : s.lossTick.channel = s.portNotices.foldl Channel.raise s.channel := by
  have hfallen := s.lossesFallen_touches.channel
  rw [State.lossTick_eq]
  unfold State.portNotices
  dsimp only
  rw [s.losing_eq, s.losing_eq]
  by_cases ha : s.lossDue .a = true <;> by_cases hb : s.lossDue .b = true
  · obtain ⟨hstateA, i, hi⟩ := h.due_job ha
    obtain ⟨hstateB, j, hj⟩ := h.due_job hb
    have hfirst : s.lossesFallen.lossExpires .a = s.lossesFallen.losePort .a i :=
      State.lossExpires_of_job (by rw [s.lossesFallen_port]; exact hi)
    have hbusy : (s.lossesFallen.port (otherPort .a)).state ≠ .ready := by
      rw [s.lossesFallen_port]
      exact fun hready => absurd (hstateB.symm.trans hready) (by decide)
    obtain ⟨hother, hqueue⟩ := State.losePort_busy hbusy i
    have hself := s.lossesFallen.losePort_self .a i
    have hchannel := s.losePort_fallen_channel .a i
    rw [otherPort, s.lossesFallen_port] at hother
    rw [s.lossesFallen_port] at hself
    rw [s.lossesFallen_queue] at hqueue
    simp only [ha, hb, if_true, hi, hj]
    rw [hfirst, List.foldl_append, ← hchannel, ← hqueue]
    generalize s.lossesFallen.losePort .a i = u at *
    have hnotices : u.lossNotices .b j u.output.queue.length = s.lossNotices .b j u.output.queue.length := by
      refine State.lossNotices_congr (by rw [hother]; rfl) (by rw [hother]; rfl) ?_ _
      rw [otherPort, hself, hstateA]
      simp [SetterPort.loseJob]
    rw [State.lossExpires_of_job (p := .b) (j := j) (by rw [hother]; exact hj), State.losePort_channel, hnotices]
  · obtain ⟨-, i, hi⟩ := h.due_job ha
    simp only [ha, hb, if_true, hi, Bool.false_eq_true, if_false]
    rw [State.lossExpires_of_job (p := .a) (j := i) (by rw [s.lossesFallen_port]; exact hi), s.losePort_fallen_channel]
  · obtain ⟨-, j, hj⟩ := h.due_job hb
    simp only [ha, hb, if_true, hj, Bool.false_eq_true, if_false]
    rw [State.lossExpires_of_job (p := .b) (j := j) (by rw [s.lossesFallen_port]; exact hj), s.losePort_fallen_channel]
  · simp only [ha, hb, Bool.false_eq_true, if_false]
    exact hfallen

end Tick

/-! ### The seconds tick whole (R168) -/

section Second
variable {s : State}

/-- The state past a seconds tick. -/
def State.second (s : State) : State := s.clockTick.linesTick.orphansTick.lossTick

theorem exec_secondsTick (s : State) : exec .secondsTick s = .next s.second := execSecondsTick_eq s

/-- Past the clock a seconds tick changes neither the clock nor what a status line reads. -/
theorem State.second_told (s : State) : OnlyTouches [.lines, .stories, .channel, .output, .pages] s.clockTick s.second :=
  (((State.linesTick_touches _).mono (by decide)).trans (State.orphansTick_touches _) (by decide)).trans
    (State.lossTick_touches _) (by decide)

theorem State.second_touches (s : State) : OnlyTouches [.clock, .channel, .lines, .stories, .output, .pages] s s.second :=
  ((State.clockTick_touches s).mono (by decide)).trans s.second_told (by decide)

theorem State.second_line (s : State) {k : Nat} (hk : k < 32) :
    s.second.line k = (s.clockTick.line k).ticked ∨ s.second.line k = (s.clockTick.line k).ticked.unheld := by
  obtain ⟨-, hlines, -⟩ := s.clockTick.linesTick.orphansTick_spec
  have hloss := (State.lossTick_touches s.clockTick.linesTick.orphansTick).line k
  rw [State.second, hloss, ← State.linesTick_line _ hk]
  exact hlines k

theorem State.orphanNotices_congr {t : State} (h : t.stories = s.stories) : t.orphanNotices = s.orphanNotices := by
  simp only [State.orphanNotices, State.story_congr h]

theorem State.portNotices_congr {t : State} (h : t.output = s.output) : t.portNotices = s.portNotices := by
  have hport (p : Port) : t.port p = s.port p := by cases p <;> simp only [State.port, h]
  simp only [State.portNotices, State.losing, State.lossNotices, hport, h]

theorem State.second_channel (h : OutputLaw s) :
    OnlyRaised (s.clock.tickNotices ++ s.orphanNotices ++ s.portNotices) s s.second := by
  have hbefore : OnlyTouches [.clock, .channel, .lines, .stories] s s.clockTick.linesTick.orphansTick :=
    (((State.clockTick_touches s).mono (by decide)).trans (State.linesTick_touches _) (by decide)).trans
      (State.orphansTick_touches _) (by decide)
  have hstories : s.clockTick.linesTick.stories = s.stories :=
    ((State.clockTick_touches s).trans (State.linesTick_touches _) (by decide)).stories
  obtain ⟨-, -, horphans⟩ := s.clockTick.linesTick.orphansTick_spec
  rw [OnlyRaised, State.second, State.lossTick_channel (h.congr hbefore.output), State.portNotices_congr hbefore.output, horphans,
    State.orphanNotices_congr hstories, (State.linesTick_touches _).channel, s.clockTick_channel, List.foldl_append,
    List.foldl_append]

theorem State.second_holder (s : State) {n : Nat} (hn : n ∈ storyIds) :
    (s.second.story n).holder = (s.story n).holder.ticked := by
  have hstories : s.clockTick.linesTick.stories = s.stories :=
    ((State.clockTick_touches s).trans (State.linesTick_touches _) (by decide)).stories
  obtain ⟨horphans, -, -⟩ := s.clockTick.linesTick.orphansTick_spec
  have hloss := (State.lossTick_moves s.clockTick.linesTick.orphansTick .holder (by decide)).1 n
  rw [State.second, ← State.story_congr hstories n, ← horphans n hn]
  exact hloss

theorem State.second_port (s : State) {p : Port} {v : Nat} {j : PortJob} (hstate : (s.port p).state = .setting)
    (hjob : (s.port p).job = some j) (htimer : (s.port p).lossTimer = some v) :
    if 1 < v then (s.second.port p).state = .setting ∧ (s.second.port p).lossTimer = some (v - 1)
    else (s.second.port p).state = .lost ∧ (s.second.port p).job = none := by
  have hport : s.clockTick.linesTick.orphansTick.port p = s.port p :=
    ((((State.clockTick_touches s).mono (by decide)).trans (State.linesTick_touches _) (by decide)).trans
      (State.orphansTick_touches _) (by decide) : OnlyTouches [.clock, .channel, .lines, .stories] s _).port p
  exact State.lossTick_port (by rw [hport]; exact hstate) (by rw [hport]; exact hjob) (by rw [hport]; exact htimer)

theorem State.lampLit_of_deadline {t : State} {k : Nat} {l m : Line} (hl : l.lampSource = .deadline)
    (hm : m.lampSource = .deadline) (huser : m.user = l.user) (hstate : m.state = .disabled ↔ l.state = .disabled)
    (hclock : t.clock = s.clock) : t.lampLit k m = s.lampLit k l := by
  by_cases hdisabled : l.state = .disabled
  · rw [State.lampLit_of_disabled hdisabled, State.lampLit_of_disabled (hstate.2 hdisabled)]
  · rw [Bool.eq_iff_iff, State.lampLit_iff, State.lampLit_iff]
    simp only [LampLights, hl, hm, huser, hclock]
    exact and_congr (not_congr hstate) Iff.rfl

/-- A line past a second differs from its own timers' work in its hold and its lamp at most. -/
theorem State.second_line_keeps (s : State) {k : Nat} (hk : k < 32) :
    (s.second.line k).state = (s.clockTick.line k).ticked.state ∧ (s.second.line k).status = (s.clockTick.line k).status ∧
      (s.second.line k).signonTimer = (s.clockTick.line k).ticked.signonTimer ∧
      (s.second.line k).outcome = (s.clockTick.line k).ticked.outcome ∧
      (s.second.line k).answer = (s.clockTick.line k).ticked.answer ∧
      (s.second.line k).dimTimer = (s.clockTick.line k).ticked.dimTimer ∧
      (s.second.line k).display = (s.clockTick.line k).ticked.display := by
  have hstatus := (s.clockTick.line k).ticked_keeps.1
  rcases s.second_line hk with h | h <;> rw [h] <;> exact ⟨rfl, hstatus, rfl, rfl, rfl, rfl, rfl⟩

theorem State.second_status (s : State) {k : Nat} (hk : k < 32) : (s.second.line k).status =
    if (s.line k).state = .ready ∧ s.clock.tickTold = true then
      ((s.line k).user.map fun u => s.second.statusLine k u (s.line k).withdrawn).or (s.line k).status
    else (s.line k).status := by
  have hshown (u : SignedOn) (w : Option Nat) : s.second.statusLine k u w = s.clockTick.statusLine k u w :=
    State.statusLine_congr s.second_told.desks s.second_told.flashes s.second_told.clock k u w
  obtain ⟨-, hstatus, -⟩ := s.second_line_keeps hk
  rw [hstatus, s.clockTick_ticked k hk]
  simp only [hshown]

/-- The lamp of a line past a second (R99, R168). -/
theorem State.second_lamp (s : State) {k : Nat} (hk : k < 32) :
    if (s.line k).lampSource = .deadline ∧ s.clock.tickLamps = true then
      (s.second.line k).lamp = s.second.lampLit k (s.second.line k)
    else (s.second.line k).lamp = (s.line k).lamp ∨
      (s.line k).lampSource = .overset ∧ (s.second.line k).held = none ∧
        (s.second.line k).lamp = s.second.lampLit k (s.second.line k) := by
  have hclock := s.clockTick_ticked k hk
  obtain ⟨-, hlamp, hsource, huser, hdisabled⟩ := (s.clockTick.line k).ticked_keeps
  have hkept : (s.clockTick.line k).lampSource = (s.line k).lampSource ∧ (s.clockTick.line k).user = (s.line k).user ∧
      (s.clockTick.line k).state = (s.line k).state := by
    rw [hclock]
    exact ⟨rfl, rfl, rfl⟩
  have hset : (s.clockTick.line k).lamp = if (s.line k).lampSource = .deadline ∧ s.clock.tickLamps = true then
      s.clockTick.lampLit k (s.line k) else (s.line k).lamp := by rw [hclock]
  rw [hkept.1] at hsource
  rw [hkept.2.1] at huser
  rw [hkept.2.2] at hdisabled
  have hpast := s.second_line hk
  have hlit (m : Line) (hline : s.second.line k = m) (hm : m.lampSource = (s.line k).lampSource) (hu : m.user = (s.line k).user)
      (hd : m.state = .disabled ↔ (s.line k).state = .disabled) (hdeadline : (s.line k).lampSource = .deadline) :
      s.second.lampLit k (s.second.line k) = s.clockTick.lampLit k (s.line k) := by
    rw [hline]
    exact State.lampLit_of_deadline hdeadline (hm.trans hdeadline) hu hd s.second_told.clock
  generalize (s.clockTick.line k).ticked = l at hpast hlamp hsource huser hdisabled
  rw [hlamp.symm] at hset
  split at hset
  next hdue =>
    rw [if_pos hdue]
    rcases hpast with h | h
    · rw [hlit l h hsource huser hdisabled hdue.1, h, hset]
    · rw [hlit l.unheld h hsource huser hdisabled hdue.1, h, ← hset]
      exact if_neg (by rw [hsource, hdue.1]; decide)
  next hdue =>
    rw [if_neg hdue]
    rcases hpast with h | h
    · exact .inl (by rw [h, hset])
    · by_cases hoverset : l.lampSource = .overset
      · have hheld : (s.second.line k).held = none := by rw [h]; rfl
        refine .inr ⟨hsource.symm.trans hoverset, hheld, ?_⟩
        rw [State.lampLit_of_unheld (by rw [h]; exact hoverset) hheld, h]
        exact if_pos hoverset
      · rw [h, ← hset]
        exact .inl (if_neg hoverset)

end Second

/-- Settles O56: what each part of a seconds tick does. -/
theorem secondsTickMovesTimers : Obligations.SecondsTickMovesTimers := by
  intro s
  have hclock := s.second_told.clock
  obtain ⟨hstopped, hoverdue, hrunning, hterminal⟩ := s.clockTick_clock
  have hbefore (k : Nat) (hk : k < 32) : (s.clockTick.line k).state = (s.line k).state ∧
      (s.clockTick.line k).signonTimer = (s.line k).signonTimer ∧ (s.clockTick.line k).dimRuns = (s.line k).dimRuns ∧
      (s.clockTick.line k).dimTimer = (s.line k).dimTimer := by
    rw [s.clockTick_ticked k hk]
    exact ⟨rfl, rfl, rfl, rfl⟩
  refine ⟨s.second, exec_secondsTick s, s.second_touches, ?_, ?_, ?_, ?_, State.second_channel, fun k hk => s.second_status hk,
    fun k hk => s.second_lamp hk, fun k hk v hstate htimer => ?_, fun k hk v hruns htimer => ?_,
    fun k hk hstate hruns => ?_, fun n hn k user v hholder => ?_,
    fun p v j hstate hjob htimer => s.second_port hstate hjob htimer⟩
  · rwa [hclock]
  · rwa [hclock]
  · rwa [hclock]
  · intro hstate hcount
    have h := hterminal hstate hcount
    cases hnext : s.clock.next with
    | some c =>
      rw [hnext] at h
      exact hclock.trans h
    | none =>
      rw [hnext] at h
      rw [hclock]
      exact h
  · obtain ⟨hstateBefore, htimerBefore, -, -⟩ := hbefore k hk
    have h := Line.ticked_signing (hstateBefore.trans hstate) (htimerBefore.trans htimer)
    obtain ⟨hstateEnd, -, htimerEnd, houtcome, hanswer, -, -⟩ := s.second_line_keeps hk
    rw [hstateEnd, htimerEnd, houtcome, Answered, hanswer]
    exact h
  · obtain ⟨-, -, hrunsBefore, htimerBefore⟩ := hbefore k hk
    have h := Line.ticked_dim (hrunsBefore.trans hruns) (htimerBefore.trans htimer)
    obtain ⟨hstateEnd, -, -, -, -, htimerEnd, hdisplay⟩ := s.second_line_keeps hk
    rw [hstateEnd, htimerEnd, hdisplay]
    exact h
  · obtain ⟨hstateBefore, -, hrunsBefore, htimerBefore⟩ := hbefore k hk
    obtain ⟨-, -, -, -, -, htimerEnd, -⟩ := s.second_line_keeps hk
    rw [htimerEnd, Line.ticked_still (by rw [hstateBefore]; exact hstate) (by rw [hrunsBefore]; exact hruns), htimerBefore]
  · rw [s.second_holder hn, hholder, Holder.ticked]
    by_cases hlong : 1 < v
    · rw [if_pos hlong, if_neg (Nat.not_le.2 hlong)]
    · rw [if_neg hlong, if_pos (Nat.le_of_not_lt hlong)]

end Sys2Proof.Machine

namespace Sys2Proof.Machine

/-! ### A rule's verdict follows its ordered checks (R182) -/

section Follows
variable {s : State} {named : List Nat} {cs : Checks} {st : Status} {b : Bool} {v w : Verdict} {n k g : Nat}

/-- A refusal with status `st`: the records are as they were but for the choice of a holder to name, and the details name a holder
exactly where the status is HELD (R182, 11.1). -/
structure Refuses (s : State) (named : List Nat) (st : Status) (v : Verdict) : Prop where
  status : v.1 = st
  notDone : st ≠ .done
  touches : OnlyTouches [.choices] s v.2.2
  details : if st = .held then ∃ n ∈ named, (s.story n).holder ≠ .absent ∧ v.2.1 = holderBytes (s.story n).holder else v.2.1 = []

/-- The verdict is the refusal of the first check that fails, and DONE where all pass. -/
inductive Follows (s : State) (named : List Nat) : Checks → Verdict → Prop
  | pass {v : Verdict} (h : v.1 = .done) : Follows s named [] v
  | stop {b : Bool} {st : Status} {cs : Checks} {v : Verdict} (hb : b = true) (h : Refuses s named st v) :
    Follows s named ((b, st) :: cs) v
  | skip {b : Bool} {st : Status} {cs : Checks} {v : Verdict} (hb : b = false) (h : Follows s named cs v) :
    Follows s named ((b, st) :: cs) v

theorem Refuses.plain (h : st ≠ .done) (hheld : st ≠ .held) : Refuses s named st (refuse s st) :=
  ⟨rfl, h, .refl _ _, by rw [if_neg hheld]; rfl⟩

theorem Refuses.held (hn : n ∈ named) (h : (s.story n).holder ≠ .absent) : Refuses s named .held (refuseHeld s n) :=
  ⟨rfl, by decide, .refl _ _, by rw [if_pos rfl]; exact ⟨n, hn, h, rfl⟩⟩

/-- One check and one branch of the rule: they agree, and the branch refuses. -/
theorem Follows.check {c : Prop} [Decidable c] (hb : b = true ↔ c) (hstop : c → Refuses s named st w)
    (hgo : ¬c → Follows s named cs v) : Follows s named ((b, st) :: cs) (if c then w else v) := by
  by_cases hc : c
  · rw [if_pos hc]
    exact .stop (hb.2 hc) (hstop hc)
  · rw [if_neg hc]
    exact .skip (Bool.eq_false_iff.2 fun h => hc (hb.1 h)) (hgo hc)

/-- A branch that refuses with a status alone. -/
theorem Follows.test {c : Prop} [Decidable c] (hb : b = true ↔ c) (hst : st ≠ .done ∧ st ≠ .held)
    (hgo : ¬c → Follows s named cs v) : Follows s named ((b, st) :: cs) (if c then refuse s st else v) :=
  .check hb (fun _ => .plain hst.1 hst.2) hgo

/-- The same where the rule writes the effect before the refusal. -/
theorem Follows.unless {c : Prop} [Decidable c] (hb : b = true ↔ ¬c) (hst : st ≠ .done ∧ st ≠ .held)
    (hgo : c → Follows s named cs v) : Follows s named ((b, st) :: cs) (if c then v else refuse s st) := by
  rw [← ite_not]
  exact .test hb hst fun h => hgo (not_not.1 h)

/-- A branch that refuses with the holder of a story it names. -/
theorem Follows.testHeld {c : Prop} [Decidable c] (hb : b = true ↔ c) (hn : n ∈ named)
    (hheld : c → (s.story n).holder ≠ .absent) (hgo : ¬c → Follows s named cs v) :
    Follows s named ((b, .held) :: cs) (if c then refuseHeld s n else v) :=
  .check hb (fun hc => .held hn (hheld hc)) hgo

theorem Follows.refusal (h : Follows s named cs v) : match cs.refusal with
    | none => v.1 = .done
    | some st => Refuses s named st v := by
  induction h with
  | pass h => exact h
  | stop hb h =>
    subst hb
    exact h
  | skip hb _ ih =>
    subst hb
    exact ih

/-! ### What the checks say, in the rules' own words -/

theorem storyBad_iff : (decide (n < 1 ∨ 512 < n)) = !storyOk n := by
  rw [Bool.eq_iff_iff, decide_eq_true_eq, Bool.not_eq_true', Bool.eq_false_iff, ne_eq, storyOk_iff]
  omega

theorem pageBad_iff : (decide (g < 1 ∨ 48 < g)) = !pageOk g := by
  rw [Bool.eq_iff_iff, decide_eq_true_eq, Bool.not_eq_true', Bool.eq_false_iff, ne_eq, pageOk_iff]
  omega

theorem deskBad_iff {d : Nat} : (decide (15 < d)) = !deskOk d := by
  rw [Bool.eq_iff_iff, decide_eq_true_eq, Bool.not_eq_true', Bool.eq_false_iff, ne_eq, deskOk_iff]
  omega

theorem lineBad_iff : (decide (31 < k)) = !lineNumberOk k := by
  rw [Bool.eq_iff_iff, decide_eq_true_eq, Bool.not_eq_true', Bool.eq_false_iff, ne_eq, lineNumberOk, decide_eq_true_eq]
  show 31 < k ↔ ¬k < 32
  omega

theorem not_within_iff {lo hi : Nat} : (!within lo hi n) = true ↔ n < lo ∨ hi < n := by
  rw [Bool.not_eq_true', Bool.eq_false_iff, ne_eq, within, Bool.and_eq_true, decide_eq_true_eq, decide_eq_true_eq]
  omega

theorem Holder.lineNumber_isSome (h : Holder) : h.lineNumber.isSome = h.atLine := by cases h <;> rfl

theorem Holder.ne_absent_of_atLine {h : Holder} (hline : h.atLine = true) : h ≠ .absent := by
  rintro rfl
  exact Bool.false_ne_true hline

theorem Holder.notLine_iff {h : Holder} : h.notLine k = true ↔ h.bars k = true := by
  simp [Holder.notLine, Holder.bars]

theorem Holder.ne_absent_of_bars {h : Holder} (hbars : h.bars k = true) : h ≠ .absent := by
  rintro rfl
  exact Bool.false_ne_true hbars

theorem PageState.frozen_iff (p : PageState) : p.frozen = true ↔ p = .releasing ∨ p = .queued ∨ p = .setting ∨ p = .set := by
  cases p <;> decide

theorem State.frozenStory_eq : s.frozenStory n = s.onFrozenPage n := by
  unfold State.frozenStory State.onFrozenPage
  cases (s.story n).run with
  | none => rfl
  | some run => rw [Bool.eq_iff_iff, Option.any_some, decide_eq_true_eq, PageState.frozen_iff]

/-- The checks of a request that names a story, before its own (R2). -/
theorem Follows.story {bad ok : Bool} (hbad : bad = !ok) (hfree : (s.story n).stage = .free → v = refuse s .noSuch)
    (h : (s.story n).stage ≠ .free → Follows s named cs v) :
    Follows s named (s.storyChecks n bad ++ cs) (if (!(storyOk n && ok)) = true then refuse s .badField else v) := by
  refine .test ?_ (by decide) fun _ => ?_
  · rw [storyBad_iff, hbad, Bool.not_and]
  · by_cases hstage : (s.story n).stage = .free
    · rw [hfree hstage]
      exact .stop (decide_eq_true hstage) (.plain (by decide) (by decide))
    · exact .skip (decide_eq_false hstage) (h hstage)

/-- The same for a request with no other field to check. -/
theorem Follows.storyAlone (hfree : (s.story n).stage = .free → v = refuse s .noSuch)
    (h : (s.story n).stage ≠ .free → Follows s named cs v) :
    Follows s named (s.storyChecks n false ++ cs) (if (!storyOk n) = true then refuse s .badField else v) := by
  have hstory := Follows.story (ok := true) rfl hfree h
  rwa [Bool.and_true] at hstory

end Follows

end Sys2Proof.Machine

namespace Sys2Proof.Machine

/-! ### The rules of stories follow their checks (R9 to R39) -/

section StoryRules
variable {s : State} {named : List Nat} {cs : Checks} {v : Verdict} {n k : Nat} {tag : Byte}

theorem Priority.ofCode_eq_none {p : Nat} : Priority.ofCode p = none ↔ 2 < p := by
  match p with
  | 0 => exact by decide
  | 1 => exact by decide
  | 2 => exact by decide
  | p + 3 => exact iff_of_true rfl (by omega)

theorem State.noneFree_eq : s.noneFree = s.lowestFree.isNone := by
  rw [State.noneFree, State.lowestFree, Bool.eq_iff_iff, List.all_eq_true, Option.isNone_iff_eq_none, List.find?_eq_none]
  simp

theorem State.create_follows {slug : List Byte} {desk style priority : Nat} :
    Follows s named (s.checks (.create tag slug desk style priority)) (s.create slug desk style priority) := by
  unfold State.create
  cases hp : Priority.ofCode priority with
  | none => exact .stop (by simp [Priority.ofCode_eq_none.1 hp]) (.plain (by decide) (by decide))
  | some p =>
    have hcode : ¬2 < priority := fun h => by rw [Priority.ofCode_eq_none.2 h] at hp; cases hp
    refine .unless ?_ (by decide) fun _ => ?_
    · rw [Bool.and_assoc, Bool.and_eq_true, not_and_or, Bool.or_eq_true, Bool.not_eq_true', Bool.not_eq_true,
        Bool.and_eq_true, deskOk_iff, decide_eq_true_eq, decide_eq_true_eq]
      refine or_congr Iff.rfl ⟨?_, ?_⟩
      · rintro (h | h | h)
        · omega
        · exact fun h' => absurd h (Nat.not_lt.2 (Nat.le_of_lt_succ h'.2))
        · omega
      · intro h
        by_contra h'
        rw [not_or, not_or] at h'
        exact h ⟨Nat.not_lt.1 h'.1, Nat.lt_succ_of_le (Nat.not_lt.1 h'.2.1)⟩
    · cases hfree : s.lowestFree with
      | none => exact .stop (by rw [State.noneFree_eq, hfree]; rfl) (.plain (by decide) (by decide))
      | some m => exact .skip (by rw [State.noneFree_eq, hfree]; rfl) (.pass rfl)

theorem State.newStory_follows {slug : List Byte} {style priority : Nat} {l : Fin 32} (huser : (s.line l).user.isSome = true) :
    Follows s named (s.checks (.new l slug style priority)) (s.newStory l slug style priority) := by
  unfold State.newStory
  cases hp : Priority.ofCode priority with
  | none => exact .stop (by simp [Priority.ofCode_eq_none.1 hp]) (.plain (by decide) (by decide))
  | some p =>
    have hcode : ¬2 < priority := fun h => by rw [Priority.ofCode_eq_none.2 h] at hp; cases hp
    obtain ⟨u, hu⟩ := Option.isSome_iff_exists.1 huser
    refine .unless ?_ (by decide) fun _ => ?_
    · rw [Bool.and_eq_true, not_and_or, Bool.or_eq_true, Bool.not_eq_true', Bool.not_eq_true, decide_eq_true_eq,
        decide_eq_true_eq, Nat.not_lt]
      exact or_congr Iff.rfl ⟨fun h => h.resolve_right hcode, .inl⟩
    · rw [hu]
      refine .test Iff.rfl (by decide) fun _ => ?_
      cases hfree : s.lowestFree with
      | none => exact .stop (by rw [State.noneFree_eq, hfree]; rfl) (.plain (by decide) (by decide))
      | some m => exact .skip (by rw [State.noneFree_eq, hfree]; rfl) (.pass rfl)

/-! #### TEXT and the lengths of R6 -/

theorem State.textRefusal_follows {text : List CopyLine} (hnone : s.textRefusal n text = none → v.1 = .done)
    (hsome : ∀ st, s.textRefusal n text = some st → v = refuse s st) : Follows s named (s.lengthChecks n text) v := by
  have hlong : (999 < text.length ∨ 32768 < storedLength text) ↔
      (Config.maxLines < text.length ∨ Config.maxStored < storedLength text) := Iff.rfl
  unfold State.textRefusal at hnone hsome
  by_cases hl : Config.maxLines < text.length ∨ Config.maxStored < storedLength text
  · rw [hsome .tooLong (if_pos hl)]
    exact .stop (decide_eq_true hl) (.plain (by decide) (by decide))
  · rw [if_neg hl] at hnone hsome
    refine .skip (decide_eq_false hl) ?_
    by_cases hfull : (s.story n).chain.length + s.store.free < blocksFor (storedLength text)
    · rw [hsome .storeFull (if_pos hfull)]
      exact .stop (decide_eq_true hfull) (.plain (by decide) (by decide))
    · exact .skip (decide_eq_false hfull) (.pass (hnone (if_neg hfull)))

theorem State.textWrite_follows {style : Option Nat} {text : List CopyLine} :
    Follows s named (s.lengthChecks n text) (s.textWrite n style text) := by
  refine State.textRefusal_follows (fun h => ?_) fun st h => ?_
  · rw [State.textWrite, h]
  · rw [State.textWrite, h]

theorem style_bad_iff {style : Option Nat} : style.any (fun y => decide (31 < y)) = !optWithin 0 31 style := by
  cases style with
  | none => rfl
  | some y =>
    rw [Option.any_some, Bool.eq_iff_iff, decide_eq_true_eq, optWithin, not_within_iff]
    omega

/-- The first four checks of TEXT, and the rest of it past them (R12). -/
theorem State.textCheck_follows {style : Option Nat} {new : List CopyLine} (hn : n ∈ named)
    (hsome : ∀ w, s.textCheck n style new = some w → v = w) (hgo : s.textCheck n style new = none → Follows s named cs v) :
    Follows s named (s.textChecks n style new ++ cs) v := by
  unfold State.textCheck at hsome hgo
  by_cases hok : (!(storyOk n && optWithin 0 31 style && new.all lineOk)) = true
  · rw [hsome _ (if_pos hok)]
    refine .stop ?_ (.plain (by decide) (by decide))
    rw [storyBad_iff, style_bad_iff, ← Bool.not_and, ← Bool.not_and, ← Bool.and_assoc]
    exact hok
  rw [if_neg hok] at hsome hgo
  refine .skip ?_ ?_
  · rw [storyBad_iff, style_bad_iff, ← Bool.not_and, ← Bool.not_and, ← Bool.and_assoc]
    exact Bool.eq_false_iff.2 hok
  split at hsome
  next hstage =>
    rw [hsome _ rfl]
    exact .stop (decide_eq_true hstage) (.plain (by decide) (by decide))
  next stage hmade =>
    refine .skip (decide_eq_false hmade) ?_
    split at hgo
    next => contradiction
    next =>
      by_cases hheld : (s.story n).holder.atLine = true
      · rw [hsome _ (if_pos hheld)]
        exact .stop (by rw [Holder.lineNumber_isSome, hheld]) (.held hn (Holder.ne_absent_of_atLine hheld))
      rw [if_neg hheld] at hsome hgo
      refine .skip (by rw [Holder.lineNumber_isSome]; exact Bool.eq_false_iff.2 hheld) ?_
      by_cases hspiked : (s.story n).stage = .spiked
      · rw [hsome _ (if_pos hspiked)]
        exact .stop (decide_eq_true hspiked) (.plain (by decide) (by decide))
      rw [if_neg hspiked] at hsome hgo
      refine .skip (decide_eq_false hspiked) ?_
      by_cases hfrozen : s.onFrozenPage n = true
      · rw [hsome _ (if_pos hfrozen)]
        exact .stop (State.frozenStory_eq.trans hfrozen) (.plain (by decide) (by decide))
      · exact .skip (State.frozenStory_eq.trans (Bool.eq_false_iff.2 hfrozen)) (hgo (if_neg hfrozen))

theorem State.textAppend_follows {style : Option Nat} {new : List CopyLine} (hn : n ∈ named) :
    Follows s named (s.checks (.textAppend tag n style new)) (s.textAppend n style new) := by
  refine State.textCheck_follows hn (fun w h => ?_) fun h => ?_
  · rw [State.textAppend, h]
  · rw [State.textAppend, h]
    exact State.textWrite_follows

theorem State.textReplace_follows {style : Option Nat} {new : List CopyLine} (hn : n ∈ named) :
    Follows s named (s.checks (.textReplace tag n style new)) (s.textReplace n style new) := by
  refine State.textCheck_follows hn (fun w h => ?_) fun h => ?_
  · rw [State.textReplace, h]
  · rw [State.textReplace, h]
    exact State.textWrite_follows

theorem State.textReplaceRange_follows {style : Option Nat} {f c : Nat} {new : List CopyLine} (hn : n ∈ named) :
    Follows s named (s.checks (.textReplaceRange tag n style f c new)) (s.textReplaceRange n style f c new) := by
  rw [State.checks, List.append_assoc]
  refine State.textCheck_follows hn (fun w h => ?_) fun h => ?_
  · rw [State.textReplaceRange, h]
  · rw [State.textReplaceRange, h]
    exact .test decide_eq_true_iff (by decide) fun _ => State.textWrite_follows

/-! #### READ, INFO and PURGE -/

theorem State.readLines_follows {f : Nat} : Follows s named (s.checks (.read tag n f)) (s.readLines n f) :=
  .storyAlone (fun h => if_pos h) fun h => by
    rw [if_neg h]
    exact .test decide_eq_true_iff (by decide) fun _ => .pass rfl

theorem State.infoOf_follows : Follows s named (s.checks (.info tag n)) (s.infoOf n) := by
  have h := Follows.storyAlone (s := s) (named := named) (n := n) (cs := [])
    (v := if (s.story n).stage = .free then refuse s .noSuch else (.done, infoBytes n (s.story n), s))
    (fun h => if_pos h) fun h => by
      rw [if_neg h]
      exact .pass rfl
  rwa [List.append_nil] at h

theorem State.purge_follows : Follows s named (s.checks (.purge tag n)) (s.purge n) := by
  refine .storyAlone (fun h => by rw [h]) fun hmade => ?_
  by_cases hstage : (s.story n).stage = .spiked ∨ (s.story n).stage = .set
  · refine .skip (decide_eq_false (by tauto)) ?_
    rcases hstage with h | h <;> rw [h] <;> exact .pass rfl
  · refine .stop (decide_eq_true (by tauto)) ?_
    cases h : (s.story n).stage
    case free => exact absurd h hmade
    case spiked => exact absurd (.inl h) hstage
    case set => exact absurd (.inr h) hstage
    all_goals exact .plain (by decide) (by decide)

/-! #### ROUTE, PRIORITY, SPIKE, UNSPIKE and KILL -/

/-- The stage check of a move out of BASKET, and the rest of the rule past it. -/
theorem Follows.inBasket (hout : (s.story n).stage ≠ .basket → v = refuse s .stage)
    (hin : (s.story n).stage = .basket → Follows s named cs v) :
    Follows s named ((decide ((s.story n).stage ≠ .basket), .stage) :: cs) v := by
  by_cases h : (s.story n).stage = .basket
  · exact .skip (decide_eq_false (not_not.2 h)) (hin h)
  · rw [hout h]
    exact .stop (decide_eq_true h) (.plain (by decide) (by decide))

/-- The check of a line's hold, live or orphaned, before the host's effect. -/
theorem Follows.notAtLine (hn : n ∈ named) (hgo : Follows s named cs v) :
    Follows s named (((s.story n).holder.lineNumber.isSome, .held) :: cs)
      (if (s.story n).holder.atLine = true then refuseHeld s n else v) :=
  .testHeld (by rw [Holder.lineNumber_isSome]) hn Holder.ne_absent_of_atLine fun _ => hgo

/-- The check of another's hold before a terminal's effect. -/
theorem Follows.notBarred (hn : n ∈ named) (hgo : (s.story n).holder.bars k ≠ true → Follows s named cs v) :
    Follows s named (((s.story n).holder.notLine k, .held) :: cs)
      (if (s.story n).holder.bars k = true then refuseHeld s n else v) :=
  .testHeld Holder.notLine_iff hn Holder.ne_absent_of_bars hgo

theorem State.hostRoute_follows {desk : Nat} (hn : n ∈ named) :
    Follows s named (s.checks (.hostRoute tag n desk)) (s.hostRoute n desk) := by
  refine .story deskBad_iff (fun h => by rw [h]) fun hmade => ?_
  refine .inBasket (fun h => ?_) fun h => ?_
  · split <;> first | contradiction | rfl
  · rw [h]
    exact .notAtLine hn (.pass rfl)

theorem State.onDesk_eq_false {l : Line} {d : Nat} : l.onDesk d = false ↔ ∀ u ∈ l.user, u.desk ≠ d := by
  unfold Line.onDesk
  cases l.user <;> simp

theorem State.lineRoute_follows {l : Fin 32} {desk : Nat} (hn : n ∈ named) :
    Follows s named (s.checks (.terminalRoute l n desk)) (s.lineRoute l n desk) := by
  refine .story deskBad_iff (fun h => by rw [h]) fun hmade => ?_
  refine .inBasket (fun h => ?_) fun h => ?_
  · split <;> first | contradiction | rfl
  · rw [h]
    refine .notBarred hn fun _ => .test ?_ (by decide) fun _ => .pass rfl
    rw [decide_eq_true_iff, State.onDesk_eq_false]

theorem State.hostPriority_follows {priority : Nat} :
    Follows s named (s.checks (.hostPriority tag n priority)) (s.hostPriority n priority) := by
  unfold State.hostPriority
  cases hp : Priority.ofCode priority with
  | none => exact .stop (by simp [Priority.ofCode_eq_none.1 hp]) (.plain (by decide) (by decide))
  | some p =>
    have hcode : ¬2 < priority := fun h => by rw [Priority.ofCode_eq_none.2 h] at hp; cases hp
    rw [State.checks, decide_eq_false hcode, ← List.append_nil (s.storyChecks n false)]
    refine .storyAlone (fun h => if_pos h) fun h => ?_
    rw [if_neg h]
    exact .pass rfl

theorem State.linePriority_follows {l : Fin 32} {priority : Nat} :
    Follows s named (s.checks (.terminalPriority l priority)) (s.linePriority l priority) := by
  unfold State.linePriority
  cases hp : Priority.ofCode priority with
  | none => exact .stop (decide_eq_true (Priority.ofCode_eq_none.1 hp)) (.plain (by decide) (by decide))
  | some p =>
    have hcode : ¬2 < priority := fun h => by rw [Priority.ofCode_eq_none.2 h] at hp; cases hp
    refine .skip (decide_eq_false hcode) ?_
    cases hheld : (s.line l).held with
    | none => exact .stop rfl (.plain (by decide) (by decide))
    | some m => exact .skip rfl (.pass rfl)

theorem State.hostSpike_follows (hn : n ∈ named) : Follows s named (s.checks (.hostSpike tag n)) (s.hostSpike n) := by
  refine .storyAlone (fun h => by rw [h]) fun hmade => ?_
  refine .inBasket (fun h => ?_) fun h => ?_
  · split <;> first | contradiction | rfl
  · rw [h]
    exact .notAtLine hn (.pass rfl)

theorem State.lineSpike_follows {l : Fin 32} (hn : n ∈ named) :
    Follows s named (s.checks (.terminalSpike l n)) (s.lineSpike l n) :=
  .storyAlone (fun h => if_pos h) fun h => by
    rw [if_neg h]
    refine .test Iff.rfl (by decide) fun _ => .test decide_eq_true_iff (by decide) fun _ => ?_
    exact .notBarred hn fun _ => .pass rfl

theorem State.unspike_follows : Follows s named (s.checks (.unspike tag n)) (s.unspike n) := by
  refine .storyAlone (fun h => by rw [h]) fun hmade => ?_
  by_cases h : (s.story n).stage = .spiked
  · refine .skip (decide_eq_false (not_not.2 h)) ?_
    rw [h]
    exact .pass rfl
  · refine .stop (decide_eq_true h) ?_
    split
    all_goals first | contradiction | exact .plain (by decide) (by decide)

theorem Stage.not_onPage_iff {stage : Stage} (h : stage ≠ .free) : stage = .basket ∨ stage = .spiked ↔ (!stage.onPage) = true := by
  cases stage <;> simp_all [Stage.onPage]

theorem State.hostKill_follows (hn : n ∈ named) : Follows s named (s.checks (.hostKill tag n)) (s.hostKill n) :=
  .storyAlone (fun h => if_pos h) fun h => by
    rw [if_neg h]
    refine .test (decide_eq_true_iff.trans (Stage.not_onPage_iff h)) (by decide) fun _ => ?_
    exact .notAtLine hn (.pass rfl)

theorem State.lineKill_follows {l : Fin 32} (hn : n ∈ named) :
    Follows s named (s.checks (.terminalKill l n)) (s.lineKill l n) :=
  .storyAlone (fun h => if_pos h) fun h => by
    rw [if_neg h]
    refine .test Iff.rfl (by decide) fun _ =>
      .test (decide_eq_true_iff.trans (Stage.not_onPage_iff h)) (by decide) fun _ => ?_
    refine .notBarred hn fun _ => .test (by rw [State.frozenStory_eq]) (by decide) fun _ => .pass rfl

/-! #### ARM, BASKET and the holds -/

theorem State.armOverride_follows {l : Fin 32} : Follows s named (s.checks (.arm l)) (s.armOverride l) := by
  refine .unless ?_ (by decide) fun _ => .pass rfl
  rw [Bool.not_eq_true', Bool.not_eq_true]

theorem State.basketOf_follows {desk list p : Nat} :
    Follows s named (s.checks (.basket tag desk list p)) (s.basketOf desk list p) := by
  unfold State.basketOf
  match list with
  | 0 =>
    refine .test ?_ (by decide) fun _ => .pass rfl
    simp only [decide_eq_true_eq, Bool.or_eq_true, Bool.not_eq_true', Bool.eq_false_iff, ne_eq, deskOk_iff, if_true]
    omega
  | 1 =>
    refine .test ?_ (by decide) fun _ => .pass rfl
    simp only [decide_eq_true_eq, Bool.or_eq_true, Bool.not_eq_true', Bool.eq_false_iff, ne_eq, deskOk_iff,
      Nat.one_ne_zero, if_false]
    omega
  | list + 2 => exact .stop (decide_eq_true (.inr (.inl (by omega)))) (.plain (by decide) (by decide))

theorem State.lineOpen_follows {l : Fin 32} (hn : n ∈ named) : Follows s named (s.checks (.terminalOpen l n)) (s.lineOpen l n) :=
  .storyAlone (fun h => if_pos h) fun h => by
    rw [if_neg h]
    refine .test ?_ (by decide) fun _ => .test decide_eq_true_iff (by decide) fun _ =>
      .test (by rw [State.frozenStory_eq]) (by decide) fun _ => .test ?_ (by decide) fun _ => .notBarred hn fun _ => .pass rfl
    · simp [Option.isSome_iff_ne_none]
    · rw [Bool.and_eq_true, Bool.and_eq_true, Bool.not_eq_true', decide_eq_true_iff, State.onDesk_eq_false]

theorem State.hostOpen_follows (hn : n ∈ named) : Follows s named (s.checks (.hostOpen tag n)) (s.hostOpen n) :=
  .storyAlone (fun h => if_pos h) fun h => by
    rw [if_neg h]
    refine .test decide_eq_true_iff (by decide) fun _ => .test (by rw [State.frozenStory_eq]) (by decide) fun _ => ?_
    exact .notAtLine hn (.pass rfl)

theorem State.lineClose_follows {l : Fin 32} : Follows s named (s.checks (.terminalClose l)) (s.lineClose l) := by
  unfold State.lineClose
  rw [State.checks]
  cases hheld : (s.line l).held with
  | none => exact .stop rfl (.plain (by decide) (by decide))
  | some m => exact .skip rfl (.pass rfl)

theorem State.hostClose_follows : Follows s named (s.checks (.hostClose tag n)) (s.hostClose n) :=
  .storyAlone (fun h => if_pos h) fun h => by
    rw [if_neg h]
    exact .unless decide_eq_true_iff (by decide) fun _ => .pass rfl

theorem State.freeHold_follows : Follows s named (s.checks (.free tag n)) (s.freeHold n) :=
  .storyAlone (fun h => if_pos h) fun h => by
    rw [if_neg h]
    exact .test decide_eq_true_iff (by decide) fun _ => .pass rfl

end StoryRules

end Sys2Proof.Machine

namespace Sys2Proof.Machine

/-! ### The rules of lines, screens and tables follow their checks (R62 to R106) -/

section LineRules
variable {s : State} {named : List Nat} {cs : Checks} {v : Verdict} {n k : Nat} {tag : Byte}

theorem speedOk_iff {v : Nat} : speedOk v = true ↔ v ∈ [1200, 2400, 4800, 9600, 19200] := by
  simp [speedOk, or_assoc]

theorem flagField_eq_none {f : Option Nat} : flagField f = none ↔ ∃ c ∈ f, 1 < c := by
  match f with
  | none => simp [flagField]
  | some 0 => simp [flagField, firstOfTwo]
  | some 1 => simp [flagField, firstOfTwo]
  | some (c + 2) => simp [flagField, firstOfTwo]

theorem not_optWithin_iff {lo hi : Nat} {o : Option Nat} : optWithin lo hi o = false ↔ ∃ v ∈ o, v < lo ∨ hi < v := by
  cases o with
  | none => simp [optWithin]
  | some v => rw [optWithin, ← Bool.not_eq_true', not_within_iff]; simp

theorem State.lineset_follows {speed model dimTime wakeFlash wakeUrgent : Option Nat} :
    Follows s named (s.checks (.lineset tag k speed model dimTime wakeFlash wakeUrgent))
      (s.lineset k speed model dimTime wakeFlash wakeUrgent) := by
  unfold State.lineset
  cases hflash : flagField wakeFlash with
  | none =>
    have hbad := flagField_eq_none.1 hflash
    exact .stop (decide_eq_true (.inr (.inr (.inr (.inl hbad))))) (.plain (by decide) (by decide))
  | some wf =>
    have hflashOk : ¬∃ c ∈ wakeFlash, 1 < c := fun h => by rw [flagField_eq_none.2 h] at hflash; cases hflash
    cases hurgent : flagField wakeUrgent with
    | none =>
      have hbad := flagField_eq_none.1 hurgent
      exact .stop (decide_eq_true (.inr (.inr (.inr (.inr hbad))))) (.plain (by decide) (by decide))
    | some wu =>
      have hurgentOk : ¬∃ c ∈ wakeUrgent, 1 < c := fun h => by rw [flagField_eq_none.2 h] at hurgent; cases hurgent
      refine .test ?_ (by decide) fun _ => .test ?_ (by decide) fun _ => .pass rfl
      · have hspeed : speed.all speedOk = false ↔ ∃ v ∈ speed, v ∉ [1200, 2400, 4800, 9600, 19200] := by
          cases speed with
          | none => simp
          | some v => rw [Option.all_some, Bool.eq_false_iff, ne_eq, speedOk_iff]; simp
        have hmodel : optWithin 0 1 model = false ↔ ∃ m ∈ model, 1 < m := by
          rw [not_optWithin_iff]
          simp
        have hline : lineNumberOk k = false ↔ 31 < k := by
          rw [← Bool.not_eq_true', ← lineBad_iff, decide_eq_true_eq]
        rw [decide_eq_true_eq, Bool.not_eq_true', Bool.and_eq_false_iff, Bool.and_eq_false_iff, hspeed, hmodel, hline,
          or_iff_left hurgentOk, or_iff_left hflashOk, or_assoc]
      · simp [bne]

theorem State.lineon_follows : Follows s named (s.checks (.lineon tag k)) (s.lineon k) :=
  .test (by rw [lineBad_iff]) (by decide) fun _ => .unless decide_eq_true_iff (by decide) fun _ => .pass rfl

theorem State.lineoff_follows : Follows s named (s.checks (.lineoff tag k)) (s.lineoff k) :=
  .test (by rw [lineBad_iff]) (by decide) fun _ => .pass (by split <;> rfl)

theorem State.linestat_follows : Follows s named (s.checks (.linestat tag k)) (s.linestat k) :=
  .test (by rw [lineBad_iff]) (by decide) fun _ => .pass rfl

/-- The checks of a VERDICT past its fields (R76, R77). -/
theorem State.lateVerdict_follows (hdone : (s.line k).state = .signing → v.1 = .done)
    (hlate : (s.line k).state ≠ .signing → v = s.lateVerdict k) :
    Follows s named [(decide ((s.line k).state ≠ .signing ∧ ((s.line k).outcome = .timedOut ∨ (s.line k).outcome = .abandoned)),
      .tooLate), (decide ((s.line k).state ≠ .signing), .state)] v := by
  by_cases hsigning : (s.line k).state = .signing
  · exact .skip (decide_eq_false fun h => h.1 hsigning) (.skip (decide_eq_false (not_not.2 hsigning)) (.pass (hdone hsigning)))
  · rw [hlate hsigning]
    by_cases hover : (s.line k).outcome = .timedOut ∨ (s.line k).outcome = .abandoned
    · refine .stop (decide_eq_true ⟨hsigning, hover⟩) ?_
      rw [State.lateVerdict]
      rcases hover with h | h <;> rw [h] <;> exact .plain (by decide) (by decide)
    · refine .skip (decide_eq_false fun h => hover h.2) (.stop (decide_eq_true hsigning) ?_)
      rw [State.lateVerdict]
      cases h : (s.line k).outcome
      case timedOut => exact absurd (.inl h) hover
      case abandoned => exact absurd (.inr h) hover
      all_goals exact .plain (by decide) (by decide)

theorem Role.ofCode_eq_none {r : Nat} : Role.ofCode r = none ↔ 2 < r := by
  match r with
  | 0 => exact by decide
  | 1 => exact by decide
  | 2 => exact by decide
  | r + 3 => exact iff_of_true rfl (by omega)

theorem State.verdictGrant_follows {desk role : Nat} :
    Follows s named (s.checks (.verdictGrant tag k desk role)) (s.verdictGrant k desk role) := by
  unfold State.verdictGrant
  cases hrole : Role.ofCode role with
  | none => exact .stop (by simp [Role.ofCode_eq_none.1 hrole]) (.plain (by decide) (by decide))
  | some r =>
    have hcode : ¬2 < role := fun h => by rw [Role.ofCode_eq_none.2 h] at hrole; cases hrole
    refine .test ?_ (by decide) fun _ => State.lateVerdict_follows (fun h => by rw [if_pos h]) fun h => if_neg h
    rw [lineBad_iff, Bool.not_and, ← deskBad_iff, Bool.or_eq_true, Bool.or_eq_true, decide_eq_true_eq, decide_eq_true_eq]
    exact or_congr Iff.rfl (or_iff_left hcode)

theorem State.verdictDeny_follows : Follows s named (s.checks (.verdictDeny tag k)) (s.verdictDeny k) := by
  refine .test ?_ (by decide) fun _ => State.lateVerdict_follows (fun h => by rw [if_pos h]) fun h => if_neg h
  rw [lineBad_iff, Bool.or_false]

theorem State.windowFrom_follows {l : Fin 32} {first : Option Nat} :
    Follows s named (s.checks (.window l first)) (s.windowFrom l first) := by
  refine .test ?_ (by decide) fun _ => ?_
  · rw [decide_eq_true_eq, Bool.not_eq_true', not_optWithin_iff]
    simp
  · cases hheld : (s.line l).held with
    | none => exact .stop rfl (.plain (by decide) (by decide))
    | some m =>
      refine .skip rfl (.test ?_ (by decide) fun _ => .pass rfl)
      cases first <;> simp

theorem Line.replaced_eq {l : Line} {range : Option (Nat × Nat)} : l.replaced range = l.returnRange range := by
  cases range <;> rfl

theorem State.not_editable_iff : s.editable n = false ↔ ¬((s.story n).stage = .basket ∨
    ((s.story n).stage = .placed ∧ (s.story n).run.any (fun run => decide ((s.page run.page).state = .makeup)) = true)) := by
  unfold State.editable
  cases hstage : (s.story n).stage <;> cases hrun : (s.story n).run <;> simp [hstage, hrun]

theorem State.returnLines_follows {l : Fin 32} {range : Option (Nat × Nat)} {new : List CopyLine} :
    Follows s named (s.checks (.ret l range new)) (s.returnLines l range new) := by
  unfold State.returnLines
  rw [State.checks, State.returnChecks, Line.replaced_eq]
  refine .test ?_ (by decide) fun _ => ?_
  · cases h : (s.line l).returnRange range with
    | none =>
      simp only [Line.returnFields, h, Option.getD_none, Bool.or_eq_true, Bool.true_and, Bool.not_eq_true',
        Bool.and_eq_false_iff, decide_eq_true_eq, decide_eq_false_iff_not]
      exact or_congr (by omega) Iff.rfl
    | some fk =>
      simp only [Line.returnFields, h, Option.getD_some, Bool.or_eq_true, Bool.not_eq_true', Bool.and_eq_false_iff,
        decide_eq_true_eq, decide_eq_false_iff_not]
      exact or_congr (by omega) Iff.rfl
  · cases hheld : (s.line l).held with
    | none => exact .stop rfl (.plain (by decide) (by decide))
    | some m =>
      cases hrange : (s.line l).returnRange range with
      | none => exact .stop rfl (.plain (by decide) (by decide))
      | some fk =>
        refine .skip rfl (.test decide_eq_true_iff (by decide) fun _ => .test ?_ (by decide) fun _ => ?_)
        · rw [decide_eq_true_eq, Bool.not_eq_true', State.not_editable_iff]
          rfl
        · refine State.textRefusal_follows (fun h => ?_) fun st h => ?_
          · dsimp only [Option.getD_some] at h
            simp only [replaceRange, h]
          · dsimp only [Option.getD_some] at h
            simp only [replaceRange, h]

theorem State.homeFrom_follows {d p : Nat} :
    Follows s named [(decide (15 < d ∨ (s.desk d).basket.length < p), .badField)] (s.homeFrom k d p) := by
  refine .test ?_ (by decide) fun _ => .pass rfl
  rw [← deskBad_iff, decide_eq_true_eq, Bool.or_eq_true, decide_eq_true_eq, decide_eq_true_eq]

theorem State.home_follows {l : Fin 32} {desk first : Option Nat} (huser : (s.line l).user.isSome = true) :
    Follows s named (s.checks (.home l desk first)) (s.home l desk first) := by
  obtain ⟨u, hu⟩ := Option.isSome_iff_exists.1 huser
  rw [State.checks, hu]
  unfold State.home
  cases desk with
  | none =>
    rw [hu]
    exact State.homeFrom_follows
  | some d => exact State.homeFrom_follows

theorem State.flash_follows {text : List Byte} {mask : BitVec 16} :
    Follows s named (s.checks (.flash tag text mask)) (s.flash text mask) := by
  refine .test ?_ (by decide) fun _ => .pass rfl
  simp only [flashTextOk, decide_eq_true_eq, Bool.or_eq_true, Bool.not_eq_true', Bool.and_eq_false_iff, beq_iff_eq,
    decide_eq_false_iff_not, List.all_eq_false, Bool.and_eq_true, not_and_or, Nat.not_le, ← List.length_eq_zero_iff]
  constructor
  · rintro (h | h | h | h)
    · omega
    · exact .inl (.inl (.inr h))
    · exact .inl (.inr h)
    · exact .inr h
  · rintro (((h | h) | h) | h)
    · exact .inl (by omega)
    · exact .inr (.inl h)
    · exact .inr (.inr (.inl h))
    · exact .inr (.inr (.inr h))

theorem LampSource.ofCode_eq_none_iff {c : Nat} : LampSource.ofCode c = none ↔ 7 < c := by
  refine ⟨fun h => ?_, LampSource.ofCode_eq_none⟩
  by_contra hle
  have hle : c < 8 := by omega
  interval_cases c <;> cases h

theorem State.chooseLamp_follows {source : Nat} : Follows s named (s.checks (.lamp tag k source)) (s.chooseLamp k source) := by
  by_cases hbad : 31 < k ∨ 7 < source
  · rw [State.chooseLamp_bad hbad]
    exact .stop (decide_eq_true hbad) (.plain (by decide) (by decide))
  · refine .skip (decide_eq_false hbad) ?_
    rw [not_or] at hbad
    unfold State.chooseLamp
    cases hsource : LampSource.ofCode source with
    | none => exact absurd (LampSource.ofCode_eq_none_iff.1 hsource) hbad.2
    | some src =>
      dsimp only
      rw [if_neg (by rw [lineNumberOk_of_lt (by omega)]; decide)]
      exact .pass rfl

/-! ### The tables (R102 to R106, R145, R146) -/

theorem State.tablesFrozen_follows {w : Verdict} (hw : w.1 = .done) :
    Follows s named [(s.tablesFrozen, .frozen)] (if s.tablesFrozen = true then refuse s .frozen else w) :=
  .test Iff.rfl (by decide) fun _ => .pass hw

theorem State.loadStyle_follows {f : StyleFields} : Follows s named (s.checks (.style tag n f)) (s.loadStyle n f) := by
  refine .test ?_ (by decide) fun _ => State.tablesFrozen_follows rfl
  rw [Bool.not_and, Bool.or_eq_true, Bool.or_eq_true, decide_eq_true_eq, Bool.not_eq_true' (decide _),
    decide_eq_false_iff_not, Nat.not_lt]
  exact Iff.rfl

theorem State.loadWidths_follows {font c : Nat} {values : List Nat} :
    Follows s named (s.checks (.widths tag font c values)) (s.loadWidths font c values) := by
  refine .test ?_ (by decide) fun _ => State.tablesFrozen_follows rfl
  have hfont : Config.fonts = 8 := rfl
  rw [decide_eq_true_eq, Bool.not_eq_true', Bool.and_eq_false_iff, Bool.and_eq_false_iff, Bool.and_eq_false_iff,
    ← Bool.not_eq_true' (within _ _ _), not_within_iff, decide_eq_false_iff_not, decide_eq_false_iff_not,
    decide_eq_false_iff_not, not_not, List.length_eq_zero_iff, hfont, Nat.not_lt, Nat.not_le]
  simp only [or_assoc]
  exact Iff.rfl

theorem State.loadXlate_follows {c : Nat} {entries : List (List Nat)} :
    Follows s named (s.checks (.xlate tag c entries)) (s.loadXlate c entries) := by
  refine .test ?_ (by decide) fun _ => State.tablesFrozen_follows rfl
  have hentries : (entries.all fun e => decide (e.length ≤ 2) && e.all fun v => decide (v ≤ 255)) = false ↔
      ∃ e ∈ entries, 2 < e.length ∨ ∃ v ∈ e, 255 < v := by
    simp only [List.all_eq_false, Bool.and_eq_true, decide_eq_true_eq, not_and_or, Nat.not_le, List.all_eq_true, not_forall,
      exists_prop]
  rw [decide_eq_true_eq, Bool.not_eq_true', xlateOk, Bool.and_eq_false_iff, hentries]
  simp only [Bool.and_eq_false_iff, decide_eq_false_iff_not, Bool.not_eq_false', Bool.and_eq_true, decide_eq_true_eq, not_not,
    List.length_eq_zero_iff, Nat.not_le]
  by_cases hnil : entries = []
  · exact iff_of_true (.inr (.inl hnil)) (.inl (.inl (.inl (.inl hnil))))
  · have hlength := List.length_pos_iff.2 hnil
    constructor
    · rintro (h | h | h | h | h)
      · exact .inl (.inl (.inl (.inr h)))
      · exact absurd h hnil
      · exact .inl (.inl (.inr h))
      · exact .inl (.inr ⟨h.1, by omega⟩)
      · exact .inr h
    · rintro ((((h | h) | h) | h) | h)
      · exact absurd h hnil
      · exact .inl h
      · exact .inr (.inr (.inl h))
      · exact .inr (.inr (.inr (.inl ⟨h.1, by omega⟩)))
      · exact .inr (.inr (.inr (.inr h)))

end LineRules

end Sys2Proof.Machine

namespace Sys2Proof.Machine

/-! ### The rules of pages, ports and the clock follow their checks (R129 to R176) -/

section PageRules
variable {s : State} {named : List Nat} {cs : Checks} {v : Verdict} {n k g : Nat} {tag : Byte}

theorem State.lowestClosed_isNone :
    (pageIds.all fun g => (s.page g).state != .closed) = s.lowestClosed.isNone := by
  rw [State.lowestClosed, Bool.eq_iff_iff, List.all_eq_true, Option.isNone_iff_eq_none, List.find?_eq_none]
  simp

theorem State.pageopen_follows {label : Nat} {edition tolerance : Option Nat} :
    Follows s named (s.checks (.pageopen tag label edition tolerance)) (s.pageopen label edition tolerance) := by
  refine .test ?_ (by decide) fun _ => ?_
  · rw [decide_eq_true_eq, Bool.not_eq_true', Bool.and_eq_false_iff, not_optWithin_iff, ← Bool.not_eq_true' (within _ _ _),
      not_within_iff, or_assoc]
  · rw [State.lowestClosed_isNone]
    cases h : s.lowestClosed with
    | none => exact .stop rfl (.plain (by decide) (by decide))
    | some g => exact .skip rfl (.pass rfl)

/-- The checks of a page's state, and the rest of the rule past them (R130, R131). -/
theorem Follows.pageState {p : Page} (hbarred : ∀ e, p.state.barred = some e → v = refuse s e)
    (hgo : p.state.barred = none → Follows s named cs v) : Follows s named (p.stateChecks ++ cs) v := by
  have hfrozen (h : p.state.barred = some .frozen) (hclosed : p.state ≠ .closed) (hmakeup : p.state ≠ .makeup) :
      Follows s named (p.stateChecks ++ cs) v := by
    rw [hbarred _ h]
    exact .skip (decide_eq_false hclosed) (.stop (decide_eq_true hmakeup) (.plain (by decide) (by decide)))
  cases h : p.state
  case closed =>
    rw [hbarred .state (by rw [h]; rfl)]
    exact .stop (decide_eq_true h) (.plain (by decide) (by decide))
  case makeup =>
    refine .skip (decide_eq_false ?_) (.skip (decide_eq_false (not_not.2 h)) (hgo (by rw [h]; rfl)))
    rw [h]
    decide
  all_goals exact hfrozen (by rw [h]; rfl) (by rw [h]; decide) (by rw [h]; decide)

theorem State.slotDefine_follows {depth measure : Nat} :
    Follows s named (s.checks (.slotDefine tag g k depth measure)) (s.slotDefine g k depth measure) := by
  refine .test ?_ (by decide) fun _ => ?_
  · rw [Bool.not_and, Bool.not_and, Bool.not_and, Bool.or_eq_true, Bool.or_eq_true, Bool.or_eq_true, not_within_iff,
      not_within_iff, not_within_iff, ← pageBad_iff, decide_eq_true_eq, decide_eq_true_eq]
    omega
  · rw [← List.append_nil (s.page g).stateChecks]
    refine .pageState (fun e h => by rw [h]) fun h => ?_
    rw [h]
    exact .pass rfl

theorem Page.occupied_iff {p : Page} : ((p.slot k).any fun sl => sl.occupant.isSome) = p.occupied k := by
  unfold Page.occupied
  cases p.slot k <;> rfl

theorem State.slotUndefine_follows : Follows s named (s.checks (.slotUndefine tag g k)) (s.slotUndefine g k) := by
  refine .test ?_ (by decide) fun _ => ?_
  · rw [Bool.not_and, Bool.or_eq_true, not_within_iff, ← pageBad_iff, decide_eq_true_eq, decide_eq_true_eq]
    omega
  · refine .pageState (fun e h => by rw [h]) fun h => ?_
    rw [h]
    exact .test (by rw [Page.occupied_iff]) (by decide) fun _ => .pass rfl

theorem runBad_iff {run : List Nat} : runOk run = false ↔
    run = [] ∨ 4 < run.length ∨ (∃ k ∈ run, k < 1 ∨ 16 < k) ∨ ¬run.Nodup := by
  have hall : (run.all fun k => within 1 16 k) = false ↔ ∃ k ∈ run, k < 1 ∨ 16 < k := by
    simp only [List.all_eq_false, Bool.not_eq_true, ← Bool.not_eq_true' (within _ _ _), not_within_iff]
  rw [runOk, Bool.and_eq_false_iff, Bool.and_eq_false_iff, hall, ← Bool.not_eq_true' (within _ _ _), not_within_iff,
    decide_eq_false_iff_not, Nat.lt_one_iff, List.length_eq_zero_iff, or_assoc, or_assoc]

theorem Story.not_placeable_iff {r : Story} : r.placeable g = false ↔
    ¬(r.stage = .basket ∨ r.stage = .placed ∧ r.run.map (fun run => run.page) = some g) := by
  unfold Story.placeable
  cases hstage : r.stage <;> cases hrun : r.run <;> simp

theorem Page.not_admits_iff {p : Page} {run : List Nat} :
    (run.any fun k => (p.slot k).all fun sl => sl.occupant.any fun o => o.1 != n) = !p.admits n run := by
  unfold Page.admits
  rw [List.not_all_eq_any_not]
  congr 1
  funext k
  cases p.slot k with
  | none => rfl
  | some sl =>
    cases h : sl.occupant with
    | none => simp [h]
    | some o => simp [h, bne]

theorem State.placeStory_follows {run : List Nat} :
    Follows s named (s.checks (.place tag n g run)) (s.placeStory n g run) := by
  unfold State.placeStory
  rw [State.checks, List.append_assoc, List.append_assoc, Bool.and_assoc]
  refine .story (ok := pageOk g && runOk run) ?_ (fun h => if_pos h) fun h => ?_
  · rw [Bool.eq_iff_iff, decide_eq_true_eq, Bool.not_and, Bool.or_eq_true, Bool.not_eq_true' (runOk run), runBad_iff,
      ← pageBad_iff, decide_eq_true_eq, or_assoc]
  rw [if_neg h]
  refine .test ?_ (by decide) fun _ => .pageState (fun e h => by rw [h]) fun h => ?_
  · rw [decide_eq_true_eq, Bool.not_eq_true', Story.not_placeable_iff]
  rw [h]
  exact .test (by rw [Page.not_admits_iff]) (by decide) fun _ => .pass rfl

theorem State.unplaceStory_follows : Follows s named (s.checks (.unplace tag n)) (s.unplaceStory n) := by
  refine .storyAlone (fun h => if_pos h) fun h => ?_
  rw [if_neg h]
  by_cases hstage : (s.story n).stage = .placed
  · cases hrun : (s.story n).run with
    | none =>
      rw [hstage]
      exact .stop (decide_eq_true (.inr rfl)) (.plain (by decide) (by decide))
    | some run =>
      rw [hstage]
      refine .skip (decide_eq_false (by simp)) (.test ?_ (by decide) fun _ => .pass rfl)
      rw [State.frozenStory_eq, State.onFrozenPage, hrun]
  · refine .stop (decide_eq_true (.inl hstage)) ?_
    split
    next hplaced _ => exact absurd hplaced hstage
    next => exact .plain (by decide) (by decide)

/-! #### RELEASE, CANCEL, REOPEN, PAGESHUT and PAGEINFO -/

theorem PortChoice.ofCode_eq_none {c : Nat} : PortChoice.ofCode c = none ↔ 2 < c := by
  match c with
  | 0 => exact by decide
  | 1 => exact by decide
  | 2 => exact by decide
  | c + 3 => exact iff_of_true rfl (by omega)

theorem firstOfTwo_eq_none {c : Nat} : firstOfTwo c = none ↔ 1 < c := by
  match c with
  | 0 => exact by decide
  | 1 => exact by decide
  | c + 2 => exact iff_of_true rfl (by omega)

theorem State.mem_heldOn {p : Page} {h : Holder} : h ∈ s.heldOn p ↔ ∃ n ∈ p.stories, (s.story n).holder = h ∧ h ≠ .absent := by
  simp only [State.heldOn, List.mem_filter, List.mem_map, bne_iff_ne]
  constructor
  · rintro ⟨⟨n, hn, rfl⟩, h⟩
    exact ⟨n, hn, rfl, h⟩
  · rintro ⟨n, hn, rfl, h⟩
    exact ⟨⟨n, hn, rfl⟩, h⟩

/-- The refusal of a RELEASE names one of the holders found (R135, assumption 7). -/
theorem State.refuseRelease_refuses {hs : List Holder} (hne : hs ≠ [])
    (hholders : ∀ h ∈ hs, ∃ n ∈ named, (s.story n).holder = h ∧ h ≠ .absent) :
    Refuses s named .held (s.refuseRelease hs) := by
  have hnames {h : Holder} (hh : h ∈ hs) : ∃ n ∈ named, (s.story n).holder ≠ .absent ∧ holderBytes h =
      holderBytes (s.story n).holder := by
    obtain ⟨n, hn, hholder, habsent⟩ := hholders h hh
    exact ⟨n, hn, by rwa [hholder], by rw [hholder]⟩
  unfold State.refuseRelease
  split
  next h =>
    exact ⟨rfl, by decide, .refl _ _, by rw [if_pos rfl]; exact hnames (List.mem_singleton_self h)⟩
  next =>
    refine ⟨rfl, by decide, s.setChoices_touches _, ?_⟩
    have hlt := Nat.mod_lt (Config.heldChoice s.choices) (List.length_pos_iff.2 hne)
    rw [if_pos rfl, List.getElem?_eq_getElem hlt]
    exact hnames (List.getElem_mem hlt)

theorem State.releasePage_follows {choice trim : Nat} :
    Follows s (s.page g).stories (s.checks (.release tag g choice trim)) (s.releasePage g choice trim) := by
  unfold State.releasePage
  rw [State.checks]
  cases hchoice : PortChoice.ofCode choice with
  | none =>
    have hbad := PortChoice.ofCode_eq_none.1 hchoice
    exact .stop (decide_eq_true (.inr (.inr (.inl hbad)))) (.plain (by decide) (by decide))
  | some c =>
    have hcode : ¬2 < choice := fun h => by rw [PortChoice.ofCode_eq_none.2 h] at hchoice; cases hchoice
    cases htrim : firstOfTwo trim with
    | none =>
      have hbad := firstOfTwo_eq_none.1 htrim
      exact .stop (decide_eq_true (.inr (.inr (.inr hbad)))) (.plain (by decide) (by decide))
    | some b =>
      have hflag : ¬1 < trim := fun h => by rw [firstOfTwo_eq_none.2 h] at htrim; cases htrim
      refine .test ?_ (by decide) fun _ => .test decide_eq_true_iff (by decide) fun _ => .test ?_ (by decide) fun _ => ?_
      · rw [← pageBad_iff, decide_eq_true_eq, decide_eq_true_eq]
        omega
      · have hempty : (fun v : Option Slot => v.any fun sl => sl.occupant.isNone) = fun v => match v with
            | some sl => sl.occupant.isNone
            | none => false := by
          funext v
          cases v <;> rfl
        rw [hempty]
        exact Iff.rfl
      · by_cases hheld : s.heldOn (s.page g) = []
        · refine .skip (decide_eq_false ?_) (.pass ?_)
          · rintro ⟨n, hn, hholder⟩
            have hmem := State.mem_heldOn.2 ⟨n, hn, rfl, hholder⟩
            rw [hheld] at hmem
            cases hmem
          · rw [hheld]
            rfl
        · rw [if_neg (by simpa using hheld)]
          obtain ⟨h, hh⟩ := List.exists_mem_of_ne_nil _ hheld
          obtain ⟨n, hn, hholder, habsent⟩ := State.mem_heldOn.1 hh
          exact .stop (decide_eq_true ⟨n, hn, by rwa [hholder]⟩)
            (State.refuseRelease_refuses hheld fun h hh => State.mem_heldOn.1 hh)

theorem State.cancel_follows : Follows s named (s.checks (.cancel tag g)) (s.cancel g) := by
  refine .test (by rw [pageBad_iff]) (by decide) fun _ => ?_
  cases h : (s.page g).state
  case closed => exact .stop rfl (.plain (by decide) (by decide))
  case makeup => exact .stop rfl (.plain (by decide) (by decide))
  case set => exact .stop rfl (.plain (by decide) (by decide))
  all_goals exact .skip rfl (.pass rfl)

theorem State.reopen_follows : Follows s named (s.checks (.reopen tag g)) (s.reopen g) :=
  .test (by rw [pageBad_iff]) (by decide) fun _ => .unless decide_eq_true_iff (by decide) fun _ => .pass rfl

theorem Page.anyOccupied_eq {p : Page} : (p.slots.toList.any fun v => v.any fun sl => sl.occupant.isSome) = p.anyOccupied := by
  unfold Page.anyOccupied
  congr 1
  funext v
  cases v <;> rfl

theorem State.pageshut_follows : Follows s named (s.checks (.pageshut tag g)) (s.pageshut g) :=
  .test (by rw [pageBad_iff]) (by decide) fun _ => .test decide_eq_true_iff (by decide) fun _ =>
    .test (by rw [Page.anyOccupied_eq]) (by decide) fun _ => .pass rfl

theorem State.pageinfo_follows : Follows s named (s.checks (.pageinfo tag g)) (s.pageinfo g) :=
  .test (by rw [pageBad_iff]) (by decide) fun _ => .pass rfl

end PageRules

/-! #### Ports and the clock -/

section PortRules
variable {s : State} {named : List Nat} {port : Nat} {tag : Byte}

theorem portOfCode_eq_none : portOfCode port = none ↔ 1 < port := by
  match port with
  | 0 => exact by decide
  | 1 => exact by decide
  | c + 2 => exact iff_of_true rfl (by omega)

theorem portOfCode_le {p : Port} (h : portOfCode port = some p) : ¬1 < port := fun hbad => by
  rw [portOfCode_eq_none.2 hbad] at h
  cases h

theorem State.portset_follows {lossTime failover : Option Nat} :
    Follows s named (s.checks (.portset tag port lossTime failover)) (s.portset port lossTime failover) := by
  unfold State.portset
  rw [State.checks]
  cases hport : portOfCode port with
  | none => exact .stop (decide_eq_true (.inl (portOfCode_eq_none.1 hport))) (.plain (by decide) (by decide))
  | some p =>
    cases hflag : flagField failover with
    | none => exact .stop (decide_eq_true (.inr (flagField_eq_none.1 hflag))) (.plain (by decide) (by decide))
    | some f =>
      refine .skip (decide_eq_false ?_) (.unless ?_ (by decide) fun _ => .pass rfl)
      · rintro (h | h)
        · exact portOfCode_le hport h
        · rw [flagField_eq_none.2 h] at hflag
          cases hflag
      · simp

theorem State.porton_follows : Follows s named (s.checks (.porton tag port)) (s.porton port) := by
  unfold State.porton
  rw [State.checks]
  cases hport : portOfCode port with
  | none => exact .stop (decide_eq_true (portOfCode_eq_none.1 hport)) (.plain (by decide) (by decide))
  | some p => exact .skip (decide_eq_false (portOfCode_le hport)) (.unless (by simp) (by decide) fun _ => .pass rfl)

theorem State.portoff_follows : Follows s named (s.checks (.portoff tag port)) (s.portoff port) := by
  unfold State.portoff
  cases hport : portOfCode port with
  | none => exact .stop (decide_eq_true (portOfCode_eq_none.1 hport)) (.plain (by decide) (by decide))
  | some p =>
    refine .skip (decide_eq_false (portOfCode_le hport)) (.pass ?_)
    dsimp only
    split
    · rfl
    · split <;> rfl

theorem State.resumePort_follows : Follows s named (s.checks (.resume tag port)) (s.resumePort port) := by
  unfold State.resumePort
  rw [State.checks]
  cases hport : portOfCode port with
  | none => exact .stop (decide_eq_true (portOfCode_eq_none.1 hport)) (.plain (by decide) (by decide))
  | some p => exact .skip (decide_eq_false (portOfCode_le hport)) (.unless (by simp) (by decide) fun _ => .pass rfl)

theorem State.portclr_follows : Follows s named (s.checks (.portclr tag port)) (s.portclr port) := by
  unfold State.portclr
  cases hport : portOfCode port with
  | none => exact .stop (decide_eq_true (portOfCode_eq_none.1 hport)) (.plain (by decide) (by decide))
  | some p => exact .skip (decide_eq_false (portOfCode_le hport)) (.pass rfl)

theorem State.portstat_follows : Follows s named (s.checks (.portstat tag port)) (s.portstat port) := by
  unfold State.portstat
  cases hport : portOfCode port with
  | none => exact .stop (decide_eq_true (portOfCode_eq_none.1 hport)) (.plain (by decide) (by decide))
  | some p => exact .skip (decide_eq_false (portOfCode_le hport)) (.pass rfl)

theorem State.clkstart_follows {edition countdown : Nat} :
    Follows s named (s.checks (.clkstart tag edition countdown)) (s.clkstart edition countdown) := by
  refine .test ?_ (by decide) fun _ => .unless decide_eq_true_iff (by decide) fun _ => .pass rfl
  rw [Bool.not_and, Bool.or_eq_true, not_within_iff, not_within_iff, decide_eq_true_eq, or_assoc]

theorem State.clknext_follows {countdown : Nat} :
    Follows s named (s.checks (.clknext tag countdown)) (s.clknext countdown) := by
  refine .test ?_ (by decide) fun _ => .test decide_eq_true_iff (by decide) fun _ =>
    .test decide_eq_true_iff (by decide) fun _ => .pass rfl
  rw [not_within_iff, decide_eq_true_eq]

end PortRules

end Sys2Proof.Machine

namespace Sys2Proof.Machine

/-! ### Every request follows its checks (R182) -/

section Requests
variable {s : State} {i : Instr}

theorem State.rule_follows_host (hhost : i.fromHost = true) (hrestart : ∀ tag, i ≠ .restart tag) :
    Follows s (s.heldNamed i) (s.checks i) (s.rule i) := by
  have hself (n : Nat) : n ∈ [n] := List.mem_singleton_self n
  cases i
  case restart tag => exact absurd rfl (hrestart tag)
  case unknownRequest => exact .stop rfl (.plain (by decide) (by decide))
  case create => exact State.create_follows
  case textAppend => exact State.textAppend_follows (hself _)
  case textReplace => exact State.textReplace_follows (hself _)
  case textReplaceRange => exact State.textReplaceRange_follows (hself _)
  case read => exact State.readLines_follows
  case info => exact State.infoOf_follows
  case purge => exact State.purge_follows
  case hostRoute => exact State.hostRoute_follows (hself _)
  case hostPriority => exact State.hostPriority_follows
  case hostSpike => exact State.hostSpike_follows (hself _)
  case unspike => exact State.unspike_follows
  case hostKill => exact State.hostKill_follows (hself _)
  case basket => exact State.basketOf_follows
  case hostOpen => exact State.hostOpen_follows (hself _)
  case hostClose => exact State.hostClose_follows
  case free => exact State.freeHold_follows
  case lineset => exact State.lineset_follows
  case lineon => exact State.lineon_follows
  case lineoff => exact State.lineoff_follows
  case linestat => exact State.linestat_follows
  case verdictGrant => exact State.verdictGrant_follows
  case verdictDeny => exact State.verdictDeny_follows
  case flash => exact State.flash_follows
  case lamp => exact State.chooseLamp_follows
  case style => exact State.loadStyle_follows
  case widths => exact State.loadWidths_follows
  case pageopen => exact State.pageopen_follows
  case slotDefine => exact State.slotDefine_follows
  case slotUndefine => exact State.slotUndefine_follows
  case place => exact State.placeStory_follows
  case unplace => exact State.unplaceStory_follows
  case release => exact State.releasePage_follows
  case cancel => exact State.cancel_follows
  case reopen => exact State.reopen_follows
  case pageshut => exact State.pageshut_follows
  case pageinfo => exact State.pageinfo_follows
  case xlate => exact State.loadXlate_follows
  case portset => exact State.portset_follows
  case porton => exact State.porton_follows
  case portoff => exact State.portoff_follows
  case resume => exact State.resumePort_follows
  case portclr => exact State.portclr_follows
  case portstat => exact State.portstat_follows
  case clkstart => exact State.clkstart_follows
  case clknext => exact State.clknext_follows
  all_goals first
    | exact absurd hhost Bool.false_ne_true
    | exact .pass rfl

theorem State.rule_follows_line {k : Fin 32} (hline : i.fromLine = some k) (hsignon : i.kind ≠ kindWord "SIGNON")
    (huser : (s.line k).user.isSome = true) : Follows s (s.heldNamed i) (s.checks i) (s.rule i) := by
  have hself (n : Nat) : n ∈ [n] := List.mem_singleton_self n
  cases i
  case signon => exact absurd rfl hsignon
  all_goals cases hline
  case new.refl => exact State.newStory_follows huser
  case terminalRoute.refl => exact State.lineRoute_follows (hself _)
  case terminalPriority.refl => exact State.linePriority_follows
  case terminalSpike.refl => exact State.lineSpike_follows (hself _)
  case terminalKill.refl => exact State.lineKill_follows (hself _)
  case arm.refl => exact State.armOverride_follows
  case terminalOpen.refl => exact State.lineOpen_follows (hself _)
  case terminalClose.refl => exact State.lineClose_follows
  case window.refl => exact State.windowFrom_follows
  case ret.refl => exact State.returnLines_follows
  case home.refl => exact State.home_follows huser
  all_goals exact .pass rfl

theorem Follows.harmless {named : List Nat} {cs : Checks} {v : Verdict} (h : Follows s named cs v) (hstatus : v.1 ≠ .done) :
    Refuses s named v.1 v := by
  have href := h.refusal
  cases hcs : cs.refusal with
  | none =>
    rw [hcs] at href
    exact absurd href hstatus
  | some st =>
    rw [hcs] at href
    exact href.status ▸ href

theorem Refuses.of_refuse {named : List Nat} {st : Status} {v : Verdict} (hv : v = refuse s st) (hdone : st ≠ .done)
    (hheld : st ≠ .held) : Refuses s named v.1 v := by
  rw [hv]
  exact .plain hdone hheld

theorem State.newStory_harmless {k : Fin 32} {named : List Nat} {slug : List Byte} {style priority : Nat}
    (hstatus : (s.newStory k slug style priority).1 ≠ .done) :
    Refuses s named (s.newStory k slug style priority).1 (s.newStory k slug style priority) := by
  by_cases huser : (s.line k).user.isSome = true
  · exact (State.newStory_follows huser).harmless hstatus
  · have hnone : (s.line k).user = none := by simpa using huser
    cases hpriority : Priority.ofCode priority with
    | none => exact .of_refuse (st := .badField) (by rw [State.newStory, hpriority]) (by decide) (by decide)
    | some p =>
      by_cases hok : (slugOk slug && decide (style < Config.styles)) = true
      · exact .of_refuse (st := .denied) (by simp only [State.newStory, hpriority, hok, if_true, hnone]) (by decide) (by decide)
      · exact .of_refuse (st := .badField) (by simp only [State.newStory, hpriority, hok, Bool.false_eq_true, if_false]) (by decide) (by decide)

theorem State.home_harmless {k : Fin 32} {named : List Nat} {desk first : Option Nat}
    (hstatus : (s.home k desk first).1 ≠ .done) : Refuses s named (s.home k desk first).1 (s.home k desk first) := by
  by_cases huser : (s.line k).user.isSome = true
  · exact (State.home_follows huser).harmless hstatus
  · have hnone : (s.line k).user = none := by simpa using huser
    cases desk with
    | none => exact .of_refuse (st := .denied) (by simp only [State.home, hnone]) (by decide) (by decide)
    | some d => exact State.homeFrom_follows.harmless hstatus

/-- A terminal's request not DONE has no effect, whether a user is signed on there or not (R182). -/
theorem State.rule_harmless_line {k : Fin 32} (hline : i.fromLine = some k) (hsignon : i.kind ≠ kindWord "SIGNON")
    (hstatus : (s.rule i).1 ≠ .done) : Refuses s (s.heldNamed i) (s.rule i).1 (s.rule i) := by
  by_cases huser : (s.line k).user.isSome = true
  · exact (State.rule_follows_line hline hsignon huser).harmless hstatus
  have hself (n : Nat) : n ∈ [n] := List.mem_singleton_self n
  cases i
  case signon => exact absurd rfl hsignon
  all_goals cases hline
  case new.refl => exact State.newStory_harmless hstatus
  case home.refl => exact State.home_harmless hstatus
  case terminalRoute.refl => exact (State.lineRoute_follows (hself _)).harmless hstatus
  case terminalPriority.refl => exact State.linePriority_follows.harmless hstatus
  case terminalSpike.refl => exact (State.lineSpike_follows (hself _)).harmless hstatus
  case terminalKill.refl => exact (State.lineKill_follows (hself _)).harmless hstatus
  case arm.refl => exact State.armOverride_follows.harmless hstatus
  case terminalOpen.refl => exact (State.lineOpen_follows (hself _)).harmless hstatus
  case terminalClose.refl => exact State.lineClose_follows.harmless hstatus
  case window.refl => exact State.windowFrom_follows.harmless hstatus
  case ret.refl => exact State.returnLines_follows.harmless hstatus
  all_goals exact absurd rfl hstatus

end Requests

end Sys2Proof.Machine

namespace Sys2Proof.Machine

/-! ### The checks read what the taking of a request leaves as it was (R71, R180) -/

section Found
variable {s : State} {i : Instr}

@[simp] theorem State.withChannel_channel (s : State) (c : Channel) : (s.withChannel c).channel = c := rfl

theorem State.checks_offer (s : State) (i : Instr) : (s.offer i).checks i = s.checks i := by
  have hchannel (c : Channel) : (s.withChannel c).checks i = s.checks i := by cases i <;> rfl
  rw [s.offer_eq i]
  exact hchannel _

theorem State.heldNamed_offer (s : State) (i : Instr) : (s.offer i).heldNamed i = s.heldNamed i := by
  have hchannel (c : Channel) : (s.withChannel c).heldNamed i = s.heldNamed i := by cases i <;> rfl
  rw [s.offer_eq i]
  exact hchannel _

theorem State.heldNamed_offerFrame (s : State) (k : Nat) (i : Instr) : (s.offerFrame k i).heldNamed i = s.heldNamed i := by
  have hpage := (s.offerFrame_touches k i).page
  cases i
  case release tag g choice trim => exact congrArg Page.stories (hpage g)
  all_goals rfl

/-- A line as a frame taken into service leaves it shows the same to the checks (R71). -/
theorem State.checks_offerFrame {k : Fin 32} (hline : i.fromLine = some k) (htakes : s.takesFrame k i = true) :
    (s.offerFrame k i).checks i = s.checks i := by
  have hfound := (State.offerFrame_asFound htakes).1
  have hstory := (s.offerFrame_touches k i).story
  have hpage := (s.offerFrame_touches k i).page
  have hdesk := (s.offerFrame_touches k i).desk
  have hstore := (s.offerFrame_touches k i).store
  generalize s.offerFrame k i = t at *
  have hheld : (t.line k).held = (s.line k).held := by rw [hfound]
  have huser : (t.line k).user = (s.line k).user := by rw [hfound]
  have hover : (t.line k).override = (s.line k).override := by rw [hfound]
  have hwindow : (t.line k).window = (s.line k).window := by rw [hfound]
  have hmodel : (t.line k).model = (s.line k).model := by rw [hfound]
  cases i
  all_goals cases hline
  all_goals simp only [State.checks, State.storyChecks, State.frozenStory, State.noneFree, State.returnChecks, State.lengthChecks,
    Line.replaced, Line.windowSize, Line.hasRole, hstory, hpage, hdesk, hstore, hheld, huser, hover, hwindow, hmodel] <;> rfl

/-- What a verdict that follows the checks answers (R182, 11.1). -/
theorem Follows.answers {v : Verdict} (h : Follows s (s.heldNamed i) (s.checks i) v) :
    v.1 = (s.checks i).refusal.getD .done ∧ RefusalDetails s i v.2.1 := by
  have href := h.refusal
  unfold RefusalDetails
  cases hcs : (s.checks i).refusal with
  | none =>
    rw [hcs] at href
    exact ⟨href, fun _ h => by cases h⟩
  | some st =>
    rw [hcs] at href
    refine ⟨href.status, fun status h => ?_⟩
    obtain rfl : st = status := by simpa using h
    exact href.details

theorem RefusalDetails.congr {t : State} {d : List Byte} (hchecks : t.checks i = s.checks i)
    (hnamed : t.heldNamed i = s.heldNamed i) (hstories : t.stories = s.stories) (h : RefusalDetails t i d) :
    RefusalDetails s i d := by
  unfold RefusalDetails at h ⊢
  simp only [hchecks, hnamed, State.story_congr hstories] at h
  exact h

/-! ### A request is refused by the first check that fails (R182) -/

/-- A rule puts nothing on the reply path itself (R180). -/
theorem State.rule_replies (s : State) (i : Instr) : (s.rule i).2.2.channel.replies = s.channel.replies := by
  by_cases hsweep : .channel ∈ i.moves
  · rcases Instr.channel_mem_moves hsweep with ⟨f, rfl⟩ | ⟨bs, rfl⟩ | rfl | ⟨tag, rfl⟩ | rfl | rfl <;> rfl
  · obtain ⟨-, -, -, -, ns, hns⟩ := s.rule_moves i _ hsweep
    obtain ⟨-, hreplies, -⟩ := Channel.foldl_raise_frame ns s.channel
    rw [hns, hreplies]

theorem hostStep_taken {act : State → Verdict} (htakes : s.takes i = true) : hostStep i act s =
    .next ((act (s.offer i)).2.2.withChannel
      ((act (s.offer i)).2.2.channel.answer i (act (s.offer i)).1 (act (s.offer i)).2.1)) := by
  simp only [hostStep, State.serveHost, htakes, if_true]
  rfl

theorem host_refusalsInOrder (hhost : i.fromHost = true) (htakes : s.takes i = true) :
    ∃ t details, exec i s = .next t ∧ RefusalDetails s i details ∧
      t.channel.replies[(s.offer i).channel.replies.length]? = some {
        tag := i.tag, kind := i.kind, status := (s.checks i).refusal.getD .done, details := details, overflow := false } := by
  by_cases hrestart : ∃ tag, i = .restart tag
  · obtain ⟨tag, rfl⟩ := hrestart
    refine ⟨_, [], execRestart_of_takes htakes, ?_, ?_⟩
    · intro _ h
      cases h
    obtain ⟨before, behind, hintake, hbefore⟩ := Channel.oldest_split (State.takes_oldest htakes)
    rw [State.withChannel_channel, Channel.beginRestart_replies hintake hbefore, List.append_assoc,
      List.getElem?_append_right (Nat.le_refl _), Nat.sub_self]
    rfl
  · rw [exec_fromHost hhost (fun tag h => hrestart ⟨tag, h⟩)]
    obtain ⟨hstatus, hdetails⟩ := (State.rule_follows_host (s := s.offer i) hhost fun tag h => hrestart ⟨tag, h⟩).answers
    rw [State.checks_offer] at hstatus
    refine ⟨_, _, hostStep_taken htakes, hdetails.congr (s.checks_offer i) (s.heldNamed_offer i) (s.offer_touches i).stories, ?_⟩
    rw [State.withChannel_channel, Channel.answer, State.rule_replies, hstatus, List.getElem?_append_right (Nat.le_refl _),
      Nat.sub_self]
    rfl

theorem lineStep_taken {k : Fin 32} {act : State → Verdict} (htakes : s.takesFrame k i = true) : lineStep k i act s =
    .next ((act (s.offerFrame k i)).2.2.answerService k i.kind (act (s.offerFrame k i)).1 (act (s.offerFrame k i)).2.1) :=
  line_served htakes rfl

theorem line_refusalsInOrder {k : Fin 32} (hline : i.fromLine = some k) (hsignon : i.kind ≠ kindWord "SIGNON")
    (htakes : s.takesFrame k i = true) (huser : (s.line k).user.isSome = true) :
    ∃ t details, exec i s = .next t ∧ RefusalDetails s i details ∧
      Answered k i.kind ((s.checks i).refusal.getD .done) details t := by
  have hfound := (State.offerFrame_asFound htakes).1
  have hfollows := State.rule_follows_line (s := s.offerFrame k i) hline hsignon (by rw [hfound]; exact huser)
  obtain ⟨hstatus, hdetails⟩ := hfollows.answers
  rw [State.checks_offerFrame hline htakes] at hstatus
  have hchecks := State.checks_offerFrame hline htakes
  rw [exec_fromLine hline (by rintro l user rfl; exact hsignon rfl)]
  refine ⟨_, _, lineStep_taken htakes, hdetails.congr hchecks (s.heldNamed_offerFrame k i) (s.offerFrame_touches k i).stories, ?_⟩
  rw [Answered, State.line_answerService, hstatus]

/-! #### A SIGNON with no user number (R74) -/

/-- A SIGNON is taken on an IDLE line alone, unless it waits there already (R71). -/
theorem State.offerFrame_of_signon {k : Fin 32} (htakes : s.takesFrame k i = true) (hkind : i.kind = kindWord "SIGNON") :
    s.offerFrame k i = s ∨ s.offerFrame k i = s.intoService k i.kind i := by
  have hanswered {t : State} (hnew : t.waiting k i = false) : (t.frameReady k i.kind (.request i)).waiting k i = false := by
    by_contra h
    obtain ⟨hfree, -⟩ := State.frameReady_of_waiting hnew (by simpa using h)
    refine h ?_
    simp [State.frameReady, State.line_updLine_self _ k.isLt, Line.armDim, hfree, hkind, State.answerAtOnce_not_waiting]
  cases hwait : s.waiting k i with
  | true => exact .inl (by simp [State.offerFrame, hwait])
  | false =>
    have hoffer : s.offerFrame k i = s.frameIn k i.kind (.request i) := by simp [State.offerFrame, hwait]
    have hwaits : (s.frameIn k i.kind (.request i)).waiting k i = true := by rwa [← hoffer]
    have hnote (t : State) : t.noteUnknown k (.request i) = t := rfl
    obtain ⟨hbefore, -⟩ | ⟨-, ⟨-, heq⟩ | ⟨hready, -⟩ | ⟨hdim, -⟩⟩ := State.offerFrame_cases htakes
    · exact absurd (hwait.symm.trans hbefore) (by decide)
    · exact .inr heq
    · simp only [State.frameIn, hready, hnote, hanswered hwait] at hwaits
      exact absurd hwaits (by decide)
    · obtain ⟨_, _, hwoken⟩ := s.line_wakeLine k hdim
      have hservice : ((s.wake fun m _ => m == k.val).line k).service = (s.line k).service := by rw [hwoken, Line.armDim]
      simp only [State.frameIn, hdim, hnote, hanswered ((State.waiting_congr hservice i).trans hwait)] at hwaits
      exact absurd hwaits (by decide)

theorem signon_badField {k : Fin 32} {user : Nat} (htakes : s.takesFrame k (.signon k user) = true)
    (hbad : user < 1 ∨ 9999 < user) :
    ∃ t, exec (.signon k user) s = .next t ∧ OnlyTouches [.lines] s t ∧ SameLinesBut k s t ∧
      Answered k (kindWord "SIGNON") .badField [] t ∧ (t.line k).state = (s.line k).state ∧
      (t.line k).signonUser = (s.line k).signonUser ∧ (t.line k).outcome = (s.line k).outcome ∧
      (t.line k).signonTimer = (s.line k).signonTimer := by
  have hexec : exec (.signon k user) s = execSignon k user s := rfl
  have hrange : within 1 9999 user = false := by rw [← Bool.not_eq_true', not_within_iff]; exact hbad
  have hline : (s.offerFrame k (.signon k user)).line k =
      { s.line k with service := ((s.offerFrame k (.signon k user)).line k).service } := by
    rcases State.offerFrame_of_signon htakes rfl with h | h <;> rw [h]
    rw [State.intoService, State.line_updLine_self _ k.isLt]
  refine ⟨(s.offerFrame k (.signon k user)).answerService k (kindWord "SIGNON") .badField [], ?_, ?_, ?_, ?_, ?_⟩
  · simp only [hexec, execSignon, htakes, hrange, if_true, Bool.false_eq_true, if_false]
  · exact ((s.offerFrame_touches k _).trans (State.answerService_touches _ _ _ _ _) (by decide))
  · exact (State.offerFrame_sameLines htakes).trans (State.updLine_sameLines _ k _)
  · rw [Answered, State.line_answerService]
  · rw [State.line_answerService, hline]
    exact ⟨rfl, rfl, rfl, rfl⟩

/-- Settles O17: a request's verdict follows its ordered checks. -/
theorem refusalsInOrder : Obligations.RefusalsInOrder :=
  ⟨fun _ _ => host_refusalsInOrder, fun _ _ _ => line_refusalsInOrder, fun _ _ _ => signon_badField⟩

end Found

end Sys2Proof.Machine

namespace Sys2Proof.Machine

/-! ### A valid frame judged at its line (R69 to R72, R80, R81, R93) -/

section Judged
variable {s t : State} {k : Fin 32} {kind : List Byte} {f : TerminalFrame}

theorem State.answerPassing_line (s : State) (k : Fin 32) (kind : List Byte) (st : Status) :
    (s.answerPassing k kind st).line k = (s.line k).passed kind st := by
  rw [State.answerPassing, State.line_updLine_self _ k.isLt]
  cases s.line k
  rename Option Answer => answer
  cases answer with
  | none => rfl
  | some a =>
    cases a
    rename Bool => service
    cases service <;> rfl

theorem State.answerAtOnce_line (s : State) (k : Fin 32) (kind : List Byte) (st : Status) (f : TerminalFrame) :
    (s.answerAtOnce k kind st).line k = (s.line k).servedFrame kind f (some st) := by
  rw [State.answerAtOnce, State.line_answerService, State.line_updLine_self _ k.isLt]
  rfl

theorem State.intoService_line (s : State) (k : Fin 32) (kind : List Byte) (i : Instr) :
    (s.intoService k kind i).line k = (s.line k).servedFrame kind (.request i) none := by
  rw [State.intoService, State.line_updLine_self _ k.isLt]
  rfl

theorem Line.unknownNoted_keeps (l : Line) (f : TerminalFrame) :
    l.unknownNoted f = { l with latches := (l.unknownNoted f).latches, lamp := (l.unknownNoted f).lamp } := by
  unfold Line.unknownNoted
  split <;> rfl

/-- The ERROR lamp of a line whose UNKNOWN FRAME latch is set is lit (R98). -/
theorem State.lampLit_of_unknown {m : Nat} {l : Line} (hstate : l.state ≠ .disabled) (hsource : l.lampSource = .error)
    (hlatch : l.latches.unknownFrame = true) : s.lampLit m l = true := by
  rw [State.lampLit_iff, LampLights, hsource]
  exact ⟨hstate, .inr (.inr (.inr (.inr hlatch)))⟩

theorem State.noteUnknown_line (s : State) (k : Fin 32) (f : TerminalFrame) (hstate : (s.line k).state ≠ .disabled) :
    (s.noteUnknown k f).line k = (s.line k).unknownNoted f := by
  unfold State.noteUnknown Line.unknownNoted
  split
  next =>
    unfold State.setLatch
    have hline := State.line_updLine_self s k.isLt fun l =>
      { l with latches := { l.latches with unknownFrame := true } }
    cases hlatch : (s.line k).latches.unknownFrame
    · have hnew : ({ (s.line k).latches with unknownFrame := true } : Latches) ≠ (s.line k).latches := fun h => by
        rw [← h] at hlatch
        cases hlatch
      rw [if_neg hnew, State.line_lampIf_self]
      dsimp only
      by_cases hsource : (s.line k).lampSource = .error
      · have hlit := State.lampLit_of_unknown (s := s.updLine k fun l => { l with latches := { l.latches with unknownFrame := true } })
          (m := k) (l := { s.line k with latches := { (s.line k).latches with unknownFrame := true } }) hstate hsource rfl
        rw [← hline] at hlit
        rw [hlit, hline, if_pos hsource, if_pos ⟨hsource, rfl⟩]
      · rw [if_neg (by rw [hline]; exact hsource), if_neg fun h => hsource h.1, hline]
    · have hold : ({ (s.line k).latches with unknownFrame := true } : Latches) = (s.line k).latches := by
        rw [← hlatch]
      rw [if_pos hold]
      dsimp only
      rw [hline, if_neg fun h => Bool.noConfusion h.2]
  next => rfl

/-- The withdrawn story cleared at a READY line, with a status line that says so (R93). -/
theorem State.clearWithdrawn_line (s : State) (k : Fin 32) (hready : (s.line k).state = .ready) :
    (s.clearWithdrawn k).line k = { s.line k with
      withdrawn := none
      status := if (s.line k).withdrawn.isSome = true then ((s.line k).user.map fun u => s.statusLine k u none).or (s.line k).status
        else (s.line k).status } := by
  unfold State.clearWithdrawn
  have hline := State.line_updLine_self s k.isLt fun l => { l with withdrawn := none }
  by_cases hwithdrawn : (s.line k).withdrawn.isSome = true
  · rw [if_pos hwithdrawn, if_pos hwithdrawn, State.line_refreshLine_self, hline, if_pos hready, State.withStatus_eq]
    rfl
  · rw [if_neg hwithdrawn, if_neg hwithdrawn]
    have hnone : (s.line k).withdrawn = none := by simpa using hwithdrawn
    rw [← hnone]

theorem State.frameIdle_line (s : State) (k : Fin 32) (kind : List Byte) (f : TerminalFrame) :
    (s.frameIdle k kind f).line k = if (s.line k).service.isSome = true then (s.line k).passed kind .busy
      else (s.line k).servedFrame kind f (answeredAtOnce true kind f) := by
  unfold State.frameIdle
  split
  next => exact s.answerPassing_line k kind _
  next =>
    cases f with
    | unknown => exact s.answerAtOnce_line k kind _ _
    | malformed =>
      by_cases hkind : kind = kindWord "SIGNON" <;> simp only [answeredAtOnce, hkind, if_true, if_false] <;>
        exact s.answerAtOnce_line k _ _ _
    | request i =>
      by_cases hkind : kind = kindWord "SIGNON"
      · simp only [answeredAtOnce, hkind, if_true]
        exact s.intoService_line k _ i
      · simp only [answeredAtOnce, hkind, if_true, if_false]
        exact s.answerAtOnce_line k kind _ _

theorem State.frameSigning_line (s : State) (k : Fin 32) (kind : List Byte) (f : TerminalFrame) :
    (s.frameSigning k kind f).line k = (s.line k).passed kind (answeredInPassing true kind f) := by
  unfold State.frameSigning answeredInPassing
  by_cases hunknown : f = .unknown
  · simp only [hunknown, if_true, Bool.true_eq_false, if_false]
    exact s.answerPassing_line k kind _
  · simp only [hunknown, Bool.true_eq_false, if_false]
    exact s.answerPassing_line k kind _

/-- A READY line as a valid frame leaves it; SIGNON is a word of a known kind (R71, R80, R93). -/
theorem State.frameReady_line (s : State) (k : Fin 32) (kind : List Byte) (f : TerminalFrame) (hready : (s.line k).state = .ready)
    (hknown : f = .unknown → kind ≠ kindWord "SIGNON") :
    (s.frameReady k kind f).line k =
      if (s.line k).service.isSome = true then { s.line k with dimTimer := dimSet (s.line k).dimTime }.passed kind .busy
      else Line.servedFrame
        { s.line k with
          dimTimer := dimSet (s.line k).dimTime
          withdrawn := none
          status := if (s.line k).withdrawn.isSome = true then
              ((s.line k).user.map fun u => s.statusLine k u none).or (s.line k).status
            else (s.line k).status }
        kind f (answeredAtOnce false kind f) := by
  have harm : (s.updLine k Line.armDim).line k = { s.line k with dimTimer := dimSet (s.line k).dimTime } :=
    State.line_updLine_self s k.isLt _
  have hshown (u : SignedOn) : (s.updLine k Line.armDim).statusLine k u none = s.statusLine k u none :=
    (s.updLine_touches k _).statusLine k u none
  have hclear := (s.updLine k Line.armDim).clearWithdrawn_line k (by rw [harm]; exact hready)
  unfold State.frameReady
  dsimp only
  generalize s.updLine k Line.armDim = u at *
  rw [harm] at hclear
  simp only [hshown] at hclear
  generalize u.clearWithdrawn k = v at *
  rw [harm]
  split
  next => rw [State.answerPassing_line, harm]
  next =>
    rw [← hclear]
    by_cases hkind : kind = kindWord "SIGNON"
    · have hanswer : answeredAtOnce false kind f = some .state := by
        rw [answeredAtOnce, if_neg fun h => hknown h hkind, if_pos hkind, if_pos rfl]
      rw [if_pos hkind, hanswer]
      exact v.answerAtOnce_line k kind _ _
    · rw [if_neg hkind]
      cases f with
      | unknown => exact v.answerAtOnce_line k kind _ _
      | malformed =>
        have hanswer : answeredAtOnce false kind .malformed = some .badField := by simp [answeredAtOnce, hkind]
        rw [hanswer]
        exact v.answerAtOnce_line k kind _ _
      | request i =>
        have hanswer : answeredAtOnce false kind (.request i) = none := by simp [answeredAtOnce, hkind]
        rw [hanswer]
        exact v.intoService_line k kind i

/-- The wake of a line leaves what its UNKNOWN FRAME latch does (R69, R81). -/
theorem Line.unknownNoted_of_woken {l : Line} {state : LineState} {dimTimer : Option Nat} {display : Option Display}
    {status : Option StatusLine} :
    ({ l with state := state, dimTimer := dimTimer, display := display, status := status } : Line).unknownNoted f =
      { l.unknownNoted f with state := state, dimTimer := dimTimer, display := display, status := status } := by
  unfold Line.unknownNoted
  split <;> rfl

/-- A valid frame at its line, row by row (R71). -/
theorem State.frameIn_line (ht : OnlyTouches [.lines] s t) (hdim : (s.line k).state = .dim → (s.line k).service = none)
    (hknown : f = .unknown → kind ≠ kindWord "SIGNON") :
    (s.frameIn k kind f).line k = frameJudged t k kind f (s.line k) := by
  unfold State.frameIn frameJudged
  have hnoted (h : (s.line k).state ≠ .disabled) := s.noteUnknown_line k f h
  obtain ⟨latches, lamp, hkeeps⟩ : ∃ latches lamp, (s.line k).unknownNoted f = { s.line k with latches := latches, lamp := lamp } :=
    ⟨_, _, (s.line k).unknownNoted_keeps f⟩
  rw [hkeeps] at hnoted ⊢
  cases hstate : (s.line k).state <;> dsimp only
  case idle =>
    rw [State.frameIdle_line, hnoted (by rw [hstate]; decide)]
  case signing => rw [State.frameSigning_line, hnoted (by rw [hstate]; decide)]
  case ready =>
    have hline := hnoted (by rw [hstate]; decide)
    have hshown (u : SignedOn) : t.statusLine k u none = (s.noteUnknown k f).statusLine k u none := by
      rw [ht.statusLine, (s.noteUnknown_touches k f).statusLine]
    rw [State.frameReady_line _ _ _ _ (by rw [hline]; exact hstate) hknown, hline]
    simp only [hshown]
  case dim =>
    have hfree := hdim hstate
    have hwoken : (s.wake fun m _ => m == k.val).line k = s.awake k (s.line k) := by
      simp [State.line_wake, k.isLt, hstate]
    have htouch : OnlyTouches [.lines] s ((s.wake fun m _ => m == k.val).noteUnknown k f) :=
      (s.wake_touches _).trans (State.noteUnknown_touches _ k f) (by decide)
    have hshown (u : SignedOn) : ((s.wake fun m _ => m == k.val).noteUnknown k f).statusLine k u none = t.statusLine k u none := by
      rw [ht.statusLine, htouch.statusLine]
    have hawake : s.awake k (s.line k) = { s.line k with
        state := .ready, dimTimer := dimSet (s.line k).dimTime
        display := ((s.line k).user.map fun u => Display.home (t.homeScreen u.desk 0 (s.line k).windowSize)).or (s.line k).display
        status := ((s.line k).user.map fun u => s.statusLine k u (s.line k).withdrawn).or (s.line k).status } := by
      cases huser : (s.line k).user with
      | none => simp only [State.awake, Line.armDim, huser]; rfl
      | some u => rw [State.awake_of_user huser, ← ht.homeScreen]; rfl
    have hline := (s.wake fun m _ => m == k.val).noteUnknown_line k f (by rw [hwoken, hawake]; exact nofun)
    rw [hwoken, hawake, Line.unknownNoted_of_woken, hkeeps] at hline
    rw [State.frameReady_line _ _ _ _ (by rw [hline]) hknown, hline]
    have hstatus : (if (s.line k).withdrawn.isSome = true then ((s.line k).user.map fun u => t.statusLine k u none).or
          (((s.line k).user.map fun u => s.statusLine k u (s.line k).withdrawn).or (s.line k).status)
        else ((s.line k).user.map fun u => s.statusLine k u (s.line k).withdrawn).or (s.line k).status) =
        ((s.line k).user.map fun u => t.statusLine k u none).or (s.line k).status := by
      cases (s.line k).user with
      | none => simp
      | some u =>
        cases (s.line k).withdrawn with
        | none => exact congrArg some (ht.statusLine k u none).symm
        | some n => rfl
    rw [if_neg (by rw [hfree]; decide)]
    simp only [hshown, hstatus]

end Judged

end Sys2Proof.Machine

namespace Sys2Proof.Machine

/-! ### A refused request has no effect (R182) -/

section Refused
variable {s t : State} {i : Instr}

theorem host_refusalHasNoEffect {r : Reply} (hhost : i.fromHost = true) (htakes : s.takes i = true) (hexec : exec i s = .next t)
    (hreply : t.channel.replies[(s.offer i).channel.replies.length]? = some r) (hstatus : r.status ≠ .done) :
    OnlyTouches [.channel, .choices] s t ∧ Raised [] s t ∧ Replied i r.status r.details s t := by
  have hrestart : ∀ tag, i ≠ .restart tag := by
    rintro tag rfl
    rw [execRestart_of_takes htakes] at hexec
    obtain ⟨before, behind, hintake, hbefore⟩ := Channel.oldest_split (State.takes_oldest htakes)
    cases hexec
    rw [State.withChannel_channel, Channel.beginRestart_replies hintake hbefore, List.append_assoc,
      List.getElem?_append_right (Nat.le_refl _), Nat.sub_self] at hreply
    cases hreply
    exact hstatus rfl
  rw [exec_fromHost hhost hrestart, hostStep_taken htakes] at hexec
  cases hexec
  rw [State.withChannel_channel, Channel.answer, State.rule_replies, List.getElem?_append_right (Nat.le_refl _),
    Nat.sub_self] at hreply
  cases hreply
  have hrefuses := (State.rule_follows_host (s := s.offer i) hhost hrestart).harmless hstatus
  obtain ⟨u, hstep, hreplied, hraised, htouch, -⟩ := host_served (act := fun s => s.rule i) (ns := []) (ps := [.channel, .choices])
    htakes rfl hrefuses.touches.channel (hrefuses.touches.mono (by decide)) (by decide)
  rw [hostStep_taken htakes] at hstep
  cases hstep
  exact ⟨htouch, hraised, hreplied⟩

/-- A terminal's request names no holder of several (R135 is the host's). -/
theorem Instr.choices_not_mem_parts {k : Fin 32} (hline : i.fromLine = some k) : Part.choices ∉ i.parts := by
  cases i
  all_goals cases hline
  all_goals exact of_decide_eq_true rfl

/-- A terminal's request not DONE leaves every record as the taking of its frame left it (R182). -/
theorem State.rule_unchanged_line {k : Fin 32} (hline : i.fromLine = some k) (hsignon : i.kind ≠ kindWord "SIGNON")
    (hstatus : (s.rule i).1 ≠ .done) : OnlyTouches [] s (s.rule i).2.2 := by
  intro p _
  by_cases hp : p = .choices
  · exact s.rule_touches i p (by rw [hp]; exact Instr.choices_not_mem_parts hline)
  · exact (State.rule_harmless_line hline hsignon hstatus).touches p (by simpa using hp)

theorem line_refusalHasNoEffect {k : Fin 32} {a : Answer} (hline : i.fromLine = some k) (hsignon : i.kind ≠ kindWord "SIGNON")
    (htakes : s.takesFrame k i = true) (hexec : exec i s = .next t) (hanswer : (t.line k).answer = some a)
    (hstatus : a.status ≠ .done) :
    OnlyTouches [.lines] s t ∧ SameLinesBut k s t ∧
      (t.line k).held = (s.line k).held ∧ (t.line k).window = (s.line k).window ∧ (t.line k).user = (s.line k).user ∧
      Served i k a.status a.details s t ∧
      (t.line k).override = (if i.kind = kindWord "ARM" then (s.line k).override else false) ∧
      t.line k =
        { (if s.waiting k i = true then s.line k else frameJudged t k i.kind (.request i) (s.line k)) with
          answer := (t.line k).answer, service := (t.line k).service, override := (t.line k).override } ∧
      (t.line k).lamp = (s.line k).lamp ∧ ((s.line k).state ≠ .dim → (t.line k).display = (s.line k).display) := by
  rw [exec_fromLine hline (by rintro l user rfl; exact hsignon rfl)] at hexec
  have ht : ((s.offerFrame k i).rule i).2.2.answerService k i.kind ((s.offerFrame k i).rule i).1 ((s.offerFrame k i).rule i).2.1 =
      t := by
    have hstep := hexec
    rw [lineStep_taken htakes] at hstep
    injection hstep
  have hafter := ((s.offerFrame k i).rule i).2.2.line_answerService k i.kind ((s.offerFrame k i).rule i).1
    ((s.offerFrame k i).rule i).2.1
  rw [ht] at hafter
  obtain rfl : Answer.mk true i.kind ((s.offerFrame k i).rule i).1 ((s.offerFrame k i).rule i).2.1 = a := by
    rw [hafter] at hanswer
    injection hanswer
  have htouch := State.rule_unchanged_line (s := s.offerFrame k i) hline hsignon hstatus
  obtain ⟨hfound, hdisplay⟩ := State.offerFrame_asFound htakes
  have hlines := htouch.line k
  obtain ⟨u, hserved, htouches, hanswered, -, -, -⟩ := line_effect (act := fun s => s.rule i)
    (v := ((s.offerFrame k i).rule i).2.2) (ps := [.lines]) htakes rfl (by rw [hlines]; exact rfl) (by rw [hlines])
    (htouch.mono (by decide)) (by decide)
  rw [hexec] at hserved
  injection hserved with hu
  subst hu
  rw [hlines] at hafter
  have hothers : SameLinesBut k s t := fun m hm => by
    rw [← ht, State.answerService, State.line_updLine_ne _ hm, htouch.line m, State.offerFrame_sameLines htakes m hm]
  have hjudged : (s.offerFrame k i).line k = if s.waiting k i = true then s.line k
      else frameJudged t k i.kind (.request i) (s.line k) := by
    obtain ⟨hwaiting, heq⟩ | ⟨hfree, -⟩ := State.offerFrame_cases htakes
    · rw [if_pos hwaiting, heq]
    · have hnew : s.waiting k i = false := by
        rw [State.waiting, hfree]
      rw [if_neg (by rw [hnew]; decide), State.offerFrame, if_neg (by rw [hnew]; decide)]
      exact State.frameIn_line htouches (fun _ => hfree) nofun
  refine ⟨htouches, hothers, ?_, ?_, ?_, hanswered, ?_, ?_, ?_, fun h => ?_⟩
  · rw [hafter, hfound]
  · rw [hafter, hfound]
  · rw [hafter, hfound]
  · rw [hafter, hfound]
  · rw [← hjudged, hafter]
  · rw [hafter, hfound]
  · rw [hafter, ← hdisplay h]

/-- Settles O16: a request not DONE leaves the records as the taking of it found them. -/
theorem refusalHasNoEffect : Obligations.RefusalHasNoEffect :=
  ⟨fun _ _ _ _ => host_refusalHasNoEffect, fun _ _ _ _ _ => line_refusalHasNoEffect⟩

end Refused

end Sys2Proof.Machine

namespace Sys2Proof

/-! ### Fields read back (chapter 11) -/

section Fields
variable {α : Type} {f : Reader α} {enc r : List Byte} {x : α} {n : Nat}

/-- A reader gives back what an encoding carries, and the bytes behind it. -/
def ReadsBack (f : Reader α) (enc : List Byte) (x : α) : Prop := ∀ r, f (enc ++ r) = some (x, r)

theorem byte_toNat (h : n < 256) : (byte n).toNat = n := by
  rw [byte, BitVec.toNat_ofNat, Nat.mod_eq_of_lt h]

theorem read8_u8 (h : fits8 n = true) : ReadsBack read8 (u8 n) n := fun r => by
  rw [u8, List.singleton_append, read8, byte_toNat (of_decide_eq_true h)]

theorem read16_u16 (h : fits16 n = true) : ReadsBack read16 (u16 n) n := fun r => by
  have hn : n < 65536 := of_decide_eq_true h
  rw [u16, List.cons_append, List.singleton_append, read16, byte, byte, BitVec.toNat_ofNat, BitVec.toNat_ofNat,
    Nat.mod_eq_of_lt (by omega)]
  congr 2
  omega

theorem readOpt_optional {g : α → List Byte} {o : Option α} (h : ∀ x ∈ o, ReadsBack f (g x) x) :
    ReadsBack (readOpt f) (optional g o) o := fun r => by
  cases o with
  | none => rfl
  | some x =>
    have hx := h x rfl r
    have hone : byte 1 ≠ 0 := by decide
    rw [optional, u8, List.append_assoc, List.singleton_append, readOpt, if_neg hone, if_pos (show byte 1 = 1 from rfl), hx]

theorem readOpt8 {o : Option Nat} (h : fitsOpt fits8 o = true) : ReadsBack (readOpt read8) (optional u8 o) o :=
  readOpt_optional fun _ hx => read8_u8 (by rw [hx] at h; exact h)

theorem readOpt16 {o : Option Nat} (h : fitsOpt fits16 o = true) : ReadsBack (readOpt read16) (optional u16 o) o :=
  readOpt_optional fun _ hx => read16_u16 (by rw [hx] at h; exact h)

theorem readBytes_append (cs : List Byte) : ReadsBack (readBytes cs.length) cs cs := fun r => by
  rw [readBytes, if_pos (by simp), List.take_left' rfl, List.drop_left' rfl]

theorem readLine_reads {l : List Byte} (h : fits8 l.length = true) : ReadsBack readLine (u8 l.length ++ l) l := fun r => by
  rw [u8, List.append_assoc, List.singleton_append, readLine, byte_toNat (of_decide_eq_true h)]
  exact readBytes_append l r

theorem readMany_flatMap {g : α → List Byte} {xs : List α} (h : ∀ x ∈ xs, ReadsBack f (g x) x) :
    ReadsBack (readMany f xs.length) (xs.flatMap g) xs := fun r => by
  induction xs with
  | nil => rfl
  | cons x xs ih =>
    have hx := h x (List.mem_cons_self ..)
    rw [List.flatMap_cons, List.length_cons, List.append_assoc, readMany, hx]
    dsimp only
    rw [ih fun y hy => h y (.tail x hy)]

theorem readList8_reads {g : α → List Byte} {xs : List α} (hlength : fits8 xs.length = true)
    (h : ∀ x ∈ xs, ReadsBack f (g x) x) : ReadsBack (readList8 f) (u8 xs.length ++ xs.flatMap g) xs := fun r => by
  rw [List.append_assoc, readList8, read8_u8 hlength]
  exact readMany_flatMap h r

theorem readList16_reads {g : α → List Byte} {xs : List α} (hlength : fits16 xs.length = true)
    (h : ∀ x ∈ xs, ReadsBack f (g x) x) : ReadsBack (readList16 f) (u16 xs.length ++ xs.flatMap g) xs := fun r => by
  rw [List.append_assoc, readList16, read16_u16 hlength]
  exact readMany_flatMap h r

theorem readLines_each {ls : List CopyLine} (h : fitsLines ls = true) :
    ∀ l ∈ ls, ReadsBack readLine (byte l.length :: l) l := fun l hl =>
  readLine_reads (List.all_eq_true.1 h l hl)

theorem readNumbers_each {ns : List Nat} (h : ns.all fits8 = true) : ∀ n ∈ ns, ReadsBack read8 (u8 n) n := fun n hn =>
  read8_u8 (List.all_eq_true.1 h n hn)

/-- The padding of a slug comes off again: its last character is no space. -/
theorem unpadded_padded {cs : List Byte} (hlast : cs.getLast? ≠ some 32) : unpadded (padded n cs) = cs := by
  have hhead : cs.reverse.dropWhile (fun b => decide (b = 32)) = cs.reverse := by
    cases hcs : cs.reverse with
    | nil => rfl
    | cons b bs =>
      have hb : cs.getLast? = some b := by rw [← List.head?_reverse, hcs]; rfl
      rw [List.dropWhile_cons_of_neg]
      rw [decide_eq_true_eq]
      rintro rfl
      exact hlast hb
  have hspaces (m : Nat) : (List.replicate m (32 : Byte)).dropWhile (fun b => decide (b = 32)) = [] :=
    List.dropWhile_eq_nil_iff.2 fun b hb => by rw [List.eq_of_mem_replicate hb]; rfl
  rw [unpadded, padded, List.reverse_append, List.reverse_replicate, List.dropWhile_append, hspaces]
  simp only [List.isEmpty_nil, if_true, hhead, List.reverse_reverse]

theorem readSlug_reads {slug : List Byte} (h : fitsSlug slug = true) : ReadsBack readSlug (slugField slug) slug := fun r => by
  obtain ⟨hlength, hlast⟩ := Bool.and_eq_true_iff.1 h
  have hsize : (slugField slug).length = 12 := by
    have hle : slug.length ≤ 12 := of_decide_eq_true hlength
    simp [slugField, padded, hle]
  have hbytes := readBytes_append (slugField slug) r
  rw [hsize] at hbytes
  rw [readSlug, hbytes]
  exact congrArg (fun cs => some (cs, r)) (unpadded_padded (by simpa using hlast))

/-! #### A body of fields -/

variable {k : Nat → List Byte → Option Instr}

theorem then8_reads (h : fits8 n = true) : then8 k (u8 n ++ r) = k n r := by rw [then8, read8_u8 h]

theorem then16_reads (h : fits16 n = true) : then16 k (u16 n ++ r) = k n r := by rw [then16, read16_u16 h]

theorem thenOpt8_reads {k : Option Nat → List Byte → Option Instr} {o : Option Nat} (h : fitsOpt fits8 o = true) :
    thenOpt read8 k (optional u8 o ++ r) = k o r := by rw [thenOpt, readOpt8 h]

theorem thenOpt16_reads {k : Option Nat → List Byte → Option Instr} {o : Option Nat} (h : fitsOpt fits16 o = true) :
    thenOpt read16 k (optional u16 o ++ r) = k o r := by rw [thenOpt, readOpt16 h]

theorem thenSlug_reads {k : List Byte → List Byte → Option Instr} {slug : List Byte} (h : fitsSlug slug = true) :
    thenSlug k (slugField slug ++ r) = k slug r := by rw [thenSlug, readSlug_reads h]

theorem read1_reads {k : α → Instr} (h : ReadsBack f enc x) : read1 f k enc = some (k x) := by
  have hread := h []
  rw [List.append_nil] at hread
  rw [read1, hread]

end Fields

end Sys2Proof

namespace Sys2Proof

/-! ### Requests read back from their kind words and bodies (chapter 11) -/

/-- The first entry a word finds is its own, where no word stands twice. -/
theorem find?_word {β : Type} {ws : List (List Byte × β)} (hnodup : (ws.map Prod.fst).Nodup) {n : Nat} {kind : List Byte} {x : β}
    (h : ws[n]? = some (kind, x)) : ws.find? (fun w => w.1 = kind) = some (kind, x) := by
  induction ws generalizing n with
  | nil => cases h
  | cons w ws ih =>
    rw [List.map_cons, List.nodup_cons] at hnodup
    cases n with
    | zero =>
      cases h
      simp
    | succ n =>
      have hmem : kind ∈ ws.map Prod.fst := List.mem_map.2 ⟨_, List.mem_of_getElem? h, rfl⟩
      rw [List.find?_cons_of_neg, ih hnodup.2 h]
      rw [decide_eq_true_eq]
      rintro rfl
      exact hnodup.1 hmem

theorem hostWords_nodup (tag : Byte) : ((hostWords tag).map Prod.fst).Nodup := by
  have hwords : (hostWords tag).map Prod.fst = (hostWords 0).map Prod.fst := rfl
  rw [hwords]
  decide

theorem terminalWords_nodup (k : Fin 32) : ((terminalWords k).map Prod.fst).Nodup := by
  have hwords : (terminalWords k).map Prod.fst = (terminalWords 0).map Prod.fst := rfl
  rw [hwords]
  decide

section Words
variable {tag : Byte} {kind body : List Byte} {reader : List Byte → Option Instr} {i : Instr}

theorem hostRequest_of_word (n : Nat) (hword : (hostWords tag)[n]? = some (kind, reader)) (hread : reader body = some i) :
    hostRequest tag kind body = i := by
  rw [hostRequest, find?_word (hostWords_nodup tag) hword]
  exact congrArg (Option.getD · _) hread

theorem terminalFrame_of_word {k : Fin 32} (n : Nat) (hword : (terminalWords k)[n]? = some (kind, reader))
    (hread : reader body = some i) : terminalFrame k kind body = .request i := by
  rw [terminalFrame, find?_word (terminalWords_nodup k) hword]
  dsimp only
  rw [hread]

theorem linesBytes_cons (l : CopyLine) (ls : List CopyLine) : linesBytes (l :: ls) = l.length + 1 + linesBytes ls := rfl

theorem length_le_linesBytes (ls : List CopyLine) : ls.length ≤ linesBytes ls := by
  induction ls with
  | nil => exact Nat.le_refl 0
  | cons l ls ih =>
    rw [List.length_cons, linesBytes_cons]
    omega

/-- The new lines of a TEXT, preceded by their count in two bytes (R12, 11.2). -/
theorem newLines_reads {ls : List CopyLine} (hsize : linesBytes ls ≤ 4096) (hls : fitsLines ls = true) :
    ReadsBack (readList16 readLine) (u16 ls.length ++ linesField ls) ls :=
  readList16_reads (decide_eq_true (by have := length_le_linesBytes ls; omega)) (readLines_each hls)

theorem fitsText_iff {story formBytes : Nat} {style : Option Nat} {new : List CopyLine}
    (h : fitsText story style formBytes new = true) :
    fits16 story = true ∧ fitsOpt fits8 style = true ∧ fitsLines new = true ∧ linesBytes new ≤ 4096 := by
  simp only [fitsText, Bool.and_eq_true, decide_eq_true_eq] at h
  obtain ⟨⟨⟨hstory, hstyle⟩, hlines⟩, hsize⟩ := h
  have hbody : Config.hostBody = 4096 := rfl
  exact ⟨hstory, hstyle, hlines, by omega⟩

theorem zero_fits8 : fits8 0 = true := rfl
theorem one_fits8 : fits8 1 = true := rfl
theorem two_fits8 : fits8 2 = true := rfl

/-- RETURN's f and k stand both or neither (R88). -/
theorem readReturn_reads {k : Fin 32} {range : Option (Nat × Nat)} {new : List CopyLine}
    (h : (Instr.ret k range new).wellFormed = true) : readReturn k (Instr.ret k range new).body = some (.ret k range new) := by
  simp only [Instr.wellFormed, Bool.and_eq_true] at h
  obtain ⟨⟨hrange, hlength⟩, hlines⟩ := h
  have hnew := readList8_reads hlength (readLines_each hlines)
  cases range with
  | none =>
    have hfirst := readOpt16 (o := none) rfl
    have hcount := readOpt8 (o := none) rfl
    simp only [Instr.body, Option.map_none, List.append_assoc, readReturn, hfirst _, hcount _]
    exact read1_reads hnew
  | some fk =>
    obtain ⟨first, count⟩ := fk
    simp only [Bool.and_eq_true] at hrange
    obtain ⟨⟨hf, hc⟩, -⟩ := hrange
    have hfirst := readOpt16 (o := some first) hf
    have hcount := readOpt8 (o := some count) hc
    simp only [Instr.body, Option.map_some, List.append_assoc, readReturn, hfirst _, hcount _]
    exact read1_reads hnew

end Words

/-- Request by request: the words of one, two and more fields each take their reader apart in
the order their body is put together. -/
theorem hostRequest_reads {i : Instr} (h : i.wellFormed = true) (hhost : i.fromHost = true)
    (hword : ∀ tag kind, i ≠ .unknownRequest tag kind) : hostRequest i.tag i.kind i.body = i := by
  cases i
  case unknownRequest tag kind => exact absurd rfl (hword tag kind)
  case ident => exact hostRequest_of_word 0 rfl rfl
  case restart => exact hostRequest_of_word 1 rfl rfl
  case sweep => exact hostRequest_of_word 2 rfl rfl
  case lineset =>
    obtain ⟨⟨⟨⟨⟨h1, h2⟩, h3⟩, h4⟩, h5⟩, h6⟩ := by simpa only [Instr.wellFormed, Bool.and_eq_true] using h
    refine hostRequest_of_word 3 rfl ?_
    simp only [Instr.body, List.append_assoc, then8_reads h1, thenOpt16_reads h2, thenOpt8_reads h3, thenOpt16_reads h4, thenOpt8_reads h5]
    exact read1_reads (readOpt8 h6)
  case lineon => exact hostRequest_of_word 4 rfl (read1_reads (read8_u8 h))
  case lineoff => exact hostRequest_of_word 5 rfl (read1_reads (read8_u8 h))
  case linestat => exact hostRequest_of_word 6 rfl (read1_reads (read8_u8 h))
  case lamp =>
    obtain ⟨h1, h2⟩ := by simpa only [Instr.wellFormed, Bool.and_eq_true] using h
    exact hostRequest_of_word 8 rfl ((then8_reads h1).trans (read1_reads (read8_u8 h2)))
  case create =>
    obtain ⟨⟨⟨h1, h2⟩, h3⟩, h4⟩ := by simpa only [Instr.wellFormed, Bool.and_eq_true] using h
    refine hostRequest_of_word 10 rfl ?_
    simp only [Instr.body, List.append_assoc, thenSlug_reads h1, then8_reads h2, then8_reads h3]
    exact read1_reads (read8_u8 h4)
  case read =>
    obtain ⟨h1, h2⟩ := by simpa only [Instr.wellFormed, Bool.and_eq_true] using h
    exact hostRequest_of_word 12 rfl ((then16_reads h1).trans (read1_reads (read16_u16 h2)))
  case info => exact hostRequest_of_word 13 rfl (read1_reads (read16_u16 h))
  case purge => exact hostRequest_of_word 14 rfl (read1_reads (read16_u16 h))
  case hostRoute =>
    obtain ⟨h1, h2⟩ := by simpa only [Instr.wellFormed, Bool.and_eq_true] using h
    exact hostRequest_of_word 15 rfl ((then16_reads h1).trans (read1_reads (read8_u8 h2)))
  case hostPriority =>
    obtain ⟨h1, h2⟩ := by simpa only [Instr.wellFormed, Bool.and_eq_true] using h
    exact hostRequest_of_word 16 rfl ((then16_reads h1).trans (read1_reads (read8_u8 h2)))
  case hostSpike => exact hostRequest_of_word 17 rfl (read1_reads (read16_u16 h))
  case unspike => exact hostRequest_of_word 18 rfl (read1_reads (read16_u16 h))
  case hostKill => exact hostRequest_of_word 19 rfl (read1_reads (read16_u16 h))
  case basket =>
    obtain ⟨⟨h1, h2⟩, h3⟩ := by simpa only [Instr.wellFormed, Bool.and_eq_true] using h
    refine hostRequest_of_word 20 rfl ?_
    simp only [Instr.body, List.append_assoc, then8_reads h1, then8_reads h2]
    exact read1_reads (read16_u16 h3)
  case hostOpen => exact hostRequest_of_word 21 rfl (read1_reads (read16_u16 h))
  case hostClose => exact hostRequest_of_word 22 rfl (read1_reads (read16_u16 h))
  case free => exact hostRequest_of_word 23 rfl (read1_reads (read16_u16 h))
  case holdtime => exact hostRequest_of_word 24 rfl (read1_reads (read16_u16 h))
  case pageopen =>
    obtain ⟨⟨h1, h2⟩, h3⟩ := by simpa only [Instr.wellFormed, Bool.and_eq_true] using h
    refine hostRequest_of_word 27 rfl ?_
    simp only [Instr.body, List.append_assoc, then16_reads h1, thenOpt8_reads h2]
    exact read1_reads (readOpt8 h3)
  case unplace => exact hostRequest_of_word 30 rfl (read1_reads (read16_u16 h))
  case release =>
    obtain ⟨⟨h1, h2⟩, h3⟩ := by simpa only [Instr.wellFormed, Bool.and_eq_true] using h
    refine hostRequest_of_word 31 rfl ?_
    simp only [Instr.body, List.append_assoc, then8_reads h1, then8_reads h2]
    exact read1_reads (read8_u8 h3)
  case cancel => exact hostRequest_of_word 32 rfl (read1_reads (read8_u8 h))
  case reopen => exact hostRequest_of_word 33 rfl (read1_reads (read8_u8 h))
  case pageshut => exact hostRequest_of_word 34 rfl (read1_reads (read8_u8 h))
  case pageinfo => exact hostRequest_of_word 35 rfl (read1_reads (read8_u8 h))
  case portset =>
    obtain ⟨⟨h1, h2⟩, h3⟩ := by simpa only [Instr.wellFormed, Bool.and_eq_true] using h
    refine hostRequest_of_word 37 rfl ?_
    simp only [Instr.body, List.append_assoc, then8_reads h1, thenOpt16_reads h2]
    exact read1_reads (readOpt8 h3)
  case porton => exact hostRequest_of_word 38 rfl (read1_reads (read8_u8 h))
  case portoff => exact hostRequest_of_word 39 rfl (read1_reads (read8_u8 h))
  case portclr => exact hostRequest_of_word 40 rfl (read1_reads (read8_u8 h))
  case resume => exact hostRequest_of_word 41 rfl (read1_reads (read8_u8 h))
  case portstat => exact hostRequest_of_word 42 rfl (read1_reads (read8_u8 h))
  case queue => exact hostRequest_of_word 43 rfl rfl
  case clkstart =>
    obtain ⟨h1, h2⟩ := by simpa only [Instr.wellFormed, Bool.and_eq_true] using h
    exact hostRequest_of_word 44 rfl ((then8_reads h1).trans (read1_reads (read16_u16 h2)))
  case clknext => exact hostRequest_of_word 45 rfl (read1_reads (read16_u16 h))
  case clkstop => exact hostRequest_of_word 46 rfl rfl
  case clkread => exact hostRequest_of_word 47 rfl rfl
  case warn => exact hostRequest_of_word 48 rfl (read1_reads (read16_u16 h))
  case textAppend =>
    rw [Instr.wellFormed] at h
    obtain ⟨hstory, hstyle, hlines, hsize⟩ := fitsText_iff h
    refine hostRequest_of_word 11 rfl ?_
    simp only [Instr.body, textBody, List.append_assoc, List.nil_append, then16_reads hstory, readText, then8_reads zero_fits8,
      thenOpt8_reads hstyle]
    exact read1_reads (newLines_reads hsize hlines)
  case textReplace =>
    rw [Instr.wellFormed] at h
    obtain ⟨hstory, hstyle, hlines, hsize⟩ := fitsText_iff h
    refine hostRequest_of_word 11 rfl ?_
    simp only [Instr.body, textBody, List.append_assoc, List.nil_append, then16_reads hstory, readText, then8_reads one_fits8,
      thenOpt8_reads hstyle]
    exact read1_reads (newLines_reads hsize hlines)
  case textReplaceRange =>
    obtain ⟨⟨htext, hfirst⟩, hcount⟩ := by simpa only [Instr.wellFormed, Bool.and_eq_true] using h
    obtain ⟨hstory, hstyle, hlines, hsize⟩ := fitsText_iff htext
    refine hostRequest_of_word 11 rfl ?_
    simp only [Instr.body, textBody, List.append_assoc, then16_reads hstory, readText, then8_reads two_fits8,
      thenOpt8_reads hstyle, then16_reads hfirst, then16_reads hcount]
    exact read1_reads (newLines_reads hsize hlines)
  case verdictGrant =>
    obtain ⟨⟨hline, hdesk⟩, hrole⟩ := by simpa only [Instr.wellFormed, Bool.and_eq_true] using h
    refine hostRequest_of_word 7 rfl ?_
    simp only [Instr.body, List.append_assoc, then8_reads hline, readVerdict, then8_reads zero_fits8, then8_reads hdesk]
    exact read1_reads (read8_u8 hrole)
  case verdictDeny =>
    refine hostRequest_of_word 7 rfl ?_
    rw [Instr.body, then8_reads h, readVerdict, ← List.append_nil (u8 1), then8_reads one_fits8]
    rfl
  case flash tag text mask =>
    refine hostRequest_of_word 9 rfl ?_
    have hmask : fits16 mask.toNat = true := decide_eq_true mask.isLt
    rw [Instr.body, readFlash, readLine_reads h]
    exact (read1_reads (read16_u16 hmask)).trans (by rw [BitVec.ofNat_toNat, BitVec.setWidth_eq]; rfl)
  case style =>
    obtain ⟨⟨⟨⟨⟨⟨⟨h1, h2⟩, h3⟩, h4⟩, h5⟩, h6⟩, h7⟩, h8⟩ := by simpa only [Instr.wellFormed, Bool.and_eq_true] using h
    refine hostRequest_of_word 25 rfl ?_
    simp only [Instr.body, List.append_assoc, then8_reads h1, readStyle, thenOpt8_reads h2, thenOpt8_reads h3, thenOpt16_reads h4,
      thenOpt8_reads h5, thenOpt8_reads h6, thenOpt8_reads h7]
    exact read1_reads (readOpt16 h8)
  case widths =>
    obtain ⟨⟨⟨hfont, hfirst⟩, hlength⟩, hvalues⟩ := by simpa only [Instr.wellFormed, Bool.and_eq_true] using h
    refine hostRequest_of_word 26 rfl ?_
    simp only [Instr.body, List.append_assoc, then8_reads hfont, then8_reads hfirst]
    exact read1_reads (readList8_reads hlength (readNumbers_each hvalues))
  case slotDefine =>
    obtain ⟨⟨⟨hpage, hslot⟩, hdepth⟩, hmeasure⟩ := by simpa only [Instr.wellFormed, Bool.and_eq_true] using h
    refine hostRequest_of_word 28 rfl ?_
    simp only [Instr.body, List.append_assoc, then8_reads hpage, then8_reads hslot, readSlot, then8_reads zero_fits8,
      then16_reads hdepth]
    exact read1_reads (read16_u16 hmeasure)
  case slotUndefine =>
    obtain ⟨hpage, hslot⟩ := by simpa only [Instr.wellFormed, Bool.and_eq_true] using h
    refine hostRequest_of_word 28 rfl ?_
    rw [Instr.body, List.append_assoc, then8_reads hpage, then8_reads hslot, readSlot, ← List.append_nil (u8 1),
      then8_reads one_fits8]
    rfl
  case place =>
    obtain ⟨⟨⟨hstory, hpage⟩, hlength⟩, hrun⟩ := by simpa only [Instr.wellFormed, Bool.and_eq_true] using h
    refine hostRequest_of_word 29 rfl ?_
    simp only [Instr.body, List.append_assoc, then16_reads hstory, then8_reads hpage]
    exact read1_reads (readList8_reads hlength (readNumbers_each hrun))
  case xlate =>
    obtain ⟨⟨hfirst, hlength⟩, hentries⟩ := by simpa only [Instr.wellFormed, Bool.and_eq_true] using h
    refine hostRequest_of_word 36 rfl ?_
    simp only [Instr.body, List.append_assoc, then8_reads hfirst]
    refine read1_reads (readList8_reads hlength fun e he => ?_)
    obtain ⟨hsize, hvalues⟩ := Bool.and_eq_true_iff.1 (List.all_eq_true.1 hentries e he)
    exact readList8_reads (decide_eq_true (Nat.lt_of_le_of_lt (of_decide_eq_true hsize) (by decide)))
      (readNumbers_each hvalues)
  all_goals exact absurd hhost Bool.false_ne_true

theorem terminalFrame_reads {i : Instr} {k : Fin 32} (h : i.wellFormed = true) (hline : i.fromLine = some k) :
    terminalFrame k i.kind i.body = .request i := by
  cases i
  all_goals cases hline
  case signoff.refl => exact terminalFrame_of_word 1 rfl rfl
  case arm.refl => exact terminalFrame_of_word 2 rfl rfl
  case terminalClose.refl => exact terminalFrame_of_word 9 rfl rfl
  case seen.refl => exact terminalFrame_of_word 13 rfl rfl
  case signon.refl => exact terminalFrame_of_word 0 rfl (read1_reads (read16_u16 h))
  case new.refl =>
    obtain ⟨⟨h1, h2⟩, h3⟩ := by simpa only [Instr.wellFormed, Bool.and_eq_true] using h
    refine terminalFrame_of_word 3 rfl ?_
    simp only [Instr.body, List.append_assoc, thenSlug_reads h1, then8_reads h2]
    exact read1_reads (read8_u8 h3)
  case terminalRoute.refl =>
    obtain ⟨h1, h2⟩ := by simpa only [Instr.wellFormed, Bool.and_eq_true] using h
    exact terminalFrame_of_word 4 rfl ((then16_reads h1).trans (read1_reads (read8_u8 h2)))
  case terminalPriority.refl => exact terminalFrame_of_word 5 rfl (read1_reads (read8_u8 h))
  case terminalSpike.refl => exact terminalFrame_of_word 6 rfl (read1_reads (read16_u16 h))
  case terminalKill.refl => exact terminalFrame_of_word 7 rfl (read1_reads (read16_u16 h))
  case terminalOpen.refl => exact terminalFrame_of_word 8 rfl (read1_reads (read16_u16 h))
  case window.refl => exact terminalFrame_of_word 10 rfl (read1_reads (readOpt16 h))
  case home.refl =>
    obtain ⟨h1, h2⟩ := by simpa only [Instr.wellFormed, Bool.and_eq_true] using h
    exact terminalFrame_of_word 12 rfl ((thenOpt8_reads h1).trans (read1_reads (readOpt16 h2)))
  case ret.refl => exact terminalFrame_of_word 11 rfl (readReturn_reads h)

/-- Settles O12: every field is read back in the order it was put into the body. -/
theorem requestsReadBack : Obligations.RequestsReadBack :=
  ⟨fun _ => hostRequest_reads, fun _ _ => terminalFrame_reads⟩

end Sys2Proof

namespace Sys2Proof

/-! ### A host frame at the receiver (R178, R179, R190) -/

theorem read16_of_prefix {bs whole r : List Byte} {n : Nat} (hprefix : bs <+: whole) (h : read16 bs = some (n, r)) :
    ∃ tail, read16 whole = some (n, tail) := by
  obtain ⟨rest, rfl⟩ := hprefix
  match bs, h with
  | hi :: lo :: tail, h =>
    cases h
    exact ⟨_, rfl⟩

/-- What stands between the flags of a frame once restored: the content and its check (11.1). -/
def restored (tag : Byte) (kind body : List Byte) : List Byte :=
  frameContent 1 tag kind body ++ u16 (cyclicCheck (frameContent 1 tag kind body)).toNat

section Restored
variable {tag : Byte} {kind body : List Byte}

theorem u16_length (n : Nat) : (u16 n).length = 2 := rfl

theorem restored_eq (tag : Byte) (kind body : List Byte) : restored tag kind body = 1 :: tag :: (kind ++ (u16 body.length ++
    (body ++ u16 (cyclicCheck (frameContent 1 tag kind body)).toNat))) := by
  simp only [restored, frameContent, List.cons_append, List.append_assoc]

theorem restored_length (hkind : kind.length = 8) : (restored tag kind body).length = body.length + 14 := by
  simp only [restored_eq, List.length_cons, List.length_append, u16_length, hkind]
  omega

theorem read16_restored (hkind : kind.length = 8) (hbody : body.length ≤ 4096) :
    read16 ((restored tag kind body).drop 10) =
      some (body.length, body ++ u16 (cyclicCheck (frameContent 1 tag kind body)).toNat) := by
  rw [restored_eq, List.drop_succ_cons, List.drop_succ_cons, List.drop_left' hkind]
  exact read16_u16 (decide_eq_true (by omega)) _

/-- No beginning of a lawful frame is condemned by its length field (R179). -/
theorem frameTooLong_of_prefix (hkind : kind.length = 8) (hbody : body.length ≤ 4096) {bs : List Byte}
    (hprefix : bs <+: restored tag kind body) : Machine.frameTooLong bs = false := by
  unfold Machine.frameTooLong
  cases hread : read16 (bs.drop 10) with
  | none => rfl
  | some nr =>
    obtain ⟨n, r⟩ := nr
    obtain ⟨tail, hwhole⟩ := read16_of_prefix (hprefix.drop 10) hread
    rw [read16_restored hkind hbody] at hwhole
    cases hwhole
    have hlength := hprefix.length_le
    rw [restored_length hkind] at hlength
    have hmax : Config.hostBody = 4096 := rfl
    simp only [Bool.or_eq_false_iff, decide_eq_false_iff_not]
    omega

theorem hostFrameRequest_restored (hkind : kind.length = 8) (hbody : body.length ≤ 4096) :
    hostFrameRequest (restored tag kind body) = some (tag, kind, body) := by
  have hread := read16_restored (tag := tag) hkind hbody
  rw [restored_eq] at hread ⊢
  rw [List.drop_succ_cons, List.drop_succ_cons] at hread
  have htake : (kind ++ (u16 body.length ++ (body ++ u16 (cyclicCheck (frameContent 1 tag kind body)).toNat))).take 8 = kind :=
    List.take_left' hkind
  simp only [hostFrameRequest, hread, htake, List.take_left' rfl, List.drop_left' rfl]
  exact if_pos ⟨hbody, by rw [List.length_append, u16_length], by trivial, by trivial⟩

end Restored

namespace Machine

section Receive
variable {c : Channel}

/-- The channel in mid-frame, these bytes restored so far. -/
def Channel.midFrame (c : Channel) (bs : List Byte) : Channel := { c with rx := some { bytes := bs, escape := false } }

theorem Channel.midFrame_collect {bs : List Byte} {r : Option HostRx} (h : frameTooLong bs = false) :
    ({ c with rx := r } : Channel).collect bs = c.midFrame bs := by
  rw [Channel.collect, h]
  rfl

theorem Channel.receive_plain {bs : List Byte} {b : Byte} (hstart : b ≠ 123) (hend : b ≠ 124) (hescape : b ≠ 125)
    (h : frameTooLong (bs ++ [b]) = false) : (c.midFrame bs).receive b = c.midFrame (bs ++ [b]) := by
  simp only [Channel.receive, Channel.midFrame, Bool.false_eq_true, if_false, hstart, hend, hescape]
  exact Channel.midFrame_collect h

theorem Channel.receive_pair {bs : List Byte} {b : Byte} (hb : b = 91 ∨ b = 92 ∨ b = 93)
    (h : frameTooLong (bs ++ [b + 32]) = false) : ((c.midFrame bs).receive 125).receive b = c.midFrame (bs ++ [b + 32]) := by
  have hescape : (c.midFrame bs).receive 125 = { c with rx := some { bytes := bs, escape := true } } := rfl
  rw [hescape]
  simp only [Channel.receive, if_true, if_pos hb]
  exact Channel.midFrame_collect h

/-- One byte, escaped where it must be, joins the frame in progress (R190). -/
theorem Channel.receive_escaped {bs : List Byte} {b : Byte} (h : frameTooLong (bs ++ [b]) = false) :
    (escapeByte b).foldl Channel.receive (c.midFrame bs) = c.midFrame (bs ++ [b]) := by
  unfold escapeByte
  split
  next hflag =>
    rcases hflag with rfl | rfl | rfl
    · exact Channel.receive_pair (.inl rfl) h
    · exact Channel.receive_pair (.inr (.inl rfl)) h
    · exact Channel.receive_pair (.inr (.inr rfl)) h
  next hplain =>
    rw [not_or, not_or] at hplain
    obtain ⟨hstart, hend, hescape⟩ := hplain
    exact Channel.receive_plain hstart hend hescape h

/-- A run of bytes joins the frame in progress, as long as no beginning of it is condemned. -/
theorem Channel.receive_all (bs : List Byte) {before : List Byte}
    (h : ∀ p, p <+: before ++ bs → frameTooLong p = false) :
    (bs.flatMap escapeByte).foldl Channel.receive (c.midFrame before) = c.midFrame (before ++ bs) := by
  induction bs generalizing before with
  | nil => rw [List.append_nil]; rfl
  | cons b bs ih =>
    have hsplit : before ++ b :: bs = before ++ [b] ++ bs := by rw [List.append_assoc, List.singleton_append]
    rw [hsplit] at h ⊢
    rw [List.flatMap_cons, List.foldl_append, Channel.receive_escaped (h _ (List.prefix_append _ _))]
    exact ih h

theorem Channel.receive_start (h : c.rx = none) : c.receive 123 = c.midFrame [] := by
  simp only [Channel.receive, h, if_true]
  rfl

/-- The end flag of a frame that holds a request (R178, R188). -/
theorem Channel.midFrame_endFrame {tag : Byte} {kind body bs before : List Byte} (hrx : c.rx = none)
    (h : hostFrameRequest bs = some (tag, kind, body)) : (c.midFrame before).endFrame bs =
      if c.restarting = true then c else c.enqueue (hostRequest tag kind body) := by
  have hidle : ({ c with rx := none } : Channel) = c := by rw [← hrx]
  rw [Channel.endFrame, h]
  exact congrArg (fun d : Channel => if d.restarting = true then d else d.enqueue (hostRequest tag kind body)) hidle

/-- A whole host frame at an idle receiver comes to what its end flag makes of it (R178, R190). -/
theorem Channel.receive_frame {tag : Byte} {kind body : List Byte} (hrx : c.rx = none) (hkind : kind.length = 8)
    (hbody : body.length ≤ 4096) : (hostFrame 1 tag kind body).foldl Channel.receive c =
      if c.restarting = true then c else c.enqueue (hostRequest tag kind body) := by
  have hall := Channel.receive_all (c := c) (restored tag kind body) (before := [])
    fun p hp => frameTooLong_of_prefix hkind hbody hp
  have hframe : hostFrame 1 tag kind body = 123 :: ((restored tag kind body).flatMap escapeByte ++ [124]) := rfl
  rw [hframe, List.foldl_cons, Channel.receive_start hrx, List.foldl_append, hall, List.foldl_cons, List.foldl_nil]
  exact Channel.midFrame_endFrame hrx (hostFrameRequest_restored hkind hbody)

end Receive

/-- Settles O13: the frame is restored byte for byte, and its request enqueued. -/
theorem hostFrameArrivesWhole : Obligations.HostFrameArrivesWhole := by
  intro s tag kind body hrx hkind hbody
  refine ⟨s.withChannel (if s.channel.restarting = true then s.channel else s.channel.enqueue (hostRequest tag kind body)), ?_,
    State.withChannel_touches s _, ?_⟩
  · have hexec : exec (.requestArrival (hostFrame 1 tag kind body)) s = execRequestArrival (hostFrame 1 tag kind body) s := rfl
    rw [hexec, execRequestArrival, Channel.receive_frame hrx hkind hbody]
    rfl
  · rfl

end Machine

end Sys2Proof

namespace Sys2Proof

/-! ### A terminal frame at its line's receiver (R68, R69, R191) -/

section LineFrame
variable {kind body : List Byte}

theorem lineFrame_eq (kind body : List Byte) : lineFrame kind body = 255 :: (kind ++ (u16 body.length ++ (body ++
    [0 - frameSum (255 :: (kind ++ u16 body.length ++ body))]))) := by
  simp only [lineFrame, List.cons_append, List.append_assoc]

theorem lineFrame_length (hkind : kind.length = 8) : (lineFrame kind body).length = body.length + 12 := by
  simp only [lineFrame_eq, List.length_cons, List.length_append, u16_length, hkind, List.length_nil]
  omega

theorem lineFrame_drop (hkind : kind.length = 8) : (lineFrame kind body).drop 9 = u16 body.length ++ (body ++
    [0 - frameSum (255 :: (kind ++ u16 body.length ++ body))]) := by
  rw [lineFrame_eq, List.drop_succ_cons, List.drop_left' hkind]

theorem lineFrameLength_of_prefix (hkind : kind.length = 8) (hbody : body.length < 65536) {bs : List Byte} {n : Nat}
    (hprefix : bs <+: lineFrame kind body) (h : lineFrameLength bs = some n) : n = body.length + 12 := by
  unfold lineFrameLength at h
  cases hread : read16 (bs.drop 9) with
  | none =>
    rw [hread] at h
    cases h
  | some mr =>
    obtain ⟨m, r⟩ := mr
    rw [hread] at h
    obtain ⟨tail, hwhole⟩ := read16_of_prefix (hprefix.drop 9) hread
    rw [lineFrame_drop hkind, read16_u16 (decide_eq_true hbody)] at hwhole
    cases hwhole
    cases h
    rfl

theorem lineFrameLength_whole (hkind : kind.length = 8) (hbody : body.length < 65536) :
    lineFrameLength (lineFrame kind body) = some (lineFrame kind body).length := by
  rw [lineFrameLength, lineFrame_drop hkind, read16_u16 (decide_eq_true hbody), lineFrame_length hkind]

theorem frameSum_append (bs : List Byte) (b : Byte) : frameSum (bs ++ [b]) = frameSum bs + b := by
  rw [frameSum, List.foldl_append]
  rfl

/-- The check of a frame brings its sum to 0 (R191). -/
theorem frameSum_lineFrame (kind body : List Byte) : frameSum (lineFrame kind body) = 0 := by
  have hframe : lineFrame kind body = (255 :: (kind ++ u16 body.length ++ body)) ++
    [0 - frameSum (255 :: (kind ++ u16 body.length ++ body))] := rfl
  rw [hframe, frameSum_append]
  generalize frameSum _ = x
  bv_omega

theorem lineFrame_kind (hkind : kind.length = 8) : ((lineFrame kind body).drop 1).take 8 = kind := by
  rw [lineFrame_eq, List.drop_succ_cons, List.drop_zero, List.take_left' hkind]

theorem lineFrame_body (hkind : kind.length = 8) :
    ((lineFrame kind body).drop 11).take ((lineFrame kind body).length - 12) = body := by
  have hdrop : (lineFrame kind body).drop 11 = ((lineFrame kind body).drop 9).drop 2 := by rw [List.drop_drop]
  rw [hdrop, lineFrame_drop hkind, List.drop_left' (u16_length _), lineFrame_length hkind, Nat.add_sub_cancel]
  exact List.take_left' rfl

/-- SIGNON is a kind of frame a terminal may send. -/
theorem terminalFrame_signon {k : Fin 32} (h : terminalFrame k kind body = .unknown) : kind ≠ kindWord "SIGNON" := by
  rintro rfl
  rw [terminalFrame, find?_word (n := 0) (terminalWords_nodup k) rfl] at h
  dsimp only at h
  split at h <;> cases h

end LineFrame

namespace Machine

section Receive
variable {s : State} {k : Fin 32}

theorem State.updLine_updLine (s : State) (k : Fin 32) (f g : Line → Line) :
    (s.updLine k f).updLine k g = s.updLine k fun l => g (f l) := by
  have hline := State.line_updLine_self s k.isLt f
  rw [State.updLine, hline]
  simp only [State.updLine, Vector.setIfInBounds_setIfInBounds]

theorem State.updLine_of_eq {f : Line → Line} (h : f (s.line k) = s.line k) : s.updLine k f = s := by
  have hlines : s.lines.setIfInBounds k (s.line k) = s.lines := by
    refine Vector.ext fun m hm => ?_
    rw [Vector.getElem_setIfInBounds]
    split
    next heq => simp [State.line, heq, hm]
    next => rfl
  rw [State.updLine, h, hlines]

/-- The state with these characters in line `k`'s receive buffer. -/
def State.midFrame (s : State) (k : Nat) (bs : List Byte) : State := s.updLine k fun l => { l with rx := bs }

theorem State.midFrame_line (s : State) (k : Fin 32) (bs : List Byte) :
    (s.midFrame k bs).line k = { s.line k with rx := bs } := State.line_updLine_self s k.isLt _

theorem State.midFrame_midFrame (s : State) (k : Fin 32) (bs cs : List Byte) : (s.midFrame k bs).midFrame k cs = s.midFrame k cs :=
  s.updLine_updLine k _ _

theorem State.midFrame_of_rx {bs : List Byte} (h : (s.line k).rx = bs) : s.midFrame k bs = s :=
  State.updLine_of_eq (by rw [← h])

/-- A line that is DISABLED or LOST takes no characters (R68). -/
theorem State.receiveAll_deaf (h : (s.line k).state.receiving = false) (bs : List Byte) :
    bs.foldl (State.receiveChar k) s = s := by
  induction bs with
  | nil => rfl
  | cons b bs ih =>
    have hchar : State.receiveChar k s b = s := by simp only [State.receiveChar, h, Bool.false_eq_true, if_false]
    rw [List.foldl_cons, hchar, ih]

/-- A character within a frame not yet whole is collected (R68). -/
theorem State.receiveChar_within {bs : List Byte} {b : Byte} (h : (s.line k).state.receiving = true) (hbs : bs ≠ [])
    (hsize : (bs ++ [b]).length ≤ 4096) (hopen : lineFrameLength (bs ++ [b]) ≠ some (bs ++ [b]).length) :
    State.receiveChar k (s.midFrame k bs) b = s.midFrame k (bs ++ [b]) := by
  have hempty : bs.isEmpty = false := by simpa using hbs
  have hfits : ¬Config.receiveBuffer < (bs ++ [b]).length := Nat.not_lt.2 hsize
  simp only [State.receiveChar, State.midFrame_line, h, if_true, hempty, Bool.false_eq_true, if_false, hfits, hopen]
  exact s.midFrame_midFrame k _ _

/-- The characters of a frame up to its last are collected (R68). -/
theorem State.receiveAll_within (h : (s.line k).state.receiving = true) {before bs : List Byte} (hbefore : before ≠ [])
    (hsize : (before ++ bs).length ≤ 4096)
    (hopen : ∀ p, p <+: before ++ bs → lineFrameLength p ≠ some p.length) :
    bs.foldl (State.receiveChar k) (s.midFrame k before) = s.midFrame k (before ++ bs) := by
  induction bs generalizing before with
  | nil => rw [List.append_nil]; rfl
  | cons b bs ih =>
    have hsplit : before ++ b :: bs = before ++ [b] ++ bs := by rw [List.append_assoc, List.singleton_append]
    rw [hsplit] at hsize hopen ⊢
    rw [List.foldl_cons, State.receiveChar_within h hbefore (Nat.le_trans (List.prefix_append _ bs).length_le hsize)
      (hopen _ (List.prefix_append _ _))]
    exact ih (by simp) hsize hopen

/-- The last character of a lawful frame completes it, and the frame is judged by its line's state (R68, R71, R191). -/
theorem State.receive_frame {kind body : List Byte} (h : (s.line k).state.receiving = true) (hrx : (s.line k).rx = [])
    (hkind : kind.length = 8) (hsize : (lineFrame kind body).length ≤ 4096) :
    (lineFrame kind body).foldl (State.receiveChar k) s = s.frameIn k kind (terminalFrame k kind body) := by
  have hbody : body.length < 65536 := by
    rw [lineFrame_length hkind] at hsize
    omega
  obtain ⟨chars, last, hframe⟩ : ∃ chars last, lineFrame kind body = 255 :: chars ++ [last] := ⟨_, _, rfl⟩
  have hstart : State.receiveChar k s 255 = s.midFrame k [255] := by
    simp only [State.receiveChar, h, if_true, hrx, List.isEmpty_nil]
    rfl
  have hwithin := State.receiveAll_within (s := s) (k := k) h (before := [255]) (bs := chars) (by simp)
    (by rw [hframe] at hsize; simp at hsize ⊢; omega) fun p hp hlength => by
      have hprefix : p <+: lineFrame kind body := by rw [hframe]; exact hp.trans (List.prefix_append _ _)
      have hwhole := lineFrameLength_of_prefix hkind hbody hprefix hlength
      have hle := hp.length_le
      have hlast := lineFrame_length (kind := kind) (body := body) hkind
      rw [hframe] at hlast
      simp at hle hlast
      omega
  have hlast : State.receiveChar k (s.midFrame k (255 :: chars)) last =
      s.frameIn k kind (terminalFrame k kind body) := by
    have hfits : ¬Config.receiveBuffer < (lineFrame kind body).length := Nat.not_lt.2 hsize
    have hwhole := lineFrameLength_whole hkind hbody
    have hclear : (s.midFrame k (255 :: chars)).midFrame k [] = s := by
      rw [State.midFrame_midFrame, State.midFrame_of_rx hrx]
    unfold State.midFrame at hclear
    simp only [State.receiveChar, State.midFrame_line, h, if_true, List.isEmpty_cons, Bool.false_eq_true, if_false, ← hframe,
      hfits, hwhole, State.frameDone, frameSum_lineFrame, lineFrame_kind hkind, lineFrame_body hkind]
    exact congrArg (fun u : State => u.frameIn k kind (terminalFrame k kind body)) hclear
  rw [hframe, List.cons_append, List.foldl_cons, hstart, List.foldl_append, hwithin]
  exact hlast

end Receive

end Machine

end Sys2Proof

namespace Sys2Proof

theorem u8_length (n : Nat) : (u8 n).length = 1 := rfl

theorem optional_length_le {g : Nat → List Byte} {o : Option Nat} {m : Nat} (h : ∀ n, (g n).length = m) :
    (optional g o).length ≤ m + 1 := by
  cases o with
  | none => exact Nat.succ_le_succ (Nat.zero_le m)
  | some n => rw [optional, List.length_append, h, u8_length, Nat.add_comm]

theorem linesField_length (ls : List CopyLine) : (linesField ls).length = linesBytes ls := by
  induction ls with
  | nil => rfl
  | cons l ls ih =>
    rw [linesBytes_cons, ← ih, linesField, List.flatMap_cons, List.length_append, List.length_cons]
    rfl

theorem slugField_length {slug : List Byte} (h : fitsSlug slug = true) : (slugField slug).length = 12 := by
  obtain ⟨hlength, -⟩ := Bool.and_eq_true_iff.1 h
  have hle : slug.length ≤ 12 := of_decide_eq_true hlength
  simp [slugField, padded, hle]

/-- A terminal's request leaves room for the rest of its frame in the receive buffer (R68, 11.2). -/
theorem Instr.body_length_le {i : Instr} {k : Fin 32} (h : i.wellFormed = true) (hline : i.fromLine = some k) :
    i.body.length ≤ 4084 := by
  cases i
  all_goals cases hline
  case new.refl =>
    simp only [Instr.wellFormed, Bool.and_eq_true] at h
    obtain ⟨⟨hslug, -⟩, -⟩ := h
    simp [Instr.body, slugField_length hslug, u8_length]
  case window.refl first =>
    exact Nat.le_trans (optional_length_le u16_length) (by decide)
  case home.refl desk first =>
    rw [Instr.body, List.length_append]
    exact Nat.le_trans (Nat.add_le_add (optional_length_le u8_length) (optional_length_le u16_length)) (by decide)
  case ret.refl range new =>
    simp only [Instr.wellFormed, Bool.and_eq_true] at h
    obtain ⟨⟨hrange, -⟩, -⟩ := h
    rw [Instr.body, List.length_append, List.length_append, List.length_append, linesField_length]
    cases range with
    | none => exact Nat.le_trans (Nat.le_of_eq (by rfl)) (of_decide_eq_true hrange)
    | some fk =>
      simp only [Bool.and_eq_true] at hrange
      exact Nat.le_trans (Nat.le_of_eq (by rfl)) (of_decide_eq_true hrange.2)
  all_goals exact Nat.le_of_ble_eq_true rfl

theorem kindWord_length_of_line {i : Instr} {k : Fin 32} (hline : i.fromLine = some k) : i.kind.length = 8 := by
  cases i
  all_goals cases hline
  all_goals rfl

namespace Machine

section Taken
variable {s : State} {k : Fin 32} {kind : List Byte} {f : TerminalFrame}

theorem State.noteUnknown_sameLines (s : State) (k : Nat) (f : TerminalFrame) : SameLinesBut k s (s.noteUnknown k f) := by
  unfold State.noteUnknown
  split
  · unfold State.setLatch
    dsimp only
    split
    · exact s.updLine_sameLines k _
    · exact (s.updLine_sameLines k _).trans (State.lampIf_sameLines _ k _)
  · exact fun _ _ => rfl

theorem State.answerAtOnce_sameLines (s : State) (k : Nat) (kind : List Byte) (st : Status) :
    SameLinesBut k s (s.answerAtOnce k kind st) :=
  (s.updLine_sameLines k _).trans (State.updLine_sameLines _ k _)

theorem State.frameIdle_sameLines (s : State) (k : Nat) (kind : List Byte) (f : TerminalFrame) :
    SameLinesBut k s (s.frameIdle k kind f) := by
  unfold State.frameIdle
  split
  · exact s.updLine_sameLines k _
  · split
    · exact s.answerAtOnce_sameLines k kind _
    · exact s.answerAtOnce_sameLines k kind _
    · split
      · exact s.updLine_sameLines k _
      · exact s.answerAtOnce_sameLines k kind _

theorem State.frameReady_sameLines (s : State) (k : Nat) (kind : List Byte) (f : TerminalFrame) :
    SameLinesBut k s (s.frameReady k kind f) := by
  have harm := s.updLine_sameLines k Line.armDim
  unfold State.frameReady
  dsimp only
  generalize s.updLine k Line.armDim = u at *
  split
  · exact harm.trans (u.updLine_sameLines k _)
  · have hclear := harm.trans (u.clearWithdrawn_sameLines k)
    generalize u.clearWithdrawn k = v at *
    split
    · exact hclear.trans (v.answerAtOnce_sameLines k kind _)
    · split
      · exact hclear.trans (v.answerAtOnce_sameLines k kind _)
      · exact hclear.trans (v.answerAtOnce_sameLines k kind _)
      · exact hclear.trans (v.updLine_sameLines k _)

theorem State.frameIn_sameLines (s : State) (k : Nat) (kind : List Byte) (f : TerminalFrame) :
    SameLinesBut k s (s.frameIn k kind f) := by
  have hnoted := s.noteUnknown_sameLines k f
  unfold State.frameIn
  split
  · exact fun _ _ => rfl
  · exact fun _ _ => rfl
  · exact hnoted.trans (State.frameIdle_sameLines _ k kind f)
  · refine hnoted.trans ?_
    unfold State.frameSigning
    split <;> exact State.updLine_sameLines _ k _
  · exact hnoted.trans (State.frameReady_sameLines _ k kind f)
  · exact ((s.wakeLine_sameLines k).trans (State.noteUnknown_sameLines _ k f)).trans (State.frameReady_sameLines _ k kind f)

theorem exec_terminalFrame {body : List Byte} (hkind : kind.length = 8) (hsize : (lineFrame kind body).length ≤ 4096)
    (hrx : (s.line k).rx = []) (hdim : (s.line k).state = .dim → (s.line k).service = none) :
    ∃ t, exec (.terminalFrameReceived k (lineFrame kind body)) s = .next t ∧ OnlyTouches [.lines] s t ∧ SameLinesBut k s t ∧
      t.line k = frameJudged t k kind (terminalFrame k kind body) (s.line k) := by
  have hexec : exec (.terminalFrameReceived k (lineFrame kind body)) s = execTerminalFrameReceived k (lineFrame kind body) s :=
    rfl
  rw [hexec, execTerminalFrameReceived]
  cases hreceiving : (s.line k).state.receiving with
  | false =>
    refine ⟨s, by rw [State.receiveAll_deaf hreceiving], .refl _ _, fun _ _ => rfl, ?_⟩
    unfold frameJudged
    cases hstate : (s.line k).state <;> rw [hstate] at hreceiving <;> first | rfl | cases hreceiving
  | true =>
    have htouch := s.frameIn_touches k kind (terminalFrame k kind body)
    refine ⟨_, by rw [State.receive_frame hreceiving hrx hkind hsize], htouch, s.frameIn_sameLines k kind _, ?_⟩
    exact State.frameIn_line htouch hdim terminalFrame_signon

theorem frameJudged_of_ready {t : State} {l : Line} {i : Instr} (hready : l.state = .ready) (hfree : l.service = none)
    (hsignon : i.kind ≠ kindWord "SIGNON") : frameJudged t k i.kind (.request i) l = { l with
      service := some { kind := i.kind, cmd := some i, stage := .waiting }
      dimTimer := dimSet l.dimTime
      withdrawn := none
      status := if l.withdrawn.isSome = true then (l.user.map fun u => t.statusLine k u none).or l.status else l.status } := by
  have htaken : answeredAtOnce false i.kind (.request i) = none := by simp [answeredAtOnce, hsignon]
  have hnoted : l.unknownNoted (.request i) = l := if_neg nofun
  simp only [frameJudged, hnoted, hready, hfree, htaken]
  rfl

/-- Settles O14: the characters come to the frame they carry, and the frame is judged by the table of R71. -/
theorem terminalFrameTakenIntoService : Obligations.TerminalFrameTakenIntoService := by
  refine ⟨fun s k i hwell hline hsignon hready hfree hrx => ?_, fun s k kind body => exec_terminalFrame⟩
  have hkind := kindWord_length_of_line hline
  have hsize : (lineFrame i.kind i.body).length ≤ 4096 := by
    rw [lineFrame_length hkind]
    exact Nat.add_le_add_right (Instr.body_length_le hwell hline) 12
  obtain ⟨t, hexec, htouch, hsame, hjudged⟩ := exec_terminalFrame hkind hsize hrx fun hdim => hfree
  rw [terminalFrame_reads hwell hline, frameJudged_of_ready hready hfree hsignon] at hjudged
  refine ⟨t, hexec, htouch, hsame, ?_, fun hwithdrawn => ?_⟩
  · rw [hjudged]
    rfl
  · rw [hjudged]
    simp [hwithdrawn]

end Taken

end Machine

end Sys2Proof

namespace Sys2Proof.Machine

/-! ### Frames discarded and frames sent (R69, R82, R179, R183) -/

section Discarded
variable {s : State} {k : Fin 32} {f : LineFault}

theorem State.lampLit_of_error {m : Nat} {l : Line} (hstate : l.state ≠ .disabled) (hsource : l.lampSource = .error) :
    s.lampLit m l = l.latches.any := by
  rw [State.lampLit]
  split
  next h => exact absurd h hstate
  next => simp only [hsource]

/-- An error latch set at a line, and its ERROR lamp where the latch was clear (R69, R99). -/
theorem State.setLatch_line (s : State) (k : Fin 32) (f : Latches → Latches) (hstate : (s.line k).state ≠ .disabled) :
    (s.setLatch k f).line k = { s.line k with
      latches := f (s.line k).latches
      lamp := if (s.line k).lampSource = .error ∧ f (s.line k).latches ≠ (s.line k).latches then (f (s.line k).latches).any
        else (s.line k).lamp } := by
  have hline := State.line_updLine_self s k.isLt fun l => { l with latches := f l.latches }
  unfold State.setLatch
  dsimp only
  generalize (s.updLine k fun l => { l with latches := f l.latches }) = t at *
  by_cases hsame : f (s.line k).latches = (s.line k).latches
  · rw [if_pos hsame, hline, if_neg fun h => h.2 hsame]
  · rw [if_neg hsame, State.line_lampIf_self]
    by_cases hsource : (s.line k).lampSource = .error
    · have hlit : t.lampLit k (t.line k) = (f (s.line k).latches).any := by
        rw [State.lampLit_of_error (by rw [hline]; exact hstate) (by rw [hline]; exact hsource), hline]
      rw [hlit, hline, if_pos hsource, if_pos ⟨hsource, hsame⟩]
    · rw [if_neg (by rw [hline]; exact hsource), hline, if_neg fun h => hsource h.1]

theorem State.setLatch_sameLines (s : State) (k : Nat) (f : Latches → Latches) : SameLinesBut k s (s.setLatch k f) := by
  unfold State.setLatch
  dsimp only
  split
  · exact s.updLine_sameLines k _
  · exact (s.updLine_sameLines k _).trans (State.lampIf_sameLines _ k _)

/-- A frame discarded at a line (R69): its latch, its lamp and the frame in progress. -/
theorem State.gateFault_line (s : State) (k : Fin 32) (f : LineFault) (hstate : (s.line k).state ≠ .disabled) :
    (s.gateFault k f).line k = { s.line k with
      rx := []
      latches := (s.line k).latches.record f
      lamp := if (s.line k).lampSource = .error ∧ (s.line k).latches.record f ≠ (s.line k).latches then
        ((s.line k).latches.record f).any else (s.line k).lamp } := by
  have hline := State.line_updLine_self s k.isLt fun l => { l with rx := [] }
  rw [State.gateFault, State.setLatch_line _ _ _ (by rw [hline]; exact hstate), hline]

theorem LineState.ne_disabled_of_receiving {l : LineState} (h : l.receiving = true) : l ≠ .disabled := by
  rintro rfl
  cases h

theorem exec_terminalFrameDiscarded (h : (s.line k).state.receiving = true) :
    exec (.terminalFrameDiscarded k f) s = .next (s.gateFault k f) := by
  have hexec : exec (.terminalFrameDiscarded k f) s = execTerminalFrameDiscarded k f s := rfl
  rw [hexec, execTerminalFrameDiscarded, if_pos h]

theorem exec_lineFrameSent (h : (s.line k).state.receiving = true) :
    exec (.lineFrameSent k) s = .next (s.updLine k Line.transmit) := by
  have hexec : exec (.lineFrameSent k) s = execLineFrameSent k s := rfl
  rw [hexec, execLineFrameSent, if_pos h]

/-- A DISABLED or LOST line neither receives nor sends (R68, R82). -/
theorem exec_of_deaf (h : (s.line k).state = .disabled ∨ (s.line k).state = .lost) :
    exec (.terminalFrameDiscarded k f) s = .next s ∧ exec (.lineFrameSent k) s = .next s := by
  have hdeaf : (s.line k).state.receiving ≠ true := by
    rcases h with h | h <;> rw [h] <;> decide
  have hdiscarded : exec (.terminalFrameDiscarded k f) s = execTerminalFrameDiscarded k f s := rfl
  have hsent : exec (.lineFrameSent k) s = execLineFrameSent k s := rfl
  rw [hdiscarded, execTerminalFrameDiscarded, if_neg hdeaf, hsent, execLineFrameSent, if_neg hdeaf]
  exact ⟨rfl, rfl⟩

/-! #### The host channel's transmitter (R183) -/

theorem exec_hostFrameSent_reply {r : Reply} {rest : List Reply} (h : s.channel.replies = r :: rest) :
    exec .hostFrameSent s = .next (s.withChannel (s.channel.sendReply r rest)) := by
  have hexec : exec .hostFrameSent s = execHostFrameSent s := rfl
  rw [hexec, execHostFrameSent, h]
  rfl

theorem exec_hostFrameSent_notice {n : Notice} {rest : List Notice} (hreplies : s.channel.replies = [])
    (hnotices : s.channel.notices = n :: rest) (hrestarting : s.channel.restarting = false) :
    exec .hostFrameSent s = .next { s.withChannel
      { s.channel with notices := rest, tx := some (noticeFrame (Config.filler s.choices) n) } with choices := s.choices + 1 } := by
  have hexec : exec .hostFrameSent s = execHostFrameSent s := rfl
  rw [hexec, execHostFrameSent, hreplies, hnotices]
  simp only [hrestarting, Bool.false_eq_true, if_false] <;> rfl

theorem exec_hostFrameSent_free (hreplies : s.channel.replies = [])
    (h : s.channel.notices = [] ∨ s.channel.restarting = true) :
    exec .hostFrameSent s = .next { s with channel := { s.channel with tx := none } } := by
  have hexec : exec .hostFrameSent s = execHostFrameSent s := rfl
  rw [hexec, execHostFrameSent, hreplies]
  cases hnotices : s.channel.notices with
  | nil => rfl
  | cons n rest =>
    have hrestarting := h.resolve_left (by rw [hnotices]; exact List.cons_ne_nil _ _)
    simp only [hrestarting, if_true]

end Discarded

/-- Settles O15: the two discards, then the two transmitters. -/
theorem framesDiscardedAndSent : Obligations.FramesDiscardedAndSent := by
  refine ⟨fun s f => ⟨_, rfl, State.withChannel_touches s _, ?_⟩, fun s k f hreceiving => ?_, fun s r rest h => ?_,
    fun s n rest hreplies hnotices hrestarting => ?_, fun s => exec_hostFrameSent_free, fun s k hreceiving => ?_,
    fun s k f => exec_of_deaf⟩
  · rfl
  · have hstate := LineState.ne_disabled_of_receiving hreceiving
    have hline := s.gateFault_line k f hstate
    refine ⟨_, exec_terminalFrameDiscarded hreceiving, s.gateFault_touches k f,
      (s.updLine_sameLines k _).trans (State.setLatch_sameLines _ k _), ?_, ?_, ?_⟩
    · rw [hline]
    · rw [hline]
      cases f <;> rfl
    · have hlit (h : (s.line k).lampSource = .error) :
          (s.gateFault k f).lampLit k ((s.gateFault k f).line k) = ((s.line k).latches.record f).any := by
        rw [State.lampLit_of_error (by rw [hline]; exact hstate) (by rw [hline]; exact h), hline]
      by_cases hsource : (s.line k).lampSource = .error
      · rw [hlit hsource, hline]
      · rw [if_neg fun h => hsource h.1, hline, if_neg fun h => hsource h.1]
  · refine ⟨_, exec_hostFrameSent_reply h, State.withChannel_touches s _, ?_⟩
    rw [State.withChannel_channel, Channel.sendReply, List.drop_one]
    rfl
  · refine ⟨_, exec_hostFrameSent_notice hreplies hnotices hrestarting, ?_, rfl, rfl⟩
    exact ((State.withChannel_touches s _).mono (by decide)).trans (State.setChoices_touches (s.withChannel _) _) (by decide)
  · refine ⟨_, exec_lineFrameSent hreceiving, s.updLine_touches k _, s.updLine_sameLines k _, ?_⟩
    rw [State.line_updLine_self _ k.isLt, Line.transmit]
    cases s.line k
    rename Option Answer => answer
    rename Option Display => display
    rename Option StatusLine => status
    cases answer <;> cases display <;> cases status <;> rfl

end Sys2Proof.Machine

/-! The law of baskets kept (R20 to R22): the law with one story left out, which departures, moves and arrivals carry from one to the
other. -/

namespace Sys2Proof.Machine

/-! ### What the law of baskets reads -/

section BasketView
variable {s t u : State} {n d : Nat}

/-- From `s` to `t` every story but `n` is in BASKET or not as it was, with its desk and its class, and the baskets and the users'
desks are as they were or lawful. -/
structure SameBaskets (n : Nat) (s t : State) : Prop where
  basketed : ∀ m, m ≠ n → ((t.story m).stage = .basket ↔ (s.story m).stage = .basket)
  desk : ∀ m, m ≠ n → (t.story m).desk = (s.story m).desk
  priority : ∀ m, m ≠ n → (t.story m).priority = (s.story m).priority
  basket : ∀ d, (t.desk d).basket = (s.desk d).basket
  urgent : ∀ d, (t.desk d).urgent = (s.desk d).urgent
  users : ∀ k, ∀ w ∈ (t.line k).user, (s.line k).user = some w ∨ w.desk < 16

/-- What moves none of these aspects leaves the view as it was. -/
theorem OnlyMoves.sameBaskets {as : List Aspect} (h : OnlyMoves as s t)
    (hout : ∀ a ∈ [Aspect.basketed, .storyDesk, .priority, .baskets, .user], a ∉ as := by decide) (n : Nat) :
    SameBaskets n s t where
  basketed m _ := (h .basketed (hout _ (by decide))).1 m
  desk m _ := (h .storyDesk (hout _ (by decide))).1 m
  priority m _ := (h .priority (hout _ (by decide))).1 m
  basket d := ((h .baskets (hout _ (by decide))).2.1 d).1
  urgent d := ((h .baskets (hout _ (by decide))).2.1 d).2
  users k w hw := .inl (((h .user (hout _ (by decide))).2.2.1 k).symm.trans hw)

theorem State.updStory_sameBaskets (s : State) (n : Nat) (f : Story → Story) : SameBaskets n s (s.updStory n f) where
  basketed m hm := by rw [State.story_updStory_ne _ hm]
  desk m hm := by rw [State.story_updStory_ne _ hm]
  priority m hm := by rw [State.story_updStory_ne _ hm]
  basket _ := rfl
  urgent _ := rfl
  users _ _ hw := .inl hw

/-- An update of a line that signs a user of a lawful desk on, or signs off, or keeps the user. -/
theorem State.updLine_sameBaskets (s : State) (k : Nat) {f : Line → Line}
    (h : ∀ w ∈ (f (s.line k)).user, (s.line k).user = some w ∨ w.desk < 16) (n : Nat) : SameBaskets n s (s.updLine k f) where
  basketed _ _ := Iff.rfl
  desk _ _ := rfl
  priority _ _ := rfl
  basket _ := rfl
  urgent _ := rfl
  users m w hw := by
    rw [State.line_updLine] at hw
    split at hw
    next hm => rw [hm.1]; exact h w hw
    next => exact .inl hw

/-! ### The law with one story left out -/

/-- The law of baskets of every story but `n`, which stands in no basket. -/
structure BasketLawBut (n : Nat) (s : State) : Prop where
  desks : ∀ d < 16, DeskLaw s d ∧ n ∉ (s.desk d).basket
  members : ∀ m ∈ storyIds, m ≠ n → (s.story m).stage = .basket → m ∈ (s.desk (s.story m).desk).basket
  home : ∀ m ∈ storyIds, m ≠ n → (s.story m).desk < 16
  users : ∀ k, ∀ w ∈ (s.line k).user, w.desk < 16

theorem State.users_iff {p : SignedOn → Prop} :
    (∀ l ∈ s.lines.toList, ∀ w ∈ l.user, p w) ↔ ∀ k, ∀ w ∈ (s.line k).user, p w := by
  constructor
  · intro h k w hw
    by_cases hk : k < 32
    · refine h (s.line k) ?_ w hw
      rw [State.line, Vector.getElem?_eq_getElem hk]
      exact Vector.mem_toList_iff.2 (Vector.getElem_mem hk)
    · rw [State.line_eq_reset _ hk] at hw
      cases hw
  · intro h l hl w hw
    obtain ⟨k, hk, rfl⟩ := Vector.mem_iff_getElem.1 (Vector.mem_toList_iff.1 hl)
    refine h k w ?_
    rw [State.line, Vector.getElem?_eq_getElem hk]
    exact hw

theorem BasketLaw.users (h : BasketLaw s) (k : Nat) : ∀ w ∈ (s.line k).user, w.desk < 16 := State.users_iff.1 h.2.2.2 k

/-- The law of a desk whose basket and stories are as they were. -/
theorem DeskLaw.congr (h : DeskLaw s d) (hbasket : (t.desk d).basket = (s.desk d).basket)
    (hurgent : (t.desk d).urgent = (s.desk d).urgent)
    (hstories : ∀ m ∈ (s.desk d).basket, ((t.story m).stage = .basket ↔ (s.story m).stage = .basket) ∧
      (t.story m).desk = (s.story m).desk ∧ (t.story m).priority = (s.story m).priority) : DeskLaw t d := by
  obtain ⟨hnodup, hsorted, hmembers, hcount⟩ := h
  have hrank (m : Nat) (hm : m ∈ (s.desk d).basket) : t.rankOf m = s.rankOf m := by
    rw [State.rankOf, State.rankOf, (hstories m hm).2.2]
  refine ⟨hbasket ▸ hnodup, ?_, fun m hm => ?_, ?_⟩
  · rw [hbasket]
    exact hsorted.imp_of_mem fun ha hb h => by rw [hrank _ ha, hrank _ hb]; exact h
  · rw [hbasket] at hm
    obtain ⟨hstage, hdesk, -⟩ := hstories m hm
    exact ⟨hstage.2 (hmembers m hm).1, hdesk.trans (hmembers m hm).2⟩
  · rw [hurgent, hcount, hbasket]
    exact List.countP_congr fun m hm => by rw [(hstories m hm).2.2]

theorem BasketLawBut.congr (h : BasketLawBut n s) (k : SameBaskets n s t) : BasketLawBut n t where
  desks d hd := by
    obtain ⟨hlaw, hout⟩ := h.desks d hd
    refine ⟨hlaw.congr (k.basket d) (k.urgent d) fun m hm => ?_, by rw [k.basket d]; exact hout⟩
    have hne : m ≠ n := fun h => hout (h ▸ hm)
    exact ⟨k.basketed m hne, k.desk m hne, k.priority m hne⟩
  members m hm hne hstage := by
    rw [k.desk m hne, k.basket]
    exact h.members m hm hne ((k.basketed m hne).1 hstage)
  home m hm hne := by
    rw [k.desk m hne]
    exact h.home m hm hne
  users l w hw := (k.users l w hw).elim (h.users l w) id

/-- A story that is not in BASKET may be left out. -/
theorem BasketLaw.but (h : BasketLaw s) (hstage : (s.story n).stage ≠ .basket) : BasketLawBut n s where
  desks d hd := by
    have hlaw := h.1 d hd
    obtain ⟨-, -, hmembers, -⟩ := hlaw
    exact ⟨h.1 d hd, fun hn => hstage (hmembers n hn).1⟩
  members m hm _ := h.2.1 m hm
  home m hm _ := h.2.2.1 m hm
  users := h.users

/-- A story that is not in BASKET, at a desk that there is, may be put back. -/
theorem BasketLawBut.whole (h : BasketLawBut n s) (hstage : (s.story n).stage ≠ .basket) (hdesk : (s.story n).desk < 16) :
    BasketLaw s := by
  refine ⟨fun d hd => (h.desks d hd).1, fun m hm hbasket => ?_, fun m hm => ?_, State.users_iff.2 h.users⟩
  · exact h.members m hm (fun heq => hstage (heq ▸ hbasket)) hbasket
  · by_cases heq : m = n
    · rw [heq]
      exact hdesk
    · exact h.home m hm heq

theorem State.story_zero (s : State) : s.story 0 = Story.freed := rfl

/-- Every story's desk is one that there is; a number that no story has reads as a FREE record of desk 0. -/
theorem BasketLaw.desk_lt (h : BasketLaw s) (n : Nat) : (s.story n).desk < 16 := by
  by_cases hfreed : s.story n = Story.freed
  · rw [hfreed]
    decide
  · exact h.2.2.1 n (mem_storyIds.2 (s.story_range hfreed))

theorem BasketLaw.same (h : BasketLaw s) (k : SameBaskets 0 s t) : BasketLaw t := by
  have hzero : (s.story 0).stage ≠ .basket := by rw [s.story_zero]; decide
  refine ((h.but hzero).congr k).whole ?_ ?_ <;> rw [t.story_zero] <;> decide

/-- What moves no aspect the law reads keeps it. -/
theorem BasketLaw.of_moves {as : List Aspect} (h : BasketLaw s) (hmoves : OnlyMoves as s t)
    (hout : ∀ a ∈ [Aspect.basketed, .storyDesk, .priority, .baskets, .user], a ∉ as := by decide) : BasketLaw t :=
  h.same (hmoves.sameBaskets hout 0)

theorem BasketLawBut.of_moves {as : List Aspect} (h : BasketLawBut n s) (hmoves : OnlyMoves as s t)
    (hout : ∀ a ∈ [Aspect.basketed, .storyDesk, .priority, .baskets, .user], a ∉ as := by decide) : BasketLawBut n t :=
  h.congr (hmoves.sameBaskets hout n)

/-- A change of one story's record, and of what the law does not read, leaves the law of the others. -/
theorem BasketLawBut.of_story {as : List Aspect} (h : BasketLawBut n s) (hothers : SameStoriesBut n s t)
    (hmoves : OnlyMoves as s t) (hout : ∀ a ∈ [Aspect.baskets, .user], a ∉ as := by decide) : BasketLawBut n t :=
  h.congr
    { basketed := fun m hm => by rw [hothers m hm]
      desk := fun m hm => by rw [hothers m hm]
      priority := fun m hm => by rw [hothers m hm]
      basket := fun d => ((hmoves .baskets (hout _ (by decide))).2.1 d).1
      urgent := fun d => ((hmoves .baskets (hout _ (by decide))).2.1 d).2
      users := fun k w hw => .inl (((hmoves .user (hout _ (by decide))).2.2.1 k).symm.trans hw) }

/-! ### Departures and arrivals (R21 to R24) -/

theorem insertByClass_perm (rank : Nat → Nat) (n : Nat) (basket : List Nat) :
    (insertByClass rank n basket).Perm (n :: basket) := by
  obtain ⟨before, after, hold, hnew, -, -⟩ := insertByClass_joined rank n basket
  rw [hnew, hold]
  exact List.perm_middle

/-- A basket in the order of its classes stays so (R21). -/
theorem insertByClass_sorted {rank : Nat → Nat} (n : Nat) {basket : List Nat}
    (h : basket.Pairwise fun a b => rank b ≤ rank a) : (insertByClass rank n basket).Pairwise fun a b => rank b ≤ rank a := by
  induction basket with
  | nil => exact List.pairwise_singleton _ _
  | cons m ms ih =>
    obtain ⟨hhead, htail⟩ := List.pairwise_cons.1 h
    by_cases hlow : rank m < rank n
    · rw [insertByClass, if_pos hlow]
      refine List.pairwise_cons.2 ⟨fun b hb => ?_, h⟩
      rcases List.mem_cons.1 hb with rfl | hb
      · exact Nat.le_of_lt hlow
      · exact (hhead b hb).trans (Nat.le_of_lt hlow)
    · rw [insertByClass, if_neg hlow]
      refine List.pairwise_cons.2 ⟨fun b hb => ?_, ih htail⟩
      rcases List.mem_cons.1 ((insertByClass_perm rank n ms).mem_iff.1 hb) with rfl | hb
      · exact Nat.le_of_not_lt hlow
      · exact hhead b hb

/-- The urgent count brought up to date at an arrival (R23). -/
theorem countIn_eq (s : State) (n : Nat) (basket : List Nat) :
    countIn (s.story n).priority (basket.countP fun m => (s.story m).priority.high) =
      (insertByClass s.rankOf n basket).countP fun m => (s.story m).priority.high := by
  rw [(insertByClass_perm _ _ _).countP_eq, List.countP_cons]
  unfold countIn
  split <;> rfl

/-- The urgent count brought up to date at a departure (R24). -/
theorem countOut_eq (s : State) {basket : List Nat} (h : n ∈ basket) :
    countOut (s.story n).priority (basket.countP fun m => (s.story m).priority.high) =
      (basket.erase n).countP fun m => (s.story m).priority.high := by
  rw [List.countP_erase]
  unfold countOut
  by_cases hhigh : (s.story n).priority.high = true
  · rw [if_pos hhigh, if_pos ⟨h, hhigh⟩]
  · rw [if_neg hhigh, if_neg fun hmem => hhigh hmem.2]
    rfl

/-- A story in BASKET has a record. -/
theorem State.mem_storyIds_of_basket (h : (s.story n).stage = .basket) : n ∈ storyIds :=
  mem_storyIds.2 (s.story_range fun heq => by rw [heq] at h; cases h)

/-- A story taken out of its basket leaves the others lawful. -/
theorem BasketLaw.leaveBasket (h : BasketLaw s) (hstage : (s.story n).stage = .basket) : BasketLawBut n (s.leaveBasket n) := by
  refine ⟨fun d hd => ?_, fun m hm hne hbasket => ?_, fun m hm _ => h.2.2.1 m hm, h.users⟩
  · obtain ⟨hnodup, hsorted, hmembers, hcount⟩ := h.1 d hd
    by_cases hown : d = (s.story n).desk
    · have hdesk : (s.leaveBasket n).desk d = _ := (s.leaveBasket_desk n d).trans (if_pos ⟨hown, hd⟩)
      have hmem : n ∈ (s.desk d).basket := by
        rw [hown]
        exact h.2.1 n (State.mem_storyIds_of_basket hstage) hstage
      refine ⟨⟨?_, ?_, fun m hm => ?_, ?_⟩, ?_⟩ <;> rw [hdesk] at *
      · exact hnodup.erase n
      · exact hsorted.sublist List.erase_sublist
      · exact hmembers m (List.mem_of_mem_erase hm)
      · rw [hcount]
        exact countOut_eq s hmem
      · exact hnodup.not_mem_erase
    · have hdesk : (s.leaveBasket n).desk d = _ := (s.leaveBasket_desk n d).trans (if_neg fun h => hown h.1)
      refine ⟨DeskLaw.congr (h.1 d hd) (by rw [hdesk]) (by rw [hdesk]) fun m _ => ⟨Iff.rfl, rfl, rfl⟩, ?_⟩
      rw [hdesk]
      exact fun hn => hown (hmembers n hn).2.symm
  · have hold := h.2.1 m hm hbasket
    change m ∈ ((s.leaveBasket n).desk (s.story m).desk).basket
    rw [State.leaveBasket_desk]
    split
    · exact (List.mem_erase_of_ne hne).2 hold
    · exact hold

/-- An arrival of a story in BASKET at the basket of its desk. -/
theorem BasketLawBut.arrive (h : BasketLawBut n s) (hstage : (s.story n).stage = .basket)
    (hdesk : (s.story n).desk < 16) : BasketLaw (s.arrive n) := by
  have hstory (m : Nat) : (s.arrive n).story m = s.story m := (s.arrive_touches n).story m
  have hrank : (s.arrive n).rankOf = s.rankOf := State.rankOf_congr fun m => by rw [hstory]
  refine ⟨fun d hd => ?_, fun m hm hbasket => ?_, fun m hm => ?_, State.users_iff.2 fun k w hw => ?_⟩
  · obtain ⟨⟨hnodup, hsorted, hmembers, hcount⟩, hout⟩ := h.desks d hd
    have hnew := (s.arrive_desk n d).trans (s.joinBasket_desk n d)
    by_cases hown : d = (s.story n).desk
    · rw [if_pos ⟨hown, hd⟩] at hnew
      have hperm := insertByClass_perm s.rankOf n (s.desk d).basket
      refine ⟨?_, ?_, fun m hm => ?_, ?_⟩ <;> rw [hnew] at *
      · exact hperm.nodup_iff.2 (List.nodup_cons.2 ⟨hout, hnodup⟩)
      · rw [hrank]
        exact insertByClass_sorted n hsorted
      · rw [hstory]
        rcases List.mem_cons.1 (hperm.mem_iff.1 hm) with rfl | hm
        · exact ⟨hstage, hown.symm⟩
        · exact hmembers m hm
      · simp only [hstory, hcount]
        exact countIn_eq s n _
    · rw [if_neg fun h => hown h.1] at hnew
      exact DeskLaw.congr (h.desks d hd).1 (by rw [hnew]) (by rw [hnew]) fun m _ => by rw [hstory]; exact ⟨Iff.rfl, rfl, rfl⟩
  · rw [hstory] at hbasket ⊢
    rw [State.arrive_desk, State.joinBasket_desk]
    by_cases heq : m = n
    · rw [heq, if_pos ⟨rfl, hdesk⟩]
      exact (insertByClass_perm _ _ _).mem_iff.2 List.mem_cons_self
    · have hold := h.members m hm heq hbasket
      split
      · exact (insertByClass_perm _ _ _).mem_iff.2 (List.mem_cons_of_mem _ hold)
      · exact hold
  · rw [hstory]
    by_cases heq : m = n
    · rw [heq]
      exact hdesk
    · exact h.home m hm heq
  · have huser := (s.arrive_moves n .user (by decide)).2.2.1 k
    exact h.users k w (huser ▸ hw)

end BasketView

end Sys2Proof.Machine

/-! The law of baskets kept by every command (R20 to R22). -/

namespace Sys2Proof.Machine

section Moves
variable {s : State} {n d k : Nat}

/-! ### Stories that move between the stages -/

theorem BasketLaw.depart (h : BasketLaw s) (hstage : (s.story n).stage = .basket) : BasketLawBut n (s.depart n) :=
  (h.leaveBasket hstage).of_moves ((State.refresh_moves _ _).step (State.lamps_moves _ _))

theorem State.depart_story (s : State) (n m : Nat) : (s.depart n).story m = s.story m := (s.depart_touches n).story m

/-- A story that is in no basket goes to SPIKED (R25). -/
theorem BasketLawBut.enterSpiked (h : BasketLawBut n s) (hn : 1 ≤ n ∧ n ≤ 512) (hdesk : (s.story n).desk < 16) :
    BasketLaw (s.enterSpiked n) := by
  have hstory := State.enterSpiked_story (s := s) hn
  refine (h.of_story (s.enterSpiked_sameStories n) (s.enterSpiked_moves n)).whole ?_ ?_ <;> rw [hstory]
  · exact nofun
  · exact hdesk

/-- A new story, not yet in its basket (R9). -/
theorem BasketLaw.makeStory (h : BasketLaw s) (hfree : s.lowestFree = some n) (slug : List Byte) (desk style : Nat)
    (p : Priority) : BasketLawBut n (s.makeStory n slug desk style p) := by
  have hstage := s.lowestFree_free hfree
  refine (h.but ?_).of_story (State.makeStory_sameStories slug desk style p) (s.makeStory_moves hstage slug desk style p)
  rw [hstage]
  decide

theorem BasketLaw.route (h : BasketLaw s) (hn : 1 ≤ n ∧ n ≤ 512) (hstage : (s.story n).stage = .basket) (hd : d < 16) :
    BasketLaw (s.route n d) := by
  unfold State.route
  split
  · exact (h.leaveBasket hstage).arrive hstage (h.desk_lt n)
  · have hstory := State.story_updStory_self (s.depart n) hn fun r => { r with desk := d }
    rw [s.depart_story] at hstory
    refine ((h.depart hstage).congr (State.updStory_sameBaskets _ n _)).arrive ?_ ?_ <;> rw [hstory]
    · exact hstage
    · exact hd

theorem BasketLaw.reclass (h : BasketLaw s) (p : Priority) : BasketLaw (s.reclass n p) := by
  unfold State.reclass
  split
  next hstage =>
    have hn := mem_storyIds.1 (State.mem_storyIds_of_basket hstage)
    have hstory := State.story_updStory_self (s.leaveBasket n) hn fun r => { r with priority := p }
    refine ((h.leaveBasket hstage).congr (State.updStory_sameBaskets _ n _)).arrive ?_ ?_ <;> rw [hstory]
    · exact hstage
    · exact h.desk_lt n
  next hstage =>
    have hmoves := s.setPriority_moves n p
    refine ((h.but hstage).congr (s.updStory_sameBaskets n _)).whole ?_ ?_
    · exact mt ((hmoves .basketed (by decide)).1 n).1 hstage
    · rw [show _ = (s.story n).desk from (hmoves .storyDesk (by decide)).1 n]
      exact h.desk_lt n

theorem BasketLaw.spike (h : BasketLaw s) (hstage : (s.story n).stage = .basket) : BasketLaw (s.spike n) := by
  refine (h.depart hstage).enterSpiked (mem_storyIds.1 (State.mem_storyIds_of_basket hstage)) ?_
  rw [s.depart_story]
  exact h.desk_lt n

theorem BasketLaw.returnSpiked (h : BasketLaw s) (hn : 1 ≤ n ∧ n ≤ 512) (hstage : (s.story n).stage = .spiked) :
    BasketLaw (s.returnSpiked n) := by
  have hbut : BasketLawBut n (s.leaveSpikes n) := (h.but (by rw [hstage]; decide)).of_moves (s.leaveSpikes_moves n)
  have hstory := State.story_updStory_self (s.leaveSpikes n) hn fun r => { r with stage := .basket }
  have hmoves := State.makeStale_moves ((s.leaveSpikes n).updStory n fun r => { r with stage := .basket }) n
  refine ((hbut.congr (State.updStory_sameBaskets _ n _)).of_moves hmoves).arrive ?_ ?_
  · exact ((hmoves .basketed (by decide)).1 n).2 (by rw [hstory])
  · rw [show _ = _ from (hmoves .storyDesk (by decide)).1 n, hstory]
    exact h.desk_lt n

theorem BasketLaw.kill (h : BasketLaw s) (hn : 1 ≤ n ∧ n ≤ 512) (hstage : (s.story n).stage ≠ .basket) (before : State) :
    BasketLaw (State.kill before s n) := by
  unfold State.kill
  split
  · exact (h.but hstage).enterSpiked hn (h.desk_lt n)
  next run _ =>
    have hmoves := s.killReturn_moves run.page
    have hback : BasketLaw (s.killReturn run.page) := h.of_moves hmoves
    have hstill : ((s.killReturn run.page).story n).stage ≠ .basket := mt ((hmoves .basketed (by decide)).1 n).1 hstage
    exact (((hback.but hstill).enterSpiked hn (hback.desk_lt n)).of_moves (State.judge_moves _ _)).of_moves
      (State.noticeFit_moves _ before _)

/-- A story put on a page (R131). -/
theorem BasketLaw.place (h : BasketLaw s) (hn : 1 ≤ n ∧ n ≤ 512) (g : Nat) (run : List Nat) : BasketLaw (s.place n g run) := by
  have hbut : BasketLawBut n (if (s.story n).stage = .basket then s.depart n else s.emptySlots g n) ∧
      ((if (s.story n).stage = .basket then s.depart n else s.emptySlots g n).story n).desk < 16 := by
    split
    next hstage => exact ⟨h.depart hstage, by rw [s.depart_story]; exact h.desk_lt n⟩
    next hstage => exact ⟨(h.but hstage).of_moves (s.emptySlots_moves g n), h.desk_lt n⟩
  unfold State.place
  generalize (if (s.story n).stage = .basket then s.depart n else s.emptySlots g n) = t at hbut
  obtain ⟨hlaw, hdesk⟩ := hbut
  have hstory := t.story_updStory_self hn fun r => { r with stage := .placed, run := some { page := g, slots := run } }
  have hplaced : BasketLaw (t.updStory n fun r => { r with stage := .placed, run := some { page := g, slots := run } }) := by
    refine (hlaw.congr (t.updStory_sameBaskets n _)).whole ?_ ?_ <;> rw [hstory]
    · exact nofun
    · exact hdesk
  exact hplaced.of_moves (OnlyMoves.step (OnlyMoves.step (OnlyMoves.step (OnlyMoves.step (bs := [.storyFit, .changed, .fitQueue, .pageFit])
    (OnlyMoves.mono (bs := [.slots, .storyFit, .changed, .fitQueue, .pageFit])
      (State.updPage_moves _ (Page.keeps_slots (Page.occupy_eq n run 1 _)))) (State.makeStale_moves _ n))
    (State.judge_moves _ g)) (State.lampHolder_moves _ n)) (State.noticeFit_moves _ s g))

/-- A story taken off its page and back to its basket (R132). -/
theorem BasketLaw.unplace (h : BasketLaw s) (hn : 1 ≤ n ∧ n ≤ 512) (hstage : (s.story n).stage = .placed) (g : Nat) :
    BasketLaw (s.unplace n g) := by
  have hbut : BasketLawBut n (s.emptySlots g n) := (h.but (by rw [hstage]; decide)).of_moves (s.emptySlots_moves g n)
  have hstory := State.story_updStory_self (s.emptySlots g n) hn fun r => { r with stage := .basket, run := none }
  have harrive : BasketLaw (((s.emptySlots g n).updStory n fun r => { r with stage := .basket, run := none }).arrive n) := by
    refine (hbut.congr (State.updStory_sameBaskets _ n _)).arrive ?_ ?_ <;> rw [hstory]
    exact h.desk_lt n
  exact harrive.of_moves ((((State.makeStale_moves _ n).step (State.judge_moves _ g)).step (State.lampHolder_moves _ n)).step
    (State.noticeFit_moves _ s g))

/-- A story freed (R17). -/
theorem BasketLaw.freeStory (h : BasketLaw s) (hn : 1 ≤ n ∧ n ≤ 512) (hstage : (s.story n).stage ≠ .basket) :
    BasketLaw (s.freeStory n) := by
  refine ((h.but hstage).of_story State.freeStory_sameStories (s.freeStory_moves n)).whole ?_ ?_ <;>
    rw [State.freeStory_story, if_pos ⟨rfl, hn⟩] <;> decide

/-! ### The rules that move them -/

theorem BasketLaw.create (h : BasketLaw s) {slug : List Byte} {desk style priority : Nat} :
    BasketLaw (s.create slug desk style priority).2.2 := by
  unfold State.create
  split
  · exact h
  next p _ =>
    split
    next hok =>
      split
      · exact h
      next n hfree =>
        have hstory := State.makeStory_story (s := s) (State.lowestFree_range hfree) slug desk style p
        simp only [Bool.and_eq_true] at hok
        refine (h.makeStory hfree slug desk style p).arrive ?_ ?_ <;> rw [hstory]
        exact Nat.lt_succ_of_le ((deskOk_iff desk).1 hok.1.2)
    · exact h

theorem BasketLaw.newStory (h : BasketLaw s) {slug : List Byte} {style priority : Nat} :
    BasketLaw (s.newStory k slug style priority).2.2 := by
  unfold State.newStory
  split
  · exact h
  next p _ =>
    split
    · split
      · exact h
      next u huser =>
        split
        · exact h
        · split
          · exact h
          next n hfree =>
            have hstory := State.makeStory_story (s := s) (State.lowestFree_range hfree) slug u.desk style p
            have hmoves := (s.makeStory n slug u.desk style p).takeHold_moves k n
            have hheld := (h.makeStory hfree slug u.desk style p).of_moves hmoves
            refine (hheld.arrive ?_ ?_).of_moves (State.putWindow_moves _ k n 0)
            · exact ((hmoves .basketed (by decide)).1 n).2 (by rw [hstory])
            · rw [show _ = _ from (hmoves .storyDesk (by decide)).1 n, hstory]
              exact h.users k u huser
    · exact h

theorem BasketLaw.hostRoute (h : BasketLaw s) : BasketLaw (s.hostRoute n d).2.2 := by
  have hmoves := s.releaseChannel_moves n
  unfold State.hostRoute
  split
  · exact h
  next hok =>
    simp only [Bool.not_eq_true', Bool.not_eq_false, Bool.and_eq_true] at hok
    split
    · exact h
    next hstage =>
      split
      · exact h
      · exact (h.of_moves hmoves).route ((storyOk_iff n).1 hok.1) (((hmoves .basketed (by decide)).1 n).2 hstage)
          (Nat.lt_succ_of_le ((deskOk_iff d).1 hok.2))
    · exact h

theorem BasketLaw.lineRoute (h : BasketLaw s) : BasketLaw (s.lineRoute k n d).2.2 := by
  have hmoves := s.releaseOwn_moves k n
  unfold State.lineRoute
  dsimp only
  split
  · exact h
  next hok =>
    simp only [Bool.not_eq_true', Bool.not_eq_false, Bool.and_eq_true] at hok
    split
    · exact h
    next hstage =>
      split
      · exact h
      · split
        · exact h
        · exact (h.of_moves hmoves).route ((storyOk_iff n).1 hok.1) (((hmoves .basketed (by decide)).1 n).2 hstage)
            (Nat.lt_succ_of_le ((deskOk_iff d).1 hok.2))
    · exact h

theorem BasketLaw.hostPriority (h : BasketLaw s) {priority : Nat} : BasketLaw (s.hostPriority n priority).2.2 := by
  unfold State.hostPriority
  repeat' split
  all_goals first
    | exact h
    | exact h.reclass _

theorem BasketLaw.linePriority (h : BasketLaw s) {priority : Nat} : BasketLaw (s.linePriority k priority).2.2 := by
  unfold State.linePriority
  repeat' split
  all_goals first
    | exact h
    | exact h.reclass _

theorem BasketLaw.hostSpike (h : BasketLaw s) : BasketLaw (s.hostSpike n).2.2 := by
  have hmoves := s.releaseChannel_moves n
  unfold State.hostSpike
  split
  · exact h
  · split
    · exact h
    next hstage =>
      split
      · exact h
      · exact (h.of_moves hmoves).spike (((hmoves .basketed (by decide)).1 n).2 hstage)
    · exact h

theorem BasketLaw.lineSpike (h : BasketLaw s) : BasketLaw (s.lineSpike k n).2.2 := by
  have hmoves := s.releaseOwn_moves k n
  unfold State.lineSpike
  dsimp only
  by_cases hstage : (s.story n).stage = .basket
  · have hspiked := (h.of_moves hmoves).spike (((hmoves .basketed (by decide)).1 n).2 hstage)
    repeat' split
    all_goals first
      | exact h
      | exact hspiked
  · rw [if_pos hstage]
    repeat' split
    all_goals exact h

theorem BasketLaw.unspike (h : BasketLaw s) : BasketLaw (s.unspike n).2.2 := by
  unfold State.unspike
  split
  · exact h
  next hok =>
    simp only [Bool.not_eq_true', Bool.not_eq_false] at hok
    split
    · exact h
    next hstage => exact h.returnSpiked ((storyOk_iff n).1 hok) hstage
    · exact h

theorem Stage.ne_basket_of_onPage {g : Stage} (h : g.onPage = true) : g ≠ .basket := by
  rintro rfl
  cases h

theorem BasketLaw.hostKill (h : BasketLaw s) : BasketLaw (s.hostKill n).2.2 := by
  have hmoves := s.releaseChannel_moves n
  unfold State.hostKill
  dsimp only
  split
  · exact h
  next hok =>
    simp only [Bool.not_eq_true', Bool.not_eq_false] at hok
    split
    · exact h
    · split
      · exact h
      next hpage =>
        simp only [Bool.not_eq_true', Bool.not_eq_false] at hpage
        split
        · exact h
        · exact (h.of_moves hmoves).kill ((storyOk_iff n).1 hok)
            (mt ((hmoves .basketed (by decide)).1 n).1 (Stage.ne_basket_of_onPage hpage)) s

theorem BasketLaw.lineKill (h : BasketLaw s) : BasketLaw (s.lineKill k n).2.2 := by
  have hmoves := s.releaseOwn_moves k n
  unfold State.lineKill
  dsimp only
  split
  · exact h
  next hok =>
    simp only [Bool.not_eq_true', Bool.not_eq_false] at hok
    split
    · exact h
    · split
      · exact h
      · split
        · exact h
        next hpage =>
          simp only [Bool.not_eq_true', Bool.not_eq_false] at hpage
          have hkilled := (h.of_moves hmoves).kill ((storyOk_iff n).1 hok)
            (mt ((hmoves .basketed (by decide)).1 n).1 (Stage.ne_basket_of_onPage hpage)) s
          split
          · exact h
          · split
            · exact h
            · exact hkilled

theorem BasketLaw.placeStory (h : BasketLaw s) {g : Nat} {run : List Nat} : BasketLaw (s.placeStory n g run).2.2 := by
  unfold State.placeStory
  dsimp only
  split
  · exact h
  next hok =>
    simp only [Bool.not_eq_true', Bool.not_eq_false, Bool.and_eq_true] at hok
    have hplaced := h.place ((storyOk_iff n).1 hok.1.1) g run
    repeat' split
    all_goals first
      | exact h
      | exact hplaced

theorem BasketLaw.unplaceStory (h : BasketLaw s) : BasketLaw (s.unplaceStory n).2.2 := by
  unfold State.unplaceStory
  dsimp only
  split
  · exact h
  next hok =>
    simp only [Bool.not_eq_true', Bool.not_eq_false] at hok
    split
    · exact h
    · split
      next run hstage hrun =>
        split
        · exact h
        · exact h.unplace ((storyOk_iff n).1 hok) hstage _
      · exact h

theorem BasketLaw.purge (h : BasketLaw s) : BasketLaw (s.purge n).2.2 := by
  unfold State.purge
  dsimp only
  split
  · exact h
  next hok =>
    simp only [Bool.not_eq_true', Bool.not_eq_false] at hok
    split
    · exact h
    next hstage => exact h.freeStory ((storyOk_iff n).1 hok) (by rw [hstage]; decide)
    next hstage => exact h.freeStory ((storyOk_iff n).1 hok) (by rw [hstage]; decide)
    · exact h

/-! ### Users who come and go -/

theorem BasketLaw.updLine (h : BasketLaw s) (k : Nat) {f : Line → Line}
    (husers : ∀ w ∈ (f (s.line k)).user, (s.line k).user = some w ∨ w.desk < 16) : BasketLaw (s.updLine k f) :=
  h.same (s.updLine_sameBaskets k husers 0)

theorem BasketLaw.shutLine (h : BasketLaw s) : BasketLaw (s.shutLine k) := by
  have hshut : BasketLaw (((s.releaseHeld k).updLine k Line.disable).unseeLine k) :=
    ((h.of_moves (s.releaseHeld_moves k)).updLine k (by exact nofun)).of_moves (State.unseeLine_moves _ k)
  unfold State.shutLine
  dsimp only
  split
  · exact hshut.of_moves (State.raise_moves _ _)
  · exact hshut

theorem BasketLaw.lineoff (h : BasketLaw s) : BasketLaw (s.lineoff k).2.2 := by
  unfold State.lineoff
  repeat' split
  all_goals first
    | exact h
    | exact h.shutLine

theorem BasketLaw.signoff (h : BasketLaw s) : BasketLaw (s.signoff k).2.2 :=
  (((h.of_moves (s.releaseHeld_moves k)).updLine k (by exact nofun)).of_moves (State.unseeLine_moves _ k)).of_moves
    (State.lampAnew_moves _ k)

theorem BasketLaw.loseCarrier (h : BasketLaw s) : BasketLaw (s.loseCarrier k) :=
  ((((h.of_moves (s.orphanHeld_moves k)).updLine k (by exact nofun)).of_moves (State.unseeLine_moves _ k)).of_moves
    (State.lampAnew_moves _ k)).of_moves (State.raise_moves _ _)

/-- A user signed on at a desk that there is (R76). -/
theorem BasketLaw.grant (h : BasketLaw s) {user : Nat} (hd : d < 16) (role : Role) : BasketLaw (s.grant k user d role) := by
  have hopen : BasketLaw (s.updLine k fun l => { l with signonTimer := none, outcome := .granted }) :=
    h.updLine k fun w hw => .inl hw
  have hhold := (hopen.of_moves (State.releaseStranger_moves _ k user)).of_moves (State.resumeFor_moves _ k user)
  have huser := hhold.updLine k
    (f := fun l => { l with state := .ready, user := some { user := user, desk := d, role := role } })
    fun w hw => .inr (by cases hw; exact hd)
  have hjoined := huser.of_moves (State.joinFlashes_touches _ k d).moves
  exact ((((hjoined.of_moves (State.answerService_moves _ k _ _ _)).of_moves (State.putHome_moves _ k d 0)).of_moves
    (State.refresh_moves _ _)).updLine k fun w hw => .inl hw).of_moves (State.lampAnew_moves _ k)

theorem BasketLaw.verdictGrant (h : BasketLaw s) {role : Nat} : BasketLaw (s.verdictGrant k d role).2.2 := by
  unfold State.verdictGrant
  split
  · exact h
  · split
    · exact h
    next hok =>
      simp only [Bool.not_eq_true', Bool.not_eq_false, Bool.and_eq_true] at hok
      split
      · exact h.grant (Nat.lt_succ_of_le ((deskOk_iff d).1 hok.2)) _
      · rw [s.lateVerdict_state k]
        exact h

/-- RESTART signs every user off (R84). -/
theorem BasketLaw.restartLines (h : BasketLaw s) : BasketLaw s.restartLines := by
  refine h.same ⟨fun _ _ => Iff.rfl, fun _ _ => rfl, fun _ _ => rfl, fun _ => rfl, fun _ => rfl, fun k w hw => ?_⟩
  by_cases hk : k < 32
  · simp [State.restartLines, State.line, hk, Line.disable, Line.cut] at hw
  · rw [State.line_eq_reset _ hk] at hw
    cases hw

theorem BasketLaw.restart (h : BasketLaw s) : BasketLaw s.restart := by
  have hrecords : BasketLaw s.restartRecords :=
    (((h.of_moves (State.restartHolds_moves s)).restartLines).of_moves (State.restartFit_moves _)).of_moves
      (.foldl State.restartPage_moves _ _)
  rw [s.restart_eq]
  generalize s.restartRecords = u at hrecords ⊢
  exact (hrecords.of_moves u.restartOutput_moves).of_moves
    (State.setChannel_touches { u with output := u.output.restart } u.channel.restart).moves_channel

/-- Right after reset every basket is empty and every record FREE (R18, R40). -/
theorem BasketLaw.of_reset (hstories : s.stories = State.reset.stories) (hdesks : s.desks = State.reset.desks)
    (husers : ∀ k, (s.line k).user = none) : BasketLaw s := by
  have hfreed := State.chains_of_reset hstories
  have hdesk (d : Nat) : (s.desk d).basket = [] ∧ (s.desk d).urgent = 0 := by
    by_cases hd : d < 16 <;> simp [State.desk, hdesks, State.reset, hd]
  refine ⟨fun d _ => ?_, fun n _ hn => ?_, fun n _ => ?_, State.users_iff.2 fun k w hw => ?_⟩
  · unfold DeskLaw
    rw [(hdesk d).1, (hdesk d).2]
    exact ⟨List.nodup_nil, List.Pairwise.nil, nofun, rfl⟩
  · rw [hfreed] at hn
    cases hn
  · rw [hfreed]
    decide
  · rw [husers] at hw
    cases hw

end Moves

/-! ### The law kept by every command -/

section Kept
variable {P : State → Prop} {s t : State}

/-- What a line's state and its request in service cannot break is kept by a terminal request whose rule keeps it. -/
theorem lineStep_keeps_of_moves {k : Fin 32} {i : Instr} {act : State → Verdict}
    (hline : ∀ s t, P s → OnlyMoves [.lineState, .service] s t → P t) (hact : ∀ s, P s → P (act s).2.2) (hs : P s)
    (hstep : lineStep k i act s = .next t) : P t := by
  cases hstep
  have hfound : P (s.offerFrame k i) := hline _ _ hs (s.offerFrame_moves k i).mono
  unfold State.serveLine
  dsimp only
  split
  · exact hline _ _ (hact _ hfound) (State.answerService_moves _ k _ _ _).mono
  · exact hfound

theorem BasketLaw.exec (i : Instr) (s t : State) (h : BasketLaw s) (hstep : exec i s = .next t) : BasketLaw t := by
  have hchannel (s : State) (c : Channel) (h : BasketLaw s) : BasketLaw { s with channel := c } :=
    h.of_moves (s.setChannel_touches c).moves_channel
  have hline (s t : State) (h : BasketLaw s) (hmoves : OnlyMoves [.lineState, .service] s t) : BasketLaw t := h.of_moves hmoves
  cases i
  case create => exact hostStep_keeps hchannel (fun _ h => h.create) h hstep
  case new => exact lineStep_keeps_of_moves hline (fun _ h => h.newStory) h hstep
  case purge => exact hostStep_keeps hchannel (fun _ h => h.purge) h hstep
  case hostRoute => exact hostStep_keeps hchannel (fun _ h => h.hostRoute) h hstep
  case terminalRoute => exact lineStep_keeps_of_moves hline (fun _ h => h.lineRoute) h hstep
  case hostPriority => exact hostStep_keeps hchannel (fun _ h => h.hostPriority) h hstep
  case terminalPriority => exact lineStep_keeps_of_moves hline (fun _ h => h.linePriority) h hstep
  case hostSpike => exact hostStep_keeps hchannel (fun _ h => h.hostSpike) h hstep
  case terminalSpike => exact lineStep_keeps_of_moves hline (fun _ h => h.lineSpike) h hstep
  case unspike => exact hostStep_keeps hchannel (fun _ h => h.unspike) h hstep
  case hostKill => exact hostStep_keeps hchannel (fun _ h => h.hostKill) h hstep
  case terminalKill => exact lineStep_keeps_of_moves hline (fun _ h => h.lineKill) h hstep
  case place => exact hostStep_keeps hchannel (fun _ h => h.placeStory) h hstep
  case unplace => exact hostStep_keeps hchannel (fun _ h => h.unplaceStory) h hstep
  case lineoff => exact hostStep_keeps hchannel (fun _ h => h.lineoff) h hstep
  case verdictGrant => exact hostStep_keeps hchannel (fun _ h => h.verdictGrant) h hstep
  case signoff => exact lineStep_keeps_of_moves hline (fun _ h => h.signoff) h hstep
  case carrierDrop k =>
    cases hstep
    split
    · exact h.loseCarrier
    · exact h.updLine k fun w hw => .inl hw
  case restartTakesEffect =>
    cases hstep
    split
    · exact h.restart
    · exact h
  case powerReset =>
    cases hstep
    refine .of_reset rfl rfl fun k => ?_
    by_cases hk : k < 32
    · simp [State.line, hk, Line.reset]
    · rw [State.line_eq_reset _ hk]
      rfl
  all_goals
    obtain ⟨u, hnext, hmoves⟩ := exec_moves _ s
    cases hnext.symm.trans hstep
    exact h.of_moves hmoves (of_decide_eq_true rfl)

end Kept

/-- Settles O10: arrivals, departures and moves between stages keep every basket in order and every story in BASKET in its own; no
other command moves a story into or out of BASKET. -/
theorem basketLawKept : Obligations.BasketLawKept :=
  step_keeps (fun _ _ h => h) BasketLaw.exec

end Sys2Proof.Machine

/-! Every law holds right after power reset (R18, R40, R59, R83, R101, R125, R144, R166, R167, R189). -/

namespace Sys2Proof.Machine

section Powered
variable (s : State)

theorem State.powered_every_story (n : Nat) : s.powered.story n = Story.freed := State.chains_of_reset rfl n

theorem State.powered_every_line (k : Nat) : ∃ b, s.powered.line k = { Line.reset with carrier := b } := by
  by_cases hk : k < 32
  · exact ⟨_, s.powered_line hk⟩
  · exact ⟨false, State.line_eq_reset _ hk⟩

theorem State.powered_holdLaw : HoldLaw s.powered := by
  refine ⟨fun n _ h => ?_, fun n _ k hk => ?_, fun k _ => ?_⟩
  · rw [s.powered_every_story] at h
    exact absurd rfl h
  · rw [s.powered_every_story] at hk
    cases hk
  · obtain ⟨b, hline⟩ := s.powered_every_line k
    rw [hline]
    exact ⟨nofun, ⟨nofun, fun h => h.elim nofun nofun⟩, nofun, nofun⟩

theorem State.powered_fitLaw : FitLaw s.powered := by
  refine ⟨List.nodup_nil, nofun, nofun, fun n _ => ?_⟩
  rw [s.powered_every_story]
  exact ⟨nofun, ⟨nofun, nofun⟩, nofun, ⟨fun _ => .inl rfl, fun _ => rfl⟩, fun h => h.elim nofun nofun, nofun⟩

theorem Page.shut_slot (k : Nat) : Page.shut.slot k = none := by
  cases k with
  | zero => rfl
  | succ m => by_cases hm : m < 16 <;> simp [Page.slot, Page.shut, hm]

theorem Page.shut_stories : Page.shut.stories = [] := by decide

theorem State.powered_slotLaw : SlotLaw s.powered := by
  refine ⟨fun g hg k _ sl hsl => ?_, fun n _ => ?_⟩
  · rw [s.powered_page hg, Page.shut_slot] at hsl
    cases hsl
  · rw [s.powered_every_story]
    exact ⟨⟨nofun, fun h => h.elim nofun fun h => h.elim nofun nofun⟩, nofun⟩

theorem State.powered_pageLaw : PageLaw s.powered := by
  intro g hg
  have hagrees : PageAgrees g s.powered := by
    unfold PageAgrees
    rw [s.powered_page hg, Page.shut_stories]
    exact ⟨List.nodup_nil, nofun⟩
  refine ⟨hagrees, ?_, ?_, fun _ => s.powered_page hg⟩
  · rw [s.powered_page hg, State.judgement, Page.shut_stories]
    rfl
  · rw [s.powered_page hg]
    exact nofun

theorem State.powered_spikeLaw : SpikeLaw s.powered := by
  refine ⟨fun d hd => ?_, fun n _ h => ?_⟩
  · rw [s.powered_desk hd]
    exact ⟨List.nodup_nil, nofun⟩
  · rw [s.powered_every_story] at h
    cases h

theorem State.powered_jobLaw : JobLaw s.powered := by
  refine ⟨List.nodup_nil, fun g hg => ?_, nofun, fun p _ => ?_⟩
  · rw [s.powered_page hg]
    exact ⟨⟨nofun, nofun⟩, ⟨nofun, nofun⟩⟩
  · rw [s.powered_port]
    exact ⟨⟨nofun, nofun⟩, fun _ => rfl, nofun, nofun⟩

theorem State.powered_basketLaw : BasketLaw s.powered := by
  refine .of_reset rfl rfl fun k => ?_
  obtain ⟨b, hline⟩ := s.powered_every_line k
  rw [hline]
  rfl

theorem State.powered_recordsLaw : RecordsLaw s.powered :=
  ⟨s.powered_basketLaw, s.powered_holdLaw, s.powered_fitLaw, s.powered_slotLaw, s.powered_pageLaw, s.powered_spikeLaw,
    s.powered_jobLaw⟩

end Powered

/-- The state right after reset is the one a power reset of it leaves. -/
theorem State.powered_reset : State.reset.powered = State.reset := by
  simp only [State.powered, State.reset, Vector.map_replicate]

/-- Settles O3: every law at the power-reset values. -/
theorem resetIsLawful : Obligations.ResetIsLawful :=
  ⟨channelLaw_iff.2 (Channel.Law.reset Channel.reset.rx), Clock.reset_law, State.reset_flashLaw, outputLaw_of_reset rfl,
    storeLaw_copyLaw.reset _ rfl rfl, blockLaw_copyLaw.reset _ rfl rfl,
    State.powered_reset ▸ State.reset.powered_recordsLaw⟩

end Sys2Proof.Machine

/-! The law of holds lets a SIGNON wait at a READY line, and there the SIGNON breaks the law of R61. -/

namespace Sys2Proof.Machine

section SignonWaits
variable {s : State}

/-- A SIGNON that waits for its block is taken from any state of its line (R74). -/
theorem exec_signon_of_waiting {k : Fin 32} {user : Nat} (hwaits : s.waiting k (.signon k user) = true) (hlow : 1 ≤ user)
    (hhigh : user ≤ 9999) : exec (.signon k user) s = .next (s.beginSignon k user) := by
  have hoffer : s.offerFrame k (.signon k user) = s := by rw [State.offerFrame, if_pos hwaits]
  have htakes : s.takesFrame k (.signon k user) = true := by rw [State.takesFrame, hoffer, hwaits]
  rw [execSignon_of_user htakes hlow hhigh, hoffer]

/-- A line that goes to SIGNING with a user signed on is outside the law of holds (R61). -/
theorem not_holdLaw_beginSignon (k : Fin 32) (user : Nat) (huser : (s.line k).user.isSome = true) :
    ¬ HoldLaw (s.beginSignon k user) := by
  rintro ⟨-, -, hlines⟩
  obtain ⟨-, hsigned, -⟩ := hlines k k.isLt
  rw [s.beginSignon_line k] at hsigned
  rcases hsigned.1 huser with hstate | hstate <;> cases hstate

/-- Line 0 READY with a user signed on, and a SIGNON that waits for its block. -/
def signonAtReady : Line := { Line.reset with
  state := .ready, user := some { user := 1, desk := 0, role := .reporter }
  service := some { kind := kindWord "SIGNON", cmd := some (.signon 0 1), stage := .waiting } }

/-- The state after power reset, but for line 0 and the SIGNON that is given. -/
def signonGiven : State := { State.reset.updLine 0 fun _ => signonAtReady with pending := [.signon 0 1] }

theorem State.reset_line (k : Nat) : State.reset.line k = Line.reset := by
  by_cases hk : k < 32
  · simp [State.line, State.reset, hk]
  · exact State.line_eq_reset _ hk

theorem signonGiven_line (k : Nat) : signonGiven.line k = if k = 0 then signonAtReady else Line.reset := by
  have hline : signonGiven.line k = (State.reset.updLine 0 fun _ => signonAtReady).line k := rfl
  rw [hline, State.line_updLine, State.reset_line]
  simp only [show (0 : Nat) < 32 by decide, and_true]

theorem signonGiven_users : ∀ l ∈ signonGiven.lines.toList, ∀ u ∈ l.user, u.desk < 16 := by
  intro l hl u hu
  rcases List.mem_or_eq_of_mem_set (l := State.reset.lines.toList) (i := 0) (b := signonAtReady) hl with hreset | rfl
  · rw [List.eq_of_mem_replicate (n := 32) (a := Line.reset) hreset] at hu
    cases hu
  · cases hu
    decide

/-- The law of the records holds with a SIGNON waiting at a READY line: its clause for what waits leaves out the kind there (R71). -/
theorem signonGiven_recordsLaw : RecordsLaw signonGiven := by
  obtain ⟨⟨hdesks, hbaskets, hdesk, -⟩, ⟨hholdable, -, -⟩, hfits, hslots, hpages, hspikes, hjobs⟩ :=
    State.powered_reset ▸ State.reset.powered_recordsLaw
  refine ⟨⟨hdesks, hbaskets, hdesk, signonGiven_users⟩, ⟨hholdable, fun n _ k hk => ?_, fun k _ => ?_⟩, hfits, hslots, hpages,
    hspikes, hjobs⟩
  · have hfreed : signonGiven.story n = Story.freed := State.chains_of_reset rfl n
    rw [hfreed] at hk
    cases hk
  · rw [signonGiven_line]
    split
    · exact ⟨nofun, by decide, nofun, fun _ _ _ _ _ => .inl rfl⟩
    · exact ⟨nofun, by decide, nofun, nofun⟩

end SignonWaits

/-- Refutes O11: the law of holds lets a SIGNON wait for its block at a READY line (its clause for R71 asks for the kind only at an
IDLE one); taken there, it sends the line to SIGNING with its user still signed on, against R61. -/
theorem not_recordsLawKept : ¬ Obligations.RecordsLawKept := by
  unfold Obligations.RecordsLawKept
  intro h
  have hline : ({ signonGiven with pending := [] } : State).line (0 : Fin 32) = signonAtReady := signonGiven_line 0
  have hwaits : ({ signonGiven with pending := [] } : State).waiting (0 : Fin 32) (.signon 0 1) = true :=
    State.waiting_iff.2 ⟨kindWord "SIGNON", by rw [hline]; rfl⟩
  have hstep : step signonGiven = .next ({ signonGiven with pending := [] }.beginSignon (0 : Fin 32) 1) :=
    exec_signon_of_waiting hwaits (by decide) (by decide)
  obtain ⟨-, hholds, -⟩ := h signonGiven _ signonGiven_recordsLaw hstep
  exact not_holdLaw_beginSignon 0 1 (by rw [hline]; rfl) hholds

end Sys2Proof.Machine

end
